-- ==== Sys2Proof/Word.lean ====
section
/-! DEFINITION. The one word type of the block: a byte of a bus frame (R180). Every other quantity of the
manual is a number or a name, and is held as one. -/

namespace Sys2Proof

/-- One byte on the cellar bus (R180). -/
abbrev Byte := BitVec 8

end Sys2Proof
end

