-- ==== Sys2Proof/Config.lean ====
section
/-! DEFINITION. The capacities and fixed figures of 00_scope section 6. The manual leaves no value open, so
there is no free value here (log 28). -/

namespace Sys2Proof.Config

/-- Record positions (R1). -/
abbrev recordCount : Nat := 4096
/-- Physical slot positions (R25). -/
abbrev slotCount : Nat := 4096
/-- Physical racks (R26). -/
abbrev rackCount : Nat := 16
/-- Slot positions of one rack: 32 columns of 8 levels (R25). -/
abbrev rackSlots : Nat := 256
/-- Climate windows (R39). -/
abbrev windowCount : Nat := 12
/-- Recipe classes (R43). -/
abbrev classCount : Nat := 32
/-- Sensor entries (R145). -/
abbrev sensorCount : Nat := 16
/-- Candidate List entries (R68). -/
abbrev candidateMax : Nat := 32
/-- Indexes visited by one sweep step (R61). -/
abbrev sweepWidth : Nat := 16
/-- Orders in the window (R80). -/
abbrev windowMax : Nat := 4
/-- Visits of one order (R80). -/
abbrev visitMax : Nat := 8
/-- Relocations in the queue (R110). -/
abbrev relocationMax : Nat := 8
/-- Entries of the directed list (R119). -/
abbrev directedMax : Nat := 4
/-- Positions of the discrepancy table (R133). -/
abbrev discrepancyCount : Nat := 16
/-- Unreachable reports that block a slot (R35). -/
abbrev blockAt : Nat := 3
/-- Retries of one polling transaction (R159). -/
abbrev retryMax : Nat := 8
/-- Payload bytes of a frame (R180). -/
abbrev payloadMax : Nat := 124
/-- Candidate entries carried by one READ_CANDIDATES reply (R75). -/
abbrev candidatesPerReply : Nat := 15
/-- The minute count is kept modulo this (R195). -/
abbrev minuteModulus : Nat := 4294967296
/-- The all-ones tag, which is invalid (00_scope 4.3). -/
abbrev tagAllOnes : Nat := 281474976710655
/-- The turner aisle of a robot that does not know where it is (R67). -/
abbrev aisleUnknown : Nat := 15
/-- The weight field that means absent (Table 10-3). -/
abbrev weightAbsent : Nat := 65535
/-- START in an index field (Table 10-3). -/
abbrev indexStart : Nat := 65535
/-- ALL, START, DISABLED and OFF in a one-byte field (Table 10-3). -/
abbrev byteAll : Nat := 255

end Sys2Proof.Config
end

