-- ==== Sys2Proof/Syntax.lean ====
section
/-! DEFINITION. The commands: one constructor per row of spec/opcode_table.json, with the fields the row's rule
names, each a number in the encoding of Table 10-3 (R188). A field is held as it is carried on the bus, so that
every value a frame can carry, in range or not, is a command. -/

namespace Sys2Proof

/-- A logical slot field (Table 10-4): rack 0 is NONE, whatever the other two bytes hold. -/
structure LSlot where
  rack   : Nat
  column : Nat
  level  : Nat
deriving DecidableEq, Repr

/-- A time that may be NEVER or unsupplied (Table 10-3): form 0 unsupplied, 1 a minute, 2 NEVER. -/
structure TimeField where
  form    : Nat
  minutes : Nat
deriving DecidableEq, Repr

/-- The part's two bus addresses (R178, R181). -/
inductive PortId where
  | registry
  | turner
deriving DecidableEq, Repr

/-- A reader of a reply: how many bytes it clocks in, and the levels of the straps ADDR1 and ADDR0 while it reads
(R178, R183). -/
structure Reader where
  clocked : Nat
  addr1   : Bool
  addr0   : Bool
deriving DecidableEq, Repr

/-- One command: one row of spec/opcode_table.json. -/
inductive Instr where
  -- starts, supply and the crystal (R195, R196)
  /-- POWER_UP, with the levels of the straps ADDR1 and ADDR0 at the end of the start (R178). -/
  | powerUp (addr1 addr0 : Bool)
  | resetNAssert
  /-- RESET_N_RELEASE, with the levels of the straps at the end of the start (R178). -/
  | resetNRelease (addr1 addr0 : Bool)
  | backupSupplyLoss
  | mainPowerLoss
  | clockMinuteTick
  -- the sweep and the order timers (R61, R103)
  | sweepStep
  | orderExpiry (order : Nat)
  -- polling rounds and the bus (R150 to R159)
  | roundBoundary
  /-- MEASURE: whether some node acknowledges the general-call address (R151). -/
  | measure (acknowledged : Bool)
  | conversionWaitEnd
  /-- SENSOR_READ: the node's six reply bytes, or none when it does not acknowledge its address (R153). -/
  | sensorRead (answer : Option (List Byte))
  /-- ARBITRATION_LOSS: whether the loss falls in the first byte, and the winner's first byte (R158). -/
  | arbitrationLoss (inFirstByte : Bool) (winner : Byte)
  /-- BUS_START_CONDITION: whether the part itself makes it, to begin a polling transaction (R157). -/
  | busStartCondition (own : Bool)
  | busStopCondition
  | busIdleTimeout
  -- the Bus Port (R180 to R185, R199)
  /-- WRITE_TRANSACTION at a 7-bit address: the bytes delivered after the address byte. -/
  | writeTransaction (address : Nat) (bytes : List Byte)
  /-- REPLY_READ at a 7-bit address, by a reader, with the levels the straps have by then (R178, R183). -/
  | replyRead (address : Nat) (reader : Reader)
  | clockHoldTimeout
  | restartDelayExpiry
  -- chapter 1
  | admitWheel (tag cls makeDay : Nat) (location : LSlot) (weight : Nat) (lastTurn lastBrush : TimeField)
  | lookupTag (tag : Nat)
  | lookupSlot (slot : LSlot)
  | readRecord (handle : Nat)
  | nextRecord (after : Nat)
  | amendClass (handle cls : Nat)
  | amendMakeDay (handle day : Nat)
  | amendLastTurn (handle : Nat) (time : TimeField)
  | amendLastBrush (handle : Nat) (time : TimeField)
  | amendIntakeWeight (handle weight : Nat)
  | amendLastWeight (handle weight : Nat)
  | amendLocation (handle : Nat) (location : LSlot)
  | hold (handle : Nat)
  | release (handle reason : Nat)
  | retire (handle : Nat)
  | eraseRegistry
  -- chapter 2
  | mapRack (rack logical columns levels : Nat)
  | readRack (rack : Nat)
  | readSlot (slot : LSlot)
  | unblock (slot : LSlot)
  | setWindow (window zone firstAisle lastAisle lowLevel highLevel : Nat)
  | readWindow (window : Nat)
  -- chapter 3
  | setClass (cls turnBase brushBase stretch growth ageCap turnLow turnHigh brushHigh weight turnLead brushLead
      overdueLimit : Nat)
  | readClass (cls : Nat)
  -- chapter 4
  | readCandidates (first : Nat)
  -- chapter 5, host
  | pause
  | resume
  | setDispatch (acceptAllowance orderAllowance visitAllowance aisleBonus census : Nat)
  | readDispatch
  | cancelOrders (aisle : Nat)
  | readOrders (order : Nat)
  -- chapter 6
  | relocate (handle : Nat) (destination : LSlot)
  | unrelocate (handle : Nat)
  | readRelocations
  | censusRack (rack : Nat)
  | censusRackNone
  | readCensus
  -- chapter 7
  | readDiscrepancy (position : Nat)
  | readDiscrepancyNext (after : Nat)
  | resolveDismiss (slot : LSlot)
  | resolveRescan (slot : LSlot)
  | resolveAdopt (slot : LSlot)
  -- chapter 8
  | setSensor (entry address zone : Nat)
  | readSensor (entry : Nat)
  | setPoll (run period wait : Nat)
  | readPoll
  -- chapter 9
  | setZone (zone bandLo bandHi hysteresis alarmLo alarmHi dwellRaise dwellClear gang : Nat)
  | readZone (zone : Nat)
  | ackAlarm (zone : Nat)
  -- chapter 10
  | takeAttention
  | setMask (mask : Byte)
  | readStatus
  -- chapter 11
  | setClock (minutes : Nat)
  | readClock
  | restart
  -- chapter 5, turner
  | fetch (aisle : Nat)
  | accept (order : Nat)
  | visitStart (order visit tag : Nat)
  | visitEndDone (order visit actions weight tag : Nat)
  | visitEndAborted (order visit actions weight tag : Nat)
  | visitEndDestUnreachable (order visit actions weight tag : Nat)
  | visitEndUnreachable (order visit actions weight tag : Nat)
  | visitEndAbsent (order visit actions weight tag : Nat)
  | closeOrder (order : Nat)
  | readOrder (order : Nat)
deriving DecidableEq, Repr

end Sys2Proof
end

