-- ==== Sys2Proof/WellFormed.lean ====
section
/-! DEFINITION. A command is well formed when each of its fields fits the bytes Table 10-3 gives it (R188). The
ranges a rule tests (a class above 31, a zone 0) are not tested here: such a request is taken and refused by its
owner. -/

namespace Sys2Proof

/-- A number that `bytes` bytes can carry. -/
def fits (bytes n : Nat) : Bool := decide (n < 256 ^ bytes)

/-- The three bytes of a logical slot (Table 10-4). -/
def LSlot.wf (l : LSlot) : Bool := fits 1 l.rack && fits 1 l.column && fits 1 l.level

/-- The five bytes of a time that may be NEVER (Table 10-3). -/
def TimeField.wf (t : TimeField) : Bool := fits 1 t.form && fits 4 t.minutes

/-- A 7-bit bus address (R178). -/
def busAddressWf (a : Nat) : Bool := decide (a < 128)

/-- The fields of a VISIT_END frame (R95, R188). -/
def visitEndWf (order visit actions weight tag : Nat) : Bool :=
  fits 1 order && fits 1 visit && fits 1 actions && fits 2 weight && fits 6 tag

/-- Every field of the command fits its bytes. -/
def Instr.wf : Instr → Bool
  | .powerUp _ _ => true
  | .resetNAssert => true
  | .resetNRelease _ _ => true
  | .backupSupplyLoss => true
  | .mainPowerLoss => true
  | .clockMinuteTick => true
  | .sweepStep => true
  | .orderExpiry order => fits 1 order
  | .roundBoundary => true
  | .measure _ => true
  | .conversionWaitEnd => true
  | .sensorRead none => true
  | .sensorRead (some bytes) => decide (bytes.length = 6)
  | .arbitrationLoss _ _ => true
  | .busStartCondition _ => true
  | .busStopCondition => true
  | .busIdleTimeout => true
  | .writeTransaction address _ => busAddressWf address
  | .replyRead address _ => busAddressWf address
  | .clockHoldTimeout => true
  | .restartDelayExpiry => true
  | .admitWheel tag cls makeDay location weight lastTurn lastBrush =>
    fits 6 tag && fits 1 cls && fits 2 makeDay && location.wf && fits 2 weight && lastTurn.wf && lastBrush.wf
  | .lookupTag tag => fits 6 tag
  | .lookupSlot slot => slot.wf
  | .readRecord handle => fits 2 handle
  | .nextRecord after => fits 2 after
  | .amendClass handle cls => fits 2 handle && fits 1 cls
  | .amendMakeDay handle day => fits 2 handle && fits 2 day
  | .amendLastTurn handle time => fits 2 handle && time.wf
  | .amendLastBrush handle time => fits 2 handle && time.wf
  | .amendIntakeWeight handle weight => fits 2 handle && fits 2 weight
  | .amendLastWeight handle weight => fits 2 handle && fits 2 weight
  | .amendLocation handle location => fits 2 handle && location.wf
  | .hold handle => fits 2 handle
  | .release handle reason => fits 2 handle && fits 1 reason
  | .retire handle => fits 2 handle
  | .eraseRegistry => true
  | .mapRack rack logical columns levels => fits 1 rack && fits 1 logical && fits 1 columns && fits 1 levels
  | .readRack rack => fits 1 rack
  | .readSlot slot => slot.wf
  | .unblock slot => slot.wf
  | .setWindow window zone firstAisle lastAisle lowLevel highLevel =>
    fits 1 window && fits 1 zone && fits 1 firstAisle && fits 1 lastAisle && fits 1 lowLevel && fits 1 highLevel
  | .readWindow window => fits 1 window
  | .setClass cls turnBase brushBase stretch growth ageCap turnLow turnHigh brushHigh weight turnLead brushLead
      overdueLimit =>
    fits 1 cls && fits 2 turnBase && fits 2 brushBase && fits 1 stretch && fits 2 growth && fits 2 ageCap &&
    fits 2 turnLow && fits 2 turnHigh && fits 2 brushHigh && fits 1 weight && fits 2 turnLead && fits 2 brushLead &&
    fits 2 overdueLimit
  | .readClass cls => fits 1 cls
  | .readCandidates first => fits 1 first
  | .pause => true
  | .resume => true
  | .setDispatch acceptAllowance orderAllowance visitAllowance aisleBonus census =>
    fits 2 acceptAllowance && fits 2 orderAllowance && fits 2 visitAllowance && fits 2 aisleBonus && fits 1 census
  | .readDispatch => true
  | .cancelOrders aisle => fits 1 aisle
  | .readOrders order => fits 1 order
  | .relocate handle destination => fits 2 handle && destination.wf
  | .unrelocate handle => fits 2 handle
  | .readRelocations => true
  | .censusRack rack => fits 1 rack
  | .censusRackNone => true
  | .readCensus => true
  | .readDiscrepancy position => fits 1 position
  | .readDiscrepancyNext after => fits 1 after
  | .resolveDismiss slot => slot.wf
  | .resolveRescan slot => slot.wf
  | .resolveAdopt slot => slot.wf
  | .setSensor entry address zone => fits 1 entry && fits 1 address && fits 1 zone
  | .readSensor entry => fits 1 entry
  | .setPoll run period wait => fits 1 run && fits 2 period && fits 2 wait
  | .readPoll => true
  | .setZone zone bandLo bandHi hysteresis alarmLo alarmHi dwellRaise dwellClear gang =>
    fits 1 zone && fits 2 bandLo && fits 2 bandHi && fits 2 hysteresis && fits 2 alarmLo && fits 2 alarmHi &&
    fits 1 dwellRaise && fits 1 dwellClear && fits 1 gang
  | .readZone zone => fits 1 zone
  | .ackAlarm zone => fits 1 zone
  | .takeAttention => true
  | .setMask _ => true
  | .readStatus => true
  | .setClock minutes => fits 4 minutes
  | .readClock => true
  | .restart => true
  | .fetch aisle => fits 1 aisle
  | .accept order => fits 1 order
  | .visitStart order visit tag => fits 1 order && fits 1 visit && fits 6 tag
  | .visitEndDone order visit actions weight tag => visitEndWf order visit actions weight tag
  | .visitEndAborted order visit actions weight tag => visitEndWf order visit actions weight tag
  | .visitEndDestUnreachable order visit actions weight tag => visitEndWf order visit actions weight tag
  | .visitEndUnreachable order visit actions weight tag => visitEndWf order visit actions weight tag
  | .visitEndAbsent order visit actions weight tag => visitEndWf order visit actions weight tag
  | .closeOrder order => fits 1 order
  | .readOrder order => fits 1 order

end Sys2Proof
end

