-- ==== Sys2Proof/Machine/Table.lean ====
section
/-! DEFINITION. Numbered tables: what the part keeps under an index (records, slots, racks, windows, classes,
zones, sensor entries, discrepancy positions, the tag index). A table is a list of (number, value) pairs in one
canonical form: numbers strictly rising, and, for a table whose every number holds a value, no pair equal to the
value an unlisted number reads as. Equal tables are then equal data. -/

namespace Sys2Proof.Machine

/-- A numbered table. -/
abbrev Table (α : Type) := List (Nat × α)

variable {α : Type}

/-- The value listed at a number, if one is. -/
def Table.read? : Table α → Nat → Option α
  | [], _ => none
  | (k, v) :: rest, i => if k = i then some v else Table.read? rest i

/-- The table with a value listed at a number, in its place. -/
def Table.write : Table α → Nat → α → Table α
  | [], i, a => [(i, a)]
  | (k, v) :: rest, i, a =>
    if i < k then (i, a) :: (k, v) :: rest
    else if i = k then (i, a) :: rest
    else (k, v) :: Table.write rest i a

/-- The table with nothing listed at a number. -/
def Table.clear : Table α → Nat → Table α
  | [], _ => []
  | (k, v) :: rest, i => if k = i then Table.clear rest i else (k, v) :: Table.clear rest i

/-- The value at a number of a table whose every number holds a value: `d` where nothing is listed. -/
def Table.readD (t : Table α) (d : α) (i : Nat) : α := (Table.read? t i).getD d

/-- The table with a number's value replaced, listing nothing where the value is the default `d`. -/
def Table.writeD [DecidableEq α] (t : Table α) (d : α) (i : Nat) (a : α) : Table α :=
  if a = d then Table.clear t i else Table.write t i a

/-- Every listed value changed. -/
def Table.mapValues (t : Table α) (f : Nat → α → α) : Table α := t.map fun e => (e.1, f e.1 e.2)

/-- Every listed value changed, listing nothing where the new value is the default. -/
def Table.mapD [DecidableEq α] (t : Table α) (d : Nat → α) (f : Nat → α → α) : Table α :=
  (Table.mapValues t f).filter fun e => decide (e.2 ≠ d e.1)

/-- The numbers of the table strictly rise. -/
def Table.ordered : Table α → Bool
  | [] => true
  | [_] => true
  | (k, _) :: (j, b) :: rest => decide (k < j) && Table.ordered ((j, b) :: rest)

/-- The table lists no value equal to the default of its number. -/
def Table.noDefault [DecidableEq α] (t : Table α) (d : Nat → α) : Bool := t.all fun e => decide (e.2 ≠ d e.1)

/-- The canonical form of a table whose every number holds a value. -/
def Table.canonical [DecidableEq α] (t : Table α) (d : Nat → α) : Bool := Table.ordered t && Table.noDefault t d

end Sys2Proof.Machine
end

