-- ==== Sys2Proof/Machine/State.lean ====
section
/-! DEFINITION. The state of the part, block by block as 00_scope section 3 lists them: every piece of state the
spec names, as plain data, and its value after a cold start (R197). A physical slot is held as its place in
physical order, 0..4095: rack * 256 + column * 8 + level (R25). A time is a number of minutes. -/

namespace Sys2Proof.Machine

/-! ## Wheel Registry (chapter 1) -/

/-- The claim of a record (R20). -/
inductive Claim where
  | none
  | claimed
  | inHand
deriving DecidableEq, Repr

/-- A hold reason (R21, R22), in the bit order of Table 10-3. -/
inductive HoldReason where
  | host
  | missing
  | misplaced
  | blockedSlot
  | unconfirmed
deriving DecidableEq, Repr

/-- The stored hold reasons of a record (R21). MISPLACED is never stored (R22). -/
structure Holds where
  host        : Bool
  missing     : Bool
  blockedSlot : Bool
  unconfirmed : Bool
deriving DecidableEq, Repr

/-- The empty stored hold set. -/
def Holds.empty : Holds := ⟨false, false, false, false⟩

/-- A wheel record (Table 1-1). Its handle is its index with the generation of that index (R3). -/
structure WheelRecord where
  tag               : Nat
  cls               : Nat
  makeDay           : Nat
  location          : Option Nat
  lastTurn          : Nat
  lastBrush         : Option Nat
  turnCount         : Nat
  brushCount        : Nat
  intakeWeight      : Option Nat
  lastWeight        : Option Nat
  admittedAt        : Nat
  claim             : Claim
  holds             : Holds
  overdue           : Bool
  relocationPending : Bool
deriving DecidableEq, Repr

/-- The Wheel Registry (R1 to R4, R24). The free set is the set of indexes with no live record (R2). -/
structure Registry where
  /-- live records by index (R1) -/
  records      : Table WheelRecord
  /-- the generation of each index, 0 where unlisted (R3) -/
  generations  : Table Nat
  /-- the tag index, by tag (R4) -/
  tagIndex     : Table Nat
  /-- the overdue count (R23) -/
  overdueCount : Nat
deriving DecidableEq, Repr

/-! ## Shelf Map (chapter 2) -/

/-- A rack record (R26): `logical` none is DISABLED. -/
structure RackRecord where
  logical : Option Nat
  columns : Nat
  levels  : Nat
deriving DecidableEq, Repr

/-- The cold default of physical rack p (R26). -/
def RackRecord.cold (p : Nat) : RackRecord := ⟨some (p + 1), 32, 8⟩

/-- The condition of a slot (R31). -/
inductive Condition where
  | opened
  | blocked
deriving DecidableEq, Repr

/-- A slot record (Table 2-1): `occupant` none is EMPTY, `verified` none is NEVER. -/
structure SlotRecord where
  occupant  : Option Nat
  reserved  : Bool
  engaged   : Bool
  condition : Condition
  count     : Nat
  review    : Bool
  verified  : Option Nat
deriving DecidableEq, Repr

/-- A slot after a cold start (R42). -/
def SlotRecord.cold : SlotRecord := ⟨none, false, false, .opened, 0, false, none⟩

/-- A climate window (R39): `zone` none is OFF. -/
structure Window where
  zone       : Option Nat
  firstAisle : Nat
  lastAisle  : Nat
  lowLevel   : Nat
  highLevel  : Nat
deriving DecidableEq, Repr

/-- A window after a cold start (R39). -/
def Window.cold : Window := ⟨none, 0, 0, 0, 0⟩

/-- The Shelf Map (R25 to R42). -/
structure ShelfMap where
  /-- by physical rack -/
  racks   : Table RackRecord
  /-- by physical slot position -/
  slots   : Table SlotRecord
  /-- by window number -/
  windows : Table Window
deriving DecidableEq, Repr

/-! ## Class Table (chapter 3) -/

/-- A class record (Table 3-1). -/
structure ClassRecord where
  turnBase     : Nat
  brushBase    : Nat
  stretch      : Nat
  growth       : Nat
  ageCap       : Nat
  turnLow      : Nat
  turnHigh     : Nat
  brushHigh    : Nat
  weight       : Nat
  turnLead     : Nat
  brushLead    : Nat
  overdueLimit : Nat
deriving DecidableEq, Repr

/-- The cold default of every class (R43). -/
def ClassRecord.cold : ClassRecord := ⟨1440, 0, 0, 0, 100, 100, 100, 100, 1, 60, 60, 720⟩

/-! ## Sweep Unit and Candidate List (chapter 4) -/

/-- The Sweep Unit (R61, R67). -/
structure Sweep where
  cursor      : Nat
  turnerAisle : Nat
deriving DecidableEq, Repr

/-- A set of actions (R81, Table 10-3). -/
structure ActionSet where
  turn  : Bool
  brush : Bool
  scan  : Bool
  move  : Bool
deriving DecidableEq, Repr

/-- An entry of the Candidate List (R68). -/
structure Candidate where
  handle  : Nat
  actions : ActionSet
  score   : Int
  aisle   : Nat
deriving DecidableEq, Repr

/-! ## Dispatcher (chapter 5) -/

/-- The dispatch state (R78). -/
inductive DispatchState where
  | paused
  | running
deriving DecidableEq, Repr

/-- The dispatch settings (R79). -/
structure DispatchSettings where
  acceptAllowance : Nat
  orderAllowance  : Nat
  visitAllowance  : Nat
  aisleBonus      : Nat
  census          : Bool
deriving DecidableEq, Repr

/-- The cold defaults of R79. -/
def DispatchSettings.cold : DispatchSettings := ⟨30, 600, 120, 240, true⟩

/-- The state of a visit (R81). -/
inductive VisitState where
  | waiting
  | started
  | done
  | skipped
  | withdrawn
deriving DecidableEq, Repr

/-- A visit record (R81). Records are named by handle, slots by position. -/
structure Visit where
  number    : Nat
  source    : Nat
  actions   : ActionSet
  wheel     : Option Nat
  compared  : Option Nat
  tag       : Nat
  dest      : Option Nat
  proceeded : Option ActionSet
  state     : VisitState
deriving DecidableEq, Repr

/-- The kind of an order (R80). -/
inductive OrderKind where
  | batch
  | move
deriving DecidableEq, Repr

/-- The state of an order (R80). -/
inductive OrderState where
  | issued
  | accepted
  | cancelling
deriving DecidableEq, Repr

/-- An order record (R80). -/
structure Order where
  number : Nat
  kind   : OrderKind
  aisle  : Nat
  state  : OrderState
  timer  : Nat
  visits : List Visit
deriving DecidableEq, Repr

/-- The Dispatcher (R78 to R83). The window lists its orders in the order they were issued. -/
structure Dispatcher where
  state      : DispatchState
  window     : List Order
  lastNumber : Nat
  settings   : DispatchSettings
deriving DecidableEq, Repr

/-! ## Relocation Queue and Census Unit (chapter 6) -/

/-- The state of a relocation (R110). -/
inductive RelocationState where
  | queued
  | issued
deriving DecidableEq, Repr

/-- A relocation (R110): the wheel by handle, the destination by position. -/
structure Relocation where
  wheel : Nat
  dest  : Nat
  state : RelocationState
deriving DecidableEq, Repr

/-- An entry of the directed list (R119): the walk position is column * 8 + level within the rack. -/
structure DirectedRack where
  rack : Nat
  walk : Nat
deriving DecidableEq, Repr

/-- The Census Unit (R119). -/
structure Census where
  cursor   : Nat
  directed : List DirectedRack
deriving DecidableEq, Repr

/-! ## Reconciler (chapter 7) -/

/-- The kind of a discrepancy (R133). -/
inductive DiscrepancyKind where
  | missing
  | misplaced
  | foreign
  | unreadable
deriving DecidableEq, Repr

/-- An entry of the discrepancy table (R133): the slot by position, records by handle. -/
structure Discrepancy where
  slot       : Nat
  kind       : DiscrepancyKind
  expected   : Option Nat
  seenTag    : Option Nat
  seenRecord : Option Nat
  foundAt    : Nat
  holds      : List (Nat × HoldReason)
deriving DecidableEq, Repr

/-! ## Climate Poller (chapter 8) -/

/-- The state of a sensor entry (R145), MISSED(1..3) a value each. -/
inductive SensorState where
  | unpolled
  | ok
  | missed1
  | missed2
  | missed3
  | failed
deriving DecidableEq, Repr

/-- The last outcome of a sensor entry (R145). -/
inductive ReadOutcome where
  | none
  | good
  | noAck
  | badCheck
  | flagged
deriving DecidableEq, Repr

/-- The last reading of a sensor entry, clamped (R145, R153). -/
structure Reading where
  humidity    : Nat
  temperature : Int
  flags       : Byte
deriving DecidableEq, Repr

/-- A sensor entry (R145): address 0 is unused; `rounds` none is NEVER; `fresh` is the good reading of the
current round, humidity and temperature (R153). -/
structure SensorEntry where
  address : Nat
  zone    : Nat
  state   : SensorState
  reading : Option Reading
  outcome : ReadOutcome
  rounds  : Option Nat
  fresh   : Option (Nat × Int)
deriving DecidableEq, Repr

/-- An entry just written: UNPOLLED, with no reading, outcome NONE and rounds NEVER (R145). -/
def SensorEntry.unpolled (address zone : Nat) : SensorEntry := ⟨address, zone, .unpolled, none, .none, none, none⟩

/-- An unused entry (R145). -/
def SensorEntry.cold : SensorEntry := SensorEntry.unpolled 0 0

/-- The run setting (R148). -/
inductive RunSetting where
  | run
  | stop
deriving DecidableEq, Repr

/-- The poller state (R149). -/
inductive PollerState where
  | stopped
  | waiting
  | broadcasting
  | converting
  | reading
  | evaluating
deriving DecidableEq, Repr

/-- The bus condition (R157). -/
inductive BusCondition where
  | idle
  | busy
deriving DecidableEq, Repr

/-- What the part does after an arbitration loss, until the next stop (R158). -/
inductive LossRole where
  | none
  | serving (port : PortId)
  | offBus
deriving DecidableEq, Repr

/-- The poll settings (R148). -/
structure PollSettings where
  run    : RunSetting
  period : Nat
  wait   : Nat
deriving DecidableEq, Repr

/-- The cold defaults of R148. -/
def PollSettings.cold : PollSettings := ⟨.stop, 60, 250⟩

/-- The Climate Poller (R145 to R160). -/
structure Poller where
  /-- by entry number -/
  sensors       : Table SensorEntry
  settings      : PollSettings
  state         : PollerState
  /-- the entry whose turn it is in READING (R153) -/
  turn          : Nat
  /-- seconds to the next boundary; none while the round timer is stopped (R150) -/
  roundTimer    : Option Nat
  /-- milliseconds left of the conversion wait in progress (R152) -/
  waitLeft      : Nat
  overran       : Bool
  /-- a boundary has fallen in this round (R150, R151) -/
  boundaryFell  : Bool
  /-- the retry count of the transaction in progress (R159) -/
  retries       : Nat
  /-- the part has made the start condition of its transaction (R157) -/
  begun         : Bool
  /-- the 7-bit address at which the transaction was begun, while `begun`; 0 the general call (R151, R153) -/
  target        : Nat
  /-- the entry was changed since its read began: the result is discarded at the stop (R153) -/
  discard       : Bool
  bus           : BusCondition
  /-- no stop and no idle millisecond seen since the start of the part (R157) -/
  awaitingIdle  : Bool
  lossRole      : LossRole
  /-- MODEL'S OWN: the bytes the part last drove as master (log 33) -/
  driven        : List Byte
deriving DecidableEq, Repr

/-- The poller after a cold start (R160). -/
def Poller.cold : Poller :=
  { sensors := [], settings := PollSettings.cold, state := .stopped, turn := 0, roundTimer := none, waitLeft := 0,
    overran := false, boundaryFell := false, retries := 0, begun := false, target := 0, discard := false, bus := .busy,
    awaitingIdle := true, lossRole := .none, driven := [] }

/-! ## Zone Monitor (chapter 9) -/

/-- A zone settings record (R161). -/
structure ZoneSettings where
  bandLo     : Nat
  bandHi     : Nat
  hysteresis : Nat
  alarmLo    : Nat
  alarmHi    : Nat
  dwellRaise : Nat
  dwellClear : Nat
  gang       : Nat
deriving DecidableEq, Repr

/-- The cold defaults of R161. -/
def ZoneSettings.cold : ZoneSettings := ⟨850, 950, 10, 800, 980, 3, 3, 0⟩

/-- The band of a zone (R169). -/
inductive Band where
  | low
  | inBand
  | high
  | unknown
deriving DecidableEq, Repr

/-- The direction of an alarm (9.4). -/
inductive Direction where
  | high
  | low
deriving DecidableEq, Repr

/-- The alarm state of a zone (9.4). -/
inductive Alarm where
  | clear
  | pending (d : Direction) (count : Nat)
  | raised (d : Direction)
  | acknowledged (d : Direction)
  | settling (d : Direction) (count : Nat) (acked : Bool)
deriving DecidableEq, Repr

/-- A zone (R161, R164, R176). -/
structure Zone where
  active      : ZoneSettings
  staged      : Option ZoneSettings
  value       : Option Nat
  temperature : Option Int
  used        : Nat
  band        : Band
  alarm       : Alarm
  blind       : Bool
  assigned    : Nat
  failed      : Nat
deriving DecidableEq, Repr

/-- A zone after a cold start (R176). -/
def Zone.cold : Zone := ⟨ZoneSettings.cold, none, none, none, 0, .unknown, .clear, false, 0, 0⟩

/-! ## Bus Port and Attention Unit (chapter 10) -/

/-- The status codes of Table 10-1. -/
inductive Status where
  | ok
  | clamped
  | staged
  | pending
  | noRequest
  | badFrame
  | badKind
  | badField
  | notFound
  | staleHandle
  | duplicate
  | full
  | slotTaken
  | slotUnusable
  | busy
  | claimed
  | rackInUse
  | clockUnset
  | noWork
  | windowFull
  | unknownOrder
  | sequence
  | proceed
  | stop
  | cancelled
  | nothingToAck
deriving DecidableEq, Repr

/-- A reply: its status and payload; the frame is made of them (R180, R186). -/
structure Reply where
  status  : Status
  payload : List Byte
deriving DecidableEq, Repr

/-- What a payload of an allowed length carries: a request of the table, or a request no row spells, which its
owner refuses (log 4). -/
inductive Request where
  | command (i : Instr)
  /-- an AMEND whose selector is above 6 or does not fit its value's length (R12) -/
  | badAmend (handle : Nat)
  /-- a VISIT_END whose outcome is none of the five, or whose visit is no field of its own (R95) -/
  | badOutcome (order : Nat)
  /-- a RESOLVE whose choice is none of the three (R138), or a READ_DISCREPANCY of neither form (R137) -/
  | badForm
deriving DecidableEq, Repr

/-- The port state of one address (R181). RECEIVING keeps the reply that stood; PROCESSING holds the request in
the request slot; READY holds the reply in the reply slot. -/
inductive PortState where
  | idle
  | receiving (kept : Option Reply)
  | processing (request : Request)
  | ready (reply : Reply)
deriving DecidableEq, Repr

/-- A read transaction at one of the part's addresses: its port, and the bytes its reader clocks in (R183; log 11). -/
structure ReplyReader where
  port    : PortId
  clocked : Nat
deriving DecidableEq, Repr

/-- The Bus Port (R178 to R185, R199). -/
structure BusPort where
  registry        : PortState
  turner          : PortState
  /-- a read held with the clock low (R183) -/
  held            : Option ReplyReader
  /-- the registry address sampled at the last start (R178) -/
  registryAddress : Nat
  /-- a RESTART whose start has not begun: true while its reply stands uncollected in the slot (R199) -/
  restart         : Option Bool
  /-- MODEL'S OWN: the bytes the part last sent as target (log 33) -/
  sent            : List Byte
  /-- MODEL'S OWN: how many bytes of the last write or read transaction seen the part acknowledged as target, its
  address byte the first of them; 0 where it did not acknowledge the address (R178, R180, R181; log 33) -/
  acked           : Nat
deriving DecidableEq, Repr

/-- The attention kinds (section 10.7), in their bit order. -/
inductive AttentionKind where
  | restarted
  | alarm
  | sensor
  | overdue
  | discrepancy
  | slotBlocked
  | orderExpired
  | unconfirmed
deriving DecidableEq, Repr

/-- The Attention Unit (R192): both sets in the bit order of the kind table, as TAKE_ATTENTION carries them. -/
structure Attention where
  pending : Byte
  mask    : Byte
deriving DecidableEq, Repr

/-- The Attention Unit after every start: {RESTARTED} pending, all eight kinds enabled (R192). -/
def Attention.afterStart : Attention := ⟨0x01#8, 0xFF#8⟩

/-! ## Clock, backup domain, supply (chapter 11) -/

/-- The kind of a start (R196). -/
inductive StartKind where
  | cold
  | warm
deriving DecidableEq, Repr

/-- The Cellar Clock and Backup Domain (R194, R195). -/
structure Clock where
  minutes    : Nat
  isSet      : Bool
  backupLoss : Bool
  /-- seconds into the current minute (R195) -/
  second     : Nat
  lastStart  : StartKind
deriving DecidableEq, Repr

/-- Main power and the input pins (R178, R196, 11.5): `resetLow` is RESET_N asserted; a strap is true when high,
at the level last told (log 2). -/
structure Supply where
  mainPower : Bool
  resetLow  : Bool
  addr1     : Bool
  addr0     : Bool
deriving DecidableEq, Repr

/-- The state of the part, and the commands that wait, oldest first. -/
@[ext]
structure State where
  registry      : Registry
  shelf         : ShelfMap
  classes       : Table ClassRecord
  sweep         : Sweep
  candidates    : List Candidate
  dispatcher    : Dispatcher
  relocations   : List Relocation
  census        : Census
  discrepancies : Table Discrepancy
  poller        : Poller
  zones         : Table Zone
  port          : BusPort
  attention     : Attention
  clock         : Clock
  supply        : Supply
  pending       : List Instr
deriving DecidableEq, Repr

/-- The part right after a cold start with both straps low and no command waiting (R197; log 1, 2). -/
def State.reset : State where
  registry      := { records := [], generations := [], tagIndex := [], overdueCount := 0 }
  shelf         := { racks := [], slots := [], windows := [] }
  classes       := []
  sweep         := { cursor := 0, turnerAisle := Config.aisleUnknown }
  candidates    := []
  dispatcher    := { state := .paused, window := [], lastNumber := 0, settings := DispatchSettings.cold }
  relocations   := []
  census        := { cursor := 0, directed := [] }
  discrepancies := []
  poller        := Poller.cold
  zones         := []
  port          := { registry := .idle, turner := .idle, held := none, registryAddress := 0x2A, restart := none,
                     sent := [], acked := 0 }
  attention     := Attention.afterStart
  clock         := { minutes := 0, isSet := false, backupLoss := false, second := 0, lastStart := .cold }
  supply        := { mainPower := true, resetLow := false, addr1 := false, addr0 := false }
  pending       := []

/-- Why the part stops: never. The spec names no condition that stops it (R186: every request is answered), so
there is no fault to raise. -/
inductive Fault where
deriving DecidableEq, Repr

/-- Why a command has no meaning. -/
inductive Refusal where
  /-- Raised by exec alone, for a command with no meaning yet (none at present). Safe: the model stops. -/
  | notModelled (mnemonic : String)
deriving DecidableEq, Repr

/-- What one command answers. -/
abbrev Result := Host.Outcome State Fault Refusal

end Sys2Proof.Machine
end

