-- ==== Sys2Proof/Machine/Ops.lean ====
section
/-! DEFINITION. The named operations over the state: every reader of a record, a slot, a rack, a zone number, and
every shared change of them. Register-like things are read and written here and nowhere else. -/

namespace Sys2Proof.Machine

/-! ## Physical slots (R25) -/

/-- The position of (rack, column, level) in physical order. -/
def slotAt (rack column level : Nat) : Nat := rack * 256 + column * 8 + level

/-- The physical rack of a slot, aisle * 2 + side (R25). -/
def slotRack (p : Nat) : Nat := p / 256

/-- The aisle of a slot. -/
def slotAisle (p : Nat) : Nat := p / 512

/-- The side of a slot. -/
def slotSide (p : Nat) : Nat := p / 256 % 2

/-- The column of a slot. -/
def slotColumn (p : Nat) : Nat := p % 256 / 8

/-- The level of a slot. -/
def slotLevel (p : Nat) : Nat := p % 8

/-! ## Handles and records (R1 to R4) -/

/-- The index of a handle (R3). -/
def handleIndex (h : Nat) : Nat := h % 4096

/-- The generation of a handle (R3). -/
def handleGeneration (h : Nat) : Nat := h / 4096

/-- The record at an index, if it is live (R1). -/
def State.record? (s : State) (i : Nat) : Option WheelRecord := s.registry.records.read? i

/-- The generation of an index (R3). -/
def State.generation (s : State) (i : Nat) : Nat := s.registry.generations.readD 0 i

/-- The handle of the record at an index (R3). -/
def State.handleOf (s : State) (i : Nat) : Nat := s.generation i * 4096 + i

/-- The number of live records (R2). -/
def State.liveCount (s : State) : Nat := s.registry.records.length

/-- The lowest number from `from_` on that the table, in rising order, does not list. -/
def lowestUnlisted {α : Type} (from_ : Nat) : Table α → Nat
  | [] => from_
  | (k, _) :: rest => if k = from_ then lowestUnlisted (from_ + 1) rest else from_

/-- The free set (R2): every index with no live record. -/
def State.freeSet (s : State) : List Nat :=
  (List.range Config.recordCount).filter fun i => (s.record? i).isNone

/-- The lowest index of the free set, if it is not empty (R2). -/
def State.lowestFree? (s : State) : Option Nat :=
  let i := lowestUnlisted 0 s.registry.records
  if i < Config.recordCount then some i else none

/-- The index a handle names, unless the handle is stale (R3): its index free or its generation not the index's. -/
def State.named? (s : State) (h : Nat) : Option Nat :=
  match s.record? (handleIndex h) with
  | none => none
  | some _ => if s.generation (handleIndex h) = handleGeneration h then some (handleIndex h) else none

/-- The state with the record at an index replaced. -/
def State.setRecord (s : State) (i : Nat) (r : WheelRecord) : State :=
  { s with registry := { s.registry with records := s.registry.records.write i r } }

/-- The state with the live record at an index changed; a free index is left. -/
def State.updRecord (s : State) (i : Nat) (f : WheelRecord → WheelRecord) : State :=
  match s.record? i with
  | none => s
  | some r => s.setRecord i (f r)

/-! ## Slots, racks and windows (chapter 2) -/

/-- The record of physical rack p (R26). -/
def State.rackRecord (s : State) (p : Nat) : RackRecord := s.shelf.racks.readD (RackRecord.cold p) p

/-- The record of a slot (R31). -/
def State.slot (s : State) (p : Nat) : SlotRecord := s.shelf.slots.readD SlotRecord.cold p

/-- The state with a slot record changed. -/
def State.updSlot (s : State) (p : Nat) (f : SlotRecord → SlotRecord) : State :=
  { s with shelf := { s.shelf with slots := s.shelf.slots.writeD SlotRecord.cold p (f (s.slot p)) } }

/-- A slot lies inside a rack record's used geometry (R25). -/
def RackRecord.holds (r : RackRecord) (p : Nat) : Bool :=
  decide (slotColumn p < r.columns) && decide (slotLevel p < r.levels)

/-- A slot lies on the map under a rack record (R25): the rack is enabled and the slot inside its geometry. -/
def RackRecord.maps (r : RackRecord) (p : Nat) : Bool := r.logical.isSome && r.holds p

/-- A slot lies on the map (R25). -/
def State.onMap (s : State) (p : Nat) : Bool := (s.rackRecord (slotRack p)).maps p

/-- A slot is usable (R34). -/
def State.usable (s : State) (p : Nat) : Bool :=
  s.onMap p && decide ((s.slot p).condition = .opened)

/-- The physical rack that carries a logical number, if an enabled rack does (R26). -/
def State.rackNumbered? (s : State) (n : Nat) : Option Nat :=
  (List.range Config.rackCount).find? fun p => decide ((s.rackRecord p).logical = some n)

/-- The physical slot a logical slot names, if it names one (R26). -/
def State.physical? (s : State) (l : LSlot) : Option Nat :=
  match s.rackNumbered? l.rack with
  | none => none
  | some p =>
    if l.column < (s.rackRecord p).columns ∧ l.level < (s.rackRecord p).levels
    then some (slotAt p l.column l.level) else none

/-- The logical slot of a physical slot (R26); rack 0 where its rack is disabled, which no slot that is reported is
(log 23). -/
def State.logical (s : State) (p : Nat) : LSlot :=
  ⟨(s.rackRecord (slotRack p)).logical.getD 0, slotColumn p, slotLevel p⟩

/-- A climate window (R39). -/
def State.window (s : State) (n : Nat) : Window := s.shelf.windows.readD Window.cold n

/-- A window covers a slot (R40). -/
def Window.covers (w : Window) (p : Nat) : Bool :=
  w.zone.isSome && decide (w.firstAisle ≤ slotAisle p) && decide (slotAisle p ≤ w.lastAisle) &&
  decide (w.lowLevel ≤ slotLevel p) && decide (slotLevel p ≤ w.highLevel)

/-- The zone of a slot: that of the lowest-numbered window that covers it, or 0 (R40). -/
def State.zoneOf (s : State) (p : Nat) : Nat :=
  match (List.range Config.windowCount).find? fun n => (s.window n).covers p with
  | none => 0
  | some n => (s.window n).zone.getD 0

/-- A zone (R161). -/
def State.zone (s : State) (z : Nat) : Zone := s.zones.readD Zone.cold z

/-- The state with a zone replaced. -/
def State.setZone (s : State) (z : Nat) (v : Zone) : State := { s with zones := s.zones.writeD Zone.cold z v }

/-- A class record (R43). -/
def State.classRecord (s : State) (c : Nat) : ClassRecord := s.classes.readD ClassRecord.cold c

/-- A sensor entry (R145). -/
def State.sensor (s : State) (e : Nat) : SensorEntry := s.poller.sensors.readD SensorEntry.cold e

/-- The state with a sensor entry replaced. -/
def State.setSensorEntry (s : State) (e : Nat) (v : SensorEntry) : State :=
  { s with poller := { s.poller with sensors := s.poller.sensors.writeD SensorEntry.cold e v } }

/-! ## Attention latches (R192) -/

/-- The bit of an attention kind (section 10.7). -/
def AttentionKind.bit : AttentionKind → Byte
  | .restarted    => 0x01#8
  | .alarm        => 0x02#8
  | .sensor       => 0x04#8
  | .overdue      => 0x08#8
  | .discrepancy  => 0x10#8
  | .slotBlocked  => 0x20#8
  | .orderExpired => 0x40#8
  | .unconfirmed  => 0x80#8

/-- A block reports a cause: its kind joins the pending set, in the mask or not (R192). -/
def State.latch (s : State) (k : AttentionKind) : State :=
  { s with attention := { s.attention with pending := s.attention.pending ||| k.bit } }

/-! ## Holds and claims (R20 to R22) -/

/-- The record holds a stored reason; MISPLACED is never stored. -/
def Holds.has (h : Holds) : HoldReason → Bool
  | .host        => h.host
  | .missing     => h.missing
  | .misplaced   => false
  | .blockedSlot => h.blockedSlot
  | .unconfirmed => h.unconfirmed

/-- The stored set with one reason put in or taken out; MISPLACED is never stored. -/
def Holds.put (h : Holds) (reason : HoldReason) (b : Bool) : Holds :=
  match reason with
  | .host        => { h with host := b }
  | .missing     => { h with missing := b }
  | .misplaced   => h
  | .blockedSlot => { h with blockedSlot := b }
  | .unconfirmed => { h with unconfirmed := b }

/-- Some stored reason stands. -/
def Holds.any (h : Holds) : Bool := h.host || h.missing || h.blockedSlot || h.unconfirmed

/-- The record at an index is MISPLACED: some discrepancy entry names it as the seen record (R22). -/
def State.misplaced (s : State) (i : Nat) : Bool :=
  s.discrepancies.any fun e => decide (e.2.seenRecord = some (s.handleOf i))

/-- The hold set of the record at an index, MISPLACED included, is not empty (R1, R22). -/
def State.held (s : State) (i : Nat) (r : WheelRecord) : Bool := r.holds.any || s.misplaced i

/-- The Candidate List without a record's entry (R72). -/
def State.dropCandidate (s : State) (i : Nat) : State :=
  { s with candidates := s.candidates.filter fun c => decide (handleIndex c.handle ≠ i) }

/-- A stored reason joins a record's hold set; where it is new the record's Candidate List entry goes (R21, R72). -/
def State.addHold (s : State) (i : Nat) (reason : HoldReason) : State :=
  match s.record? i with
  | none => s
  | some r =>
    if r.holds.has reason then s
    else (s.setRecord i { r with holds := r.holds.put reason true }).dropCandidate i

/-- A stored reason leaves a record's hold set (R21). -/
def State.removeHold (s : State) (i : Nat) (reason : HoldReason) : State :=
  s.updRecord i fun r => { r with holds := r.holds.put reason false }

/-- The claim of a record changes (R20). -/
def State.setClaim (s : State) (i : Nat) (c : Claim) : State := s.updRecord i fun r => { r with claim := c }

/-- A record is dispatchable (R5). -/
def State.dispatchable (s : State) (i : Nat) (r : WheelRecord) : Bool :=
  decide (r.claim = .none) && !s.held i r &&
  match r.location with
  | none => false
  | some p => s.usable p && !(s.slot p).engaged

/-! ## The overdue flag and count (R23) -/

/-- The overdue flag of a record is set or cleared; the count follows a change of the flag, and a clear-to-set
transition latches OVERDUE (R23, R65). -/
def State.setOverdue (s : State) (i : Nat) (b : Bool) : State :=
  match s.record? i with
  | none => s
  | some r =>
    let s1 := s.setRecord i { r with overdue := b }
    match r.overdue, b with
    | false, true =>
      State.latch { s1 with registry := { s1.registry with overdueCount := s1.registry.overdueCount + 1 } } .overdue
    | true, false => { s1 with registry := { s1.registry with overdueCount := s1.registry.overdueCount - 1 } }
    | _, _ => s1

/-! ## Locations and occupants (R32) -/

/-- A record leaves its slot, if it has one: the slot becomes EMPTY and the location NONE (R32). -/
def State.unlocate (s : State) (i : Nat) : State :=
  match s.record? i with
  | none => s
  | some r =>
    match r.location with
    | none => s
    | some p => (s.updSlot p fun v => { v with occupant := none }).setRecord i { r with location := none }

/-- An unlocated record takes a slot: it becomes the slot's occupant, and the slot its location (R32). -/
def State.locate (s : State) (i p : Nat) : State :=
  (s.updSlot p fun v => { v with occupant := some i }).updRecord i fun r => { r with location := some p }

/-! ## The unreachable count (R35) -/

/-- The slot was reached: its unreachable count is 0 (R35). -/
def State.reach (s : State) (p : Nat) : State := s.updSlot p fun v => { v with count := 0 }

/-- An unreachable report at a slot: the count rises, and at 3 the slot is blocked, its occupant is held
BLOCKED_SLOT and SLOT_BLOCKED is latched (R35). -/
def State.unreachable (s : State) (p : Nat) : State :=
  let n := (s.slot p).count + 1
  if n < Config.blockAt then s.updSlot p fun v => { v with count := n }
  else
    let s1 := s.updSlot p fun v => { v with count := Config.blockAt, condition := .blocked }
    let s2 := match (s1.slot p).occupant with
      | none => s1
      | some i => s1.addHold i .blockedSlot
    s2.latch .slotBlocked

/-! ## Relocations leaving the queue (R115) -/

/-- The relocation of a wheel, if the queue holds one (R110). -/
def State.relocationOf? (s : State) (h : Nat) : Option Relocation :=
  s.relocations.find? fun q => decide (q.wheel = h)

/-- The relocation of a wheel leaves the queue: its destination's reservation and the wheel's relocation-pending
flag are cleared (R115). -/
def State.endRelocation (s : State) (h : Nat) : State :=
  match s.relocationOf? h with
  | none => s
  | some q =>
    let s1 := { s with relocations := s.relocations.filter fun q => decide (q.wheel ≠ h) }
    (s1.updSlot q.dest fun v => { v with reserved := false }).updRecord (handleIndex h)
      fun r => { r with relocationPending := false }

/-- The relocation of a wheel changes its state, keeping its position (R110). -/
def State.setRelocation (s : State) (h : Nat) (st : RelocationState) : State :=
  { s with relocations := s.relocations.map fun q => if q.wheel = h then { q with state := st } else q }

end Sys2Proof.Machine
end

