-- ==== Sys2Proof/Machine/Operands.lean ====
section
/-! DEFINITION. The operand forms: how a field of a request, as it is carried on the bus (Table 10-3), is read by
the block that owns the request. -/

namespace Sys2Proof.Machine

/-- A logical slot field is NONE: its rack byte is 0 (R189). -/
def isNone (l : LSlot) : Bool := decide (l.rack = 0)

/-- A valid tag: neither 0 nor all-ones (00_scope 4.3). -/
def validTag (t : Nat) : Bool := decide (t ≠ 0) && decide (t ≠ Config.tagAllOnes)

/-- What a time field says (Table 10-3). -/
inductive TimeValue where
  | unsupplied
  | minute (n : Nat)
  | never
deriving DecidableEq, Repr

/-- A time field read: none where the form is above 2, or where the minutes of a form other than 1 are not 0
(R188; DEDUCED, log 16). -/
def timeValue? (t : TimeField) : Option TimeValue :=
  if t.form = 1 then some (.minute t.minutes)
  else if t.minutes ≠ 0 then none
  else if t.form = 0 then some .unsupplied
  else if t.form = 2 then some .never
  else none

/-- A weight field read: FFFFh is absent (Table 10-3). -/
def weightValue (w : Nat) : Option Nat := if w = Config.weightAbsent then none else some w

/-- A minute given by the host, not later than now (R7, R13). -/
def notAfter (now t : Nat) : Nat := min now t

/-- A setting brought into its range (R44, R79, R148, R162). -/
def clampTo (low high v : Nat) : Nat := max low (min high v)

/-- The empty action set. -/
def ActionSet.empty : ActionSet := ⟨false, false, false, false⟩

/-- The action set MOVE alone. -/
def ActionSet.moveOnly : ActionSet := ⟨false, false, false, true⟩

/-- The action set SCAN alone. -/
def ActionSet.scanOnly : ActionSet := ⟨false, false, true, false⟩

/-- No action is in the set. -/
def ActionSet.isEmpty (a : ActionSet) : Bool := !(a.turn || a.brush || a.scan || a.move)

/-- Every action of the one set is in the other. -/
def ActionSet.within (a b : ActionSet) : Bool :=
  (!a.turn || b.turn) && (!a.brush || b.brush) && (!a.scan || b.scan) && (!a.move || b.move)

/-- The number of an action set, bit 0 TURN, bit 1 BRUSH, bit 2 SCAN, bit 3 MOVE (Table 10-3). -/
def ActionSet.number (a : ActionSet) : Nat :=
  a.turn.toNat + 2 * a.brush.toNat + 4 * a.scan.toNat + 8 * a.move.toNat

/-- The action set a byte carries; none where an unused bit is set (R188). -/
def actionSet? (n : Nat) : Option ActionSet :=
  if n < 16 then
    some ⟨decide (n % 2 = 1), decide (n / 2 % 2 = 1), decide (n / 4 % 2 = 1), decide (n / 8 % 2 = 1)⟩
  else none

/-- The stored hold reason a RELEASE names, by its bit number: MISPLACED and any number that names no hold give
none (R17, Table 10-3). -/
def storedReason? (n : Nat) : Option HoldReason :=
  if n = 0 then some .host
  else if n = 1 then some .missing
  else if n = 3 then some .blockedSlot
  else if n = 4 then some .unconfirmed
  else none

/-- The bit number of a hold reason (Table 10-3). -/
def HoldReason.number : HoldReason → Nat
  | .host        => 0
  | .missing     => 1
  | .misplaced   => 2
  | .blockedSlot => 3
  | .unconfirmed => 4

/-- A yes or no field: no is 0 and yes is 1 (Table 10-3). -/
def yesNo? (n : Nat) : Option Bool :=
  if n = 0 then some false else if n = 1 then some true else none

/-- The run setting a field names: RUN is 0 and STOP is 1, in the order R148's table gives them (Table 10-3; log 15). -/
def runSetting? (n : Nat) : Option RunSetting :=
  if n = 0 then some .run else if n = 1 then some .stop else none

/-- The two 7-bit addresses of the part, by the sampled registry address (R178). -/
def State.ownAddress (s : State) (a : Nat) : Bool :=
  decide (a = s.port.registryAddress) || decide (a = s.port.registryAddress + 1)

/-- The port a bus address names, if it names one of the part's own (R178). -/
def State.portAt? (s : State) (a : Nat) : Option PortId :=
  if a = s.port.registryAddress then some .registry
  else if a = s.port.registryAddress + 1 then some .turner
  else none

end Sys2Proof.Machine
end

