-- ==== Sys2Proof/Machine/Encode.lean ====
section
/-! DEFINITION. What the part sends: the encodings of Table 10-3 and the layouts of section 10.6 (R186, R188 to
R191), as lists of bytes. The byte order is decided here alone: most significant byte first. -/

namespace Sys2Proof.Machine

/-- A number in the given count of bytes, most significant first (R188). -/
def be : Nat → Nat → List Byte
  | 0, _ => []
  | k + 1, n => BitVec.ofNat 8 (n / 256 ^ k) :: be k n

/-- A signed number in two's complement (Table 10-3). -/
def beInt (k : Nat) (z : Int) : List Byte := be k (z % (256 ^ k : Nat)).toNat

/-- A yes or no byte. -/
def beBool (b : Bool) : List Byte := be 1 b.toNat

/-- A flag that is set or clear, for which Table 10-3 has no row. MODEL'S CHOICE (log 15): one byte, 1 when set and 0
when clear. -/
def beFlag (b : Bool) : List Byte := be 1 b.toNat

/-- An optional field: a presence byte, then the field, all 0 when absent (Table 10-3). -/
def beOption (k : Nat) : Option Nat → List Byte
  | none => be 1 0 ++ be k 0
  | some n => be 1 1 ++ be k n

/-- A time that may be NEVER: form 2 with 0, or form 1 with the minutes (Table 10-3). -/
def beTime : Option Nat → List Byte
  | none => be 1 2 ++ be 4 0
  | some n => be 1 1 ++ be 4 n

/-- A weight: FFFFh absent. -/
def beWeight (w : Option Nat) : List Byte := be 2 (w.getD Config.weightAbsent)

/-- A logical slot (Table 10-4). -/
def beLSlot (l : LSlot) : List Byte := be 1 l.rack ++ be 1 l.column ++ be 1 l.level

/-- A physical slot (Table 10-4). -/
def bePhysical (p : Nat) : List Byte :=
  be 1 (slotAisle p) ++ be 1 (slotSide p) ++ be 1 (slotColumn p) ++ be 1 (slotLevel p)

/-! ## Statuses and frames (R180, R186) -/

/-- The code of a status (Table 10-1). -/
def Status.code : Status → Byte
  | .ok => 0x00#8
  | .clamped => 0x01#8
  | .staged => 0x02#8
  | .pending => 0x03#8
  | .noRequest => 0x04#8
  | .badFrame => 0x10#8
  | .badKind => 0x11#8
  | .badField => 0x12#8
  | .notFound => 0x13#8
  | .staleHandle => 0x14#8
  | .duplicate => 0x15#8
  | .full => 0x16#8
  | .slotTaken => 0x17#8
  | .slotUnusable => 0x18#8
  | .busy => 0x19#8
  | .claimed => 0x1A#8
  | .rackInUse => 0x1B#8
  | .clockUnset => 0x1C#8
  | .noWork => 0x20#8
  | .windowFull => 0x21#8
  | .unknownOrder => 0x22#8
  | .sequence => 0x23#8
  | .proceed => 0x24#8
  | .stop => 0x25#8
  | .cancelled => 0x26#8
  | .nothingToAck => 0x27#8

/-- A reply of length 0. -/
def Reply.bare (st : Status) : Reply := ⟨st, []⟩

/-- OK with a payload. -/
def Reply.ok (payload : List Byte) : Reply := ⟨.ok, payload⟩

/-- The sum of bytes modulo 256 (R180). -/
def byteSum (l : List Byte) : Byte := l.foldr (fun b a => b + a) 0#8

/-- A frame: its first byte, its length, its payload and the check that brings its sum to 0 (R180). -/
def frameOf (head : Byte) (payload : List Byte) : List Byte :=
  let body := head :: BitVec.ofNat 8 payload.length :: payload
  body ++ [- byteSum body]

/-- The frame of a reply (R180). -/
def Reply.frame (r : Reply) : List Byte := frameOf r.status.code r.payload

/-- The bytes a reader receives who clocks in `n` bytes of a frame: beyond the check byte, FFh (R183). -/
def clockedBytes (frame : List Byte) (n : Nat) : List Byte :=
  frame.take n ++ List.replicate (n - frame.length) 0xFF#8

/-! ## Named values, numbered in the order their rules give them (Table 10-3; log 15) -/

/-- Claim (Table 10-5). -/
def Claim.number : Claim → Nat
  | .none => 0
  | .claimed => 1
  | .inHand => 2

/-- Condition (Table 2-1). -/
def Condition.number : Condition → Nat
  | .opened => 0
  | .blocked => 1

/-- Order kind (Table 10-6). -/
def OrderKind.number : OrderKind → Nat
  | .batch => 0
  | .move => 1

/-- Order state (R190). -/
def OrderState.number : OrderState → Nat
  | .issued => 0
  | .accepted => 1
  | .cancelling => 2

/-- Visit state (R190). -/
def VisitState.number : VisitState → Nat
  | .waiting => 0
  | .started => 1
  | .done => 2
  | .skipped => 3
  | .withdrawn => 4

/-- Relocation state (R110). -/
def RelocationState.number : RelocationState → Nat
  | .queued => 0
  | .issued => 1

/-- Discrepancy kind (R191). -/
def DiscrepancyKind.number : DiscrepancyKind → Nat
  | .missing => 0
  | .misplaced => 1
  | .foreign => 2
  | .unreadable => 3

/-- Sensor state (R145). -/
def SensorState.number : SensorState → Nat
  | .unpolled => 0
  | .ok => 1
  | .missed1 => 2
  | .missed2 => 3
  | .missed3 => 4
  | .failed => 5

/-- Last outcome (R145). -/
def ReadOutcome.number : ReadOutcome → Nat
  | .none => 0
  | .good => 1
  | .noAck => 2
  | .badCheck => 3
  | .flagged => 4

/-- Run setting (R148). -/
def RunSetting.number : RunSetting → Nat
  | .run => 0
  | .stop => 1

/-- Poller state (R194). -/
def PollerState.number : PollerState → Nat
  | .stopped => 0
  | .waiting => 1
  | .broadcasting => 2
  | .converting => 3
  | .reading => 4
  | .evaluating => 5

/-- Band (R164). -/
def Band.number : Band → Nat
  | .low => 0
  | .inBand => 1
  | .high => 2
  | .unknown => 3

/-- Direction (R191). -/
def Direction.number : Direction → Nat
  | .high => 0
  | .low => 1

/-- Start kind (R194). -/
def StartKind.number : StartKind → Nat
  | .cold => 0
  | .warm => 1

/-! ## Layouts (R189 to R191) -/

/-- The hold set byte, MISPLACED included (Table 10-3). -/
def holdSetNumber (h : Holds) (misplaced : Bool) : Nat :=
  h.host.toNat + 2 * h.missing.toNat + 4 * misplaced.toNat + 8 * h.blockedSlot.toNat + 16 * h.unconfirmed.toNat

/-- A wheel record as read, 36 bytes (Table 10-5). -/
def State.encodeRecord (s : State) (i : Nat) (r : WheelRecord) : List Byte :=
  be 2 (s.handleOf i) ++ be 6 r.tag ++ be 1 r.cls ++ be 2 r.makeDay ++
  (match r.location with
   | none => be 3 0
   | some p => beLSlot (s.logical p)) ++
  be 4 r.lastTurn ++ be 4 (r.lastBrush.getD 0) ++ be 2 r.turnCount ++ be 2 r.brushCount ++
  beWeight r.intakeWeight ++ beWeight r.lastWeight ++ be 4 r.admittedAt ++
  be 1 (holdSetNumber r.holds (s.misplaced i)) ++
  be 1 (r.claim.number + 4 * r.overdue.toNat + 8 * r.relocationPending.toNat + 16 * r.lastBrush.isNone.toNat)

/-- A rack record: logical number or FFh, columns, levels (R30). -/
def encodeRack (r : RackRecord) : List Byte :=
  be 1 (r.logical.getD Config.byteAll) ++ be 1 r.columns ++ be 1 r.levels

/-- A window: zone or FFh, aisles, levels (R39). -/
def encodeWindow (w : Window) : List Byte :=
  be 1 (w.zone.getD Config.byteAll) ++ be 1 w.firstAisle ++ be 1 w.lastAisle ++ be 1 w.lowLevel ++ be 1 w.highLevel

/-- A slot as READ_SLOT reports it (R38). MODEL'S CHOICE (log 15): the byte of the review flag, set 1. -/
def State.encodeSlot (s : State) (p : Nat) : List Byte :=
  let v := s.slot p
  bePhysical p ++ beOption 2 (v.occupant.map s.handleOf) ++ beBool v.reserved ++ beBool v.engaged ++
  be 1 v.condition.number ++ be 2 v.count ++ beFlag v.review ++ beTime v.verified ++ be 1 (s.zoneOf p)

/-- A class record, in the order of Table 3-1. -/
def encodeClass (c : ClassRecord) : List Byte :=
  be 2 c.turnBase ++ be 2 c.brushBase ++ be 1 c.stretch ++ be 2 c.growth ++ be 2 c.ageCap ++ be 2 c.turnLow ++
  be 2 c.turnHigh ++ be 2 c.brushHigh ++ be 1 c.weight ++ be 2 c.turnLead ++ be 2 c.brushLead ++ be 2 c.overdueLimit

/-- A Candidate List entry, 8 bytes (R191). -/
def encodeCandidate (c : Candidate) : List Byte :=
  be 2 c.handle ++ be 1 c.actions.number ++ beInt 4 c.score ++ be 1 c.aisle

/-- The dispatch settings (R79). -/
def encodeDispatch (d : DispatchSettings) : List Byte :=
  be 2 d.acceptAllowance ++ be 2 d.orderAllowance ++ be 2 d.visitAllowance ++ be 2 d.aisleBonus ++ beBool d.census

/-- The visit-number and action byte (Table 10-6). -/
def encodeVisitHead (v : Visit) : List Byte := be 1 (v.number * 16 + v.actions.number)

/-- The visit state and proceeded set byte (R190). -/
def encodeVisitState (v : Visit) : List Byte :=
  be 1 (v.state.number + 16 * (v.proceeded.getD ActionSet.empty).number)

/-- The order frame (Table 10-6). -/
def encodeOrder (o : Order) : List Byte :=
  be 1 o.number ++ be 1 o.kind.number ++ be 1 o.aisle ++ be 1 o.visits.length ++
  (o.visits.flatMap fun v => encodeVisitHead v ++ bePhysical v.source ++ be 6 v.tag) ++
  (match o.kind with
   | .batch => []
   | .move => o.visits.flatMap fun v => (v.dest.map bePhysical).getD [])

/-- READ_ORDER of one order: its frame, then one byte for each visit (R190). -/
def encodeOrderRead (o : Order) : List Byte := encodeOrder o ++ o.visits.flatMap encodeVisitState

/-- The record of one order in READ_ORDER(ALL) (R190). -/
def encodeOrderBrief (o : Order) : List Byte :=
  be 1 o.number ++ be 1 o.kind.number ++ be 1 o.aisle ++ be 1 o.state.number

/-- How many visits of an order stand in a state. -/
def Order.countIn (o : Order) (st : VisitState) : Nat := (o.visits.filter fun v => decide (v.state = st)).length

/-- The record of one order in READ_ORDERS(ALL), 12 bytes (R190). -/
def encodeOrderSummary (o : Order) : List Byte :=
  encodeOrderBrief o ++ be 2 o.timer ++ be 1 o.visits.length ++ be 1 (o.countIn .waiting) ++
  be 1 (o.countIn .started) ++ be 1 (o.countIn .done) ++ be 1 (o.countIn .skipped) ++ be 1 (o.countIn .withdrawn)

/-- READ_ORDERS of one order (R190). -/
def State.encodeOrderFull (s : State) (o : Order) : List Byte :=
  encodeOrderBrief o ++ be 2 o.timer ++ be 1 o.visits.length ++
  (o.visits.flatMap fun v =>
    encodeVisitHead v ++ beLSlot (s.logical v.source) ++ be 2 (v.compared.getD 0) ++ be 6 v.tag ++ encodeVisitState v) ++
  (match o.kind with
   | .batch => []
   | .move => o.visits.flatMap fun v => (v.dest.map fun p => beLSlot (s.logical p)).getD [])

/-- One relocation in READ_RELOCATIONS: position, handle, destination, state (R117). -/
def State.encodeRelocation (s : State) (position : Nat) (q : Relocation) : List Byte :=
  be 1 position ++ be 2 q.wheel ++ beLSlot (s.logical q.dest) ++ be 1 q.state.number

/-- One directed entry in READ_CENSUS: rack, logical number or DISABLED, walk position (R125). -/
def State.encodeDirected (s : State) (d : DirectedRack) : List Byte :=
  be 1 d.rack ++ be 1 ((s.rackRecord d.rack).logical.getD Config.byteAll) ++ be 1 (d.walk / 8) ++ be 1 (d.walk % 8)

/-- One of the two pairs of holds placed: handle and reason, 0 when unused (R191). -/
def encodeHoldPair : Option (Nat × HoldReason) → List Byte
  | none => be 3 0
  | some (h, reason) => be 2 h ++ be 1 reason.number

/-- A discrepancy entry, 32 bytes (R191). -/
def State.encodeDiscrepancy (s : State) (position : Nat) (e : Discrepancy) : List Byte :=
  be 1 s.discrepancies.length ++ be 1 position ++ bePhysical e.slot ++ beLSlot (s.logical e.slot) ++
  be 1 e.kind.number ++
  be 1 (e.expected.isSome.toNat + 2 * e.seenTag.isSome.toNat + 4 * e.seenRecord.isSome.toNat) ++
  be 2 (e.expected.getD 0) ++ be 6 (e.seenTag.getD 0) ++ be 2 (e.seenRecord.getD 0) ++ be 4 e.foundAt ++
  be 1 e.holds.length ++ encodeHoldPair e.holds[0]? ++ encodeHoldPair e.holds[1]?

/-- A sensor entry, in the order of R145; the zone of an unused entry is reported as 0. MODEL'S CHOICE (log 14): the
address takes one byte. -/
def encodeSensor (e : SensorEntry) : List Byte :=
  be 1 e.address ++ be 1 (if e.address = 0 then 0 else e.zone) ++ be 1 e.state.number ++
  (match e.reading with
   | none => be 1 0 ++ be 5 0
   | some r => be 1 1 ++ be 2 r.humidity ++ beInt 2 r.temperature ++ [r.flags]) ++
  be 1 e.outcome.number ++ beOption 2 e.rounds

/-- The poll settings (R148). -/
def encodePollSettings (p : PollSettings) : List Byte := be 1 p.run.number ++ be 2 p.period ++ be 2 p.wait

/-- A zone settings record, in the order of R161. -/
def encodeZoneSettings (z : ZoneSettings) : List Byte :=
  be 2 z.bandLo ++ be 2 z.bandHi ++ be 2 z.hysteresis ++ be 2 z.alarmLo ++ be 2 z.alarmHi ++
  be 1 z.dwellRaise ++ be 1 z.dwellClear ++ be 1 z.gang

/-- An alarm state, four bytes (R191). -/
def encodeAlarm : Alarm → List Byte
  | .clear => be 1 0 ++ be 1 0 ++ be 1 0 ++ be 1 0
  | .pending d n => be 1 1 ++ be 1 d.number ++ be 1 n ++ be 1 0
  | .raised d => be 1 2 ++ be 1 d.number ++ be 1 0 ++ be 1 0
  | .acknowledged d => be 1 3 ++ be 1 d.number ++ be 1 0 ++ be 1 0
  | .settling d n a => be 1 4 ++ be 1 d.number ++ be 1 n ++ be 1 a.toNat

end Sys2Proof.Machine
end

