-- ==== Sys2Proof/Machine/Zones.lean ====
section
/-! DEFINITION. The Zone Monitor's own computations (chapter 9): staged settings, the round's value, band, alarm,
BLIND and brush suspension. The host's requests to it are in Sys2Proof/Machine/Climate.lean. -/

namespace Sys2Proof.Machine

/-! ## Settings (R161 to R163) -/

/-- The order every stored settings record satisfies (R161). -/
def ZoneSettings.inOrder (c : ZoneSettings) : Bool :=
  decide (c.alarmLo ≤ c.bandLo) && decide (c.bandLo ≤ c.bandHi) && decide (c.bandHi ≤ c.alarmHi)

/-- A settings record with each field brought into its range (R162). -/
def ZoneSettings.clamped (c : ZoneSettings) : ZoneSettings where
  bandLo     := clampTo 0 1000 c.bandLo
  bandHi     := clampTo 0 1000 c.bandHi
  hysteresis := clampTo 0 100 c.hysteresis
  alarmLo    := clampTo 0 1000 c.alarmLo
  alarmHi    := clampTo 0 1000 c.alarmHi
  dwellRaise := clampTo 1 15 c.dwellRaise
  dwellClear := clampTo 1 15 c.dwellClear
  gang       := clampTo 0 3 c.gang

/-- A zone's staged record becomes active, and nothing else changes (R163). -/
def Zone.activate (z : Zone) : Zone :=
  match z.staged with
  | none => z
  | some c => { z with active := c, staged := none }

/-- Every staged record becomes active (R163). -/
def State.activateStaged (s : State) : State :=
  { s with zones := s.zones.mapD (fun _ => Zone.cold) fun _ z => z.activate }

/-! ## Brush suspension (R175) -/

/-- An alarm suspends brushing: it stands, with direction HIGH. -/
def Alarm.suspends : Alarm → Bool
  | .raised .high => true
  | .acknowledged .high => true
  | .settling .high _ _ => true
  | _ => false

/-- The monitored zones (R161). -/
def zoneNumbers : List Nat := [1, 2, 3, 4, 5, 6, 7, 8]

/-- A zone is brush-suspended (R175); zone 0 never is. -/
def State.brushSuspended (s : State) (z : Nat) : Bool :=
  decide (1 ≤ z) && decide (z ≤ 8) &&
  ((s.zone z).alarm.suspends ||
   (decide (1 ≤ (s.zone z).active.gang) &&
    zoneNumbers.any fun y =>
      decide (y ≠ z) && decide ((s.zone y).active.gang = (s.zone z).active.gang) && (s.zone y).alarm.suspends))

/-! ## The value (R166) -/

/-- The mean rounded to the nearest whole number, an exact half toward the higher value (R166). -/
def roundedMean (sum : Int) (n : Nat) : Int := (2 * sum + n) / (2 * n)

/-! ## The band (R169) -/

/-- The new band of a zone, from its band before, its value and its active settings (R169). -/
def judgeBand (c : ZoneSettings) (before : Band) (v : Nat) : Band :=
  match before with
  | .unknown => if c.bandHi < v then .high else if v < c.bandLo then .low else .inBand
  | .inBand => if c.bandHi < v then .high else if v < c.bandLo then .low else .inBand
  | .high => if v < c.bandLo then .low else if v + c.hysteresis ≤ c.bandHi then .inBand else .high
  | .low => if c.bandHi < v then .high else if c.bandLo + c.hysteresis ≤ v then .inBand else .low

/-! ## The alarm (R170 to R172) -/

/-- The other direction. -/
def Direction.opposite : Direction → Direction
  | .high => .low
  | .low => .high

/-- The alarm condition in a direction is present (R170). -/
def ZoneSettings.present (c : ZoneSettings) (v : Nat) : Direction → Bool
  | .high => decide (c.alarmHi < v)
  | .low => decide (v < c.alarmLo)

/-- The alarm condition in a direction is gone (R170). -/
def ZoneSettings.gone (c : ZoneSettings) (v : Nat) : Direction → Bool
  | .high => decide (v + c.hysteresis ≤ c.alarmHi)
  | .low => decide (c.alarmLo + c.hysteresis ≤ v)

/-- A condition has appeared in CLEAR: PENDING, or RAISED at once with a dwell of 1 (R171). -/
def Alarm.appear (c : ZoneSettings) (d : Direction) : Alarm := if c.dwellRaise ≤ 1 then .raised d else .pending d 1

/-- The condition of a standing alarm has gone: SETTLING, or CLEAR at once with a dwell of 1 (R172). -/
def Alarm.settle (c : ZoneSettings) (d : Direction) (acked : Bool) : Alarm :=
  if c.dwellClear ≤ 1 then .clear else .settling d 1 acked

/-- The alarm's move at an evaluation (R171, R172). -/
def judgeAlarm (c : ZoneSettings) (a : Alarm) (v : Nat) : Alarm :=
  match a with
  | .clear =>
    if c.present v .high then Alarm.appear c .high
    else if c.present v .low then Alarm.appear c .low
    else .clear
  | .pending d n =>
    if c.present v d.opposite then .raised d.opposite
    else if c.gone v d then .clear
    else if c.dwellRaise ≤ n + 1 then .raised d else .pending d (n + 1)
  | .raised d =>
    if c.present v d.opposite then .raised d.opposite
    else if c.gone v d then Alarm.settle c d false
    else .raised d
  | .acknowledged d =>
    if c.present v d.opposite then .raised d.opposite
    else if c.gone v d then Alarm.settle c d true
    else .acknowledged d
  | .settling d n acked =>
    if c.present v d.opposite then .raised d.opposite
    else if c.present v d then (if acked then .acknowledged d else .raised d)
    else if c.gone v d then (if c.dwellClear ≤ n + 1 then .clear else .settling d (n + 1) acked)
    else .settling d n acked

/-- A move latches ALARM: an entry into RAISED from any state, and an arrival at CLEAR from an alarm that stood
(R174; with a dwell_clear of 1 the alarm passes through SETTLING, log 21). -/
def alarmLatches (before after : Alarm) : Bool :=
  match after with
  | .raised _ => decide (before ≠ after)
  | .clear =>
    match before with
    | .clear => false
    | .pending _ _ => false
    | .raised _ => true
    | .acknowledged _ => true
    | .settling _ _ _ => true
  | .pending _ _ => false
  | .acknowledged _ => false
  | .settling _ _ _ => false

/-! ## A zone at the handover (R165 to R168) -/

/-- What the poller hands over for one configured entry of a zone (R155). -/
structure ZoneInput where
  failed : Bool
  fresh  : Option (Nat × Int)
deriving DecidableEq, Repr

/-- The evaluated case of R165: a new value (R166), BLIND left (R168), band and alarm judged (R169 to R172). -/
def Zone.evaluate (z : Zone) (fresh : List (Nat × Int)) : Zone :=
  let n := fresh.length
  let v := (roundedMean ((fresh.map fun r => (r.1 : Int)).sum) n).toNat
  { z with
    value := some v
    temperature := some (roundedMean ((fresh.map fun r => r.2).sum) n)
    used := n
    band := judgeBand z.active z.band v
    alarm := judgeAlarm z.active z.alarm v
    blind := false }

/-- A zone at the handover of a round, by the three cases of R165. -/
def Zone.judge (z : Zone) (entries : List ZoneInput) : Zone :=
  let z1 := { z with assigned := entries.length, failed := (entries.filter fun e : ZoneInput => e.failed).length }
  match entries.filterMap fun e => e.fresh with
  | r :: rest => z1.evaluate (r :: rest)
  | [] =>
    if entries.any fun e => !e.failed then { z1 with blind := false }
    else { z1 with blind := true, band := .unknown }

/-- The entries of a zone in the handover, in entry order (R155, R165). -/
def State.zoneInputs (s : State) (z : Nat) : List ZoneInput :=
  (List.range Config.sensorCount).filterMap fun e =>
    let v := s.sensor e
    if v.address ≠ 0 ∧ v.zone = z then some ⟨decide (v.state = .failed), v.fresh⟩ else none

/-- One zone's part of the handover, with its latches: SENSOR when BLIND is entered or left (R168), ALARM as R174
states. -/
def State.judgeZone (s : State) (z : Nat) : State :=
  let before := s.zone z
  let after := before.judge (s.zoneInputs z)
  let s1 := s.setZone z after
  let s2 := if before.blind = after.blind then s1 else s1.latch .sensor
  if alarmLatches before.alarm after.alarm then s2.latch .alarm else s2

/-- The handover: all eight zones in one event (R165). -/
def State.handover (s : State) : State := zoneNumbers.foldl (fun s z => s.judgeZone z) s

end Sys2Proof.Machine
end

