-- ==== Sys2Proof/Machine/Poller.lean ====
section
/-! DEFINITION. The Climate Poller's own operations (chapter 8): the run condition, the turn of an entry, a read's
outcome, and the end of a round. The commands that use them are in Sys2Proof/Machine/Rounds.lean. -/

namespace Sys2Proof.Machine

/-- The part works: it has main power and no start is in progress (R196). -/
def State.operating (s : State) : Bool := s.supply.mainPower && !s.supply.resetLow

/-! ## Starting and stopping (R149) -/

/-- An entry is configured (R145). -/
def State.configured (s : State) (e : Nat) : Bool := decide ((s.sensor e).address ≠ 0)

/-- How many entries are configured (R148). -/
def State.configuredCount (s : State) : Nat :=
  ((List.range Config.sensorCount).filter fun e => s.configured e).length

/-- The poller runs while this holds (R149). -/
def State.runCondition (s : State) : Bool :=
  decide (s.poller.settings.run = .run) && (List.range Config.sensorCount).any fun e => s.configured e

/-- POLLER_START: from STOPPED to WAITING, with the first boundary at once (R149). -/
def State.startPoller (s : State) : State :=
  { s with poller := { s.poller with state := .waiting, roundTimer := some 0 } }

/-- POLLER_STOP: to STOPPED with the round timer stopped, every staged record made active (R149, R163). -/
def State.stopPoller (s : State) : State :=
  State.activateStaged { s with poller := { s.poller with state := .stopped, roundTimer := none } }

/-- The run condition tested at the event that changes it: in STOPPED and in WAITING only (R149). -/
def State.followRunCondition (s : State) : State :=
  match s.poller.state with
  | .stopped => if s.runCondition then s.startPoller else s
  | .waiting => if s.runCondition then s else s.stopPoller
  | _ => s

/-! ## The end of a round (R149, R150, R155, R159) -/

/-- ROUND_END: the overran flag is settled and the poller returns to WAITING, or stops (R149, R150). -/
def State.endRound (s : State) : State :=
  let s1 := { s with poller := { s.poller with
    overran := s.poller.overran && s.poller.boundaryFell
    retries := 0, begun := false, discard := false } }
  if s1.runCondition then { s1 with poller := { s1.poller with state := .waiting } } else s1.stopPoller

/-- Rounds since good reading at an evaluation, and the reading no longer fresh (R155). -/
def SensorEntry.afterRound (e : SensorEntry) : SensorEntry :=
  { e with
    rounds := if e.fresh.isSome then some 0 else e.rounds.map fun n => min 255 (n + 1)
    fresh := none }

/-- The sensor entries after an evaluation: every configured entry's count is updated (R155). -/
def State.countRounds (s : State) : State :=
  { s with poller := { s.poller with
    sensors := s.poller.sensors.mapD (fun _ => SensorEntry.cold)
      fun _ e => if e.address = 0 then e else e.afterRound } }

/-- EVALUATING: the handover, the counts, and the end of the round, in one event (R155). -/
def State.evaluateRound (s : State) : State :=
  let s1 := { s with poller := { s.poller with state := .evaluating } }
  s1.handover.countRounds.endRound

/-- The turn passes to the first configured entry from `e` on; after entry 15 the round is evaluated (R153).
MODEL'S CHOICE (log 40): so it is in a round whose last configured entry was made unused. -/
def State.turnFrom (s : State) (e : Nat) : State :=
  match (List.range Config.sensorCount).find? fun k => decide (e ≤ k) && s.configured k with
  | some k => { s with poller := { s.poller with state := .reading, turn := k } }
  | none => s.evaluateRound

/-! ## Bus transactions (R157, R158) -/

/-- The poller can carry a transaction through: no read is held with the clock low (R184), and the bus is idle or the
part has already begun (R157). -/
def State.canTransact (s : State) : Bool :=
  decide (s.port.held = none) &&
  (s.poller.begun || (decide (s.poller.bus = .idle) && decide (s.poller.lossRole = .none)))

/-- The address of the read in progress: the one its entry held when it began (R153). -/
def State.readAddress (s : State) : Nat :=
  if s.poller.begun then s.poller.target else (s.sensor s.poller.turn).address

/-- The first byte the part drives for the transaction it has to carry through: 00h for MEASURE, the address with the
read bit for a read, and none for a read at one of the part's own addresses (R151, R153, R178). -/
def State.firstByte? (s : State) : Option Nat :=
  if s.poller.state = .broadcasting then some 0
  else if s.ownAddress s.readAddress then none
  else some (2 * s.readAddress + 1)

/-- A transaction of the part has ended at its stop: the bus is idle and the retry count 0 (R157, R159). -/
def State.endTransaction (s : State) (driven : List Byte) : State :=
  { s with poller := { s.poller with
    begun := false, discard := false, retries := 0, bus := .idle, awaitingIdle := false, lossRole := .none
    driven := driven } }

/-! ## A sensor read (R153, R154) -/

/-- The 16-bit number of two bytes. -/
def word16 (high low : Byte) : Nat := high.toNat * 256 + low.toNat

/-- A 16-bit number read as two's complement. -/
def signed16 (n : Nat) : Int := if n < 32768 then (n : Int) else (n : Int) - 65536

/-- Byte `k` of a sensor reply. -/
def replyByte (bytes : List Byte) (k : Nat) : Byte := bytes.getD k 0#8

/-- The reading a correctly checked reply carries, clamped (R153, R191). -/
def readingOf (bytes : List Byte) : Reading where
  humidity := min 1000 (word16 (replyByte bytes 0) (replyByte bytes 1))
  temperature := max (-400) (min 600 (signed16 (word16 (replyByte bytes 2) (replyByte bytes 3))))
  flags := replyByte bytes 4

/-- How a read ends (R153): by the acknowledge, then the check, then the flags. -/
def outcomeOf : Option (List Byte) → ReadOutcome
  | none => .noAck
  | some bytes =>
    if byteSum bytes ≠ 0#8 then .badCheck
    else if replyByte bytes 4 ≠ 0#8 then .flagged
    else .good

/-- The state of an entry after a read that is taken (R154). -/
def SensorState.after (st : SensorState) (good : Bool) : SensorState :=
  if good then .ok
  else match st with
    | .unpolled => .missed1
    | .ok => .missed1
    | .missed1 => .missed2
    | .missed2 => .missed3
    | .missed3 => .failed
    | .failed => .failed

/-- An entry after a read that is taken (R153, R154): the outcome is written, a checked reply becomes the last
reading, and a GOOD one the fresh reading. -/
def SensorEntry.afterRead (e : SensorEntry) (answer : Option (List Byte)) : SensorEntry :=
  let o := outcomeOf answer
  let reading := (answer.map readingOf)
  { e with
    outcome := o
    state := e.state.after (decide (o = .good))
    reading := if o = .good ∨ o = .flagged then reading else e.reading
    fresh := if o = .good then reading.map fun r => (r.humidity, r.temperature) else none }

/-- A read of an entry is taken: the entry is written, and SENSOR is latched when it enters or leaves FAILED
(R154). A read at one of the part's own addresses ends NO_ACK whatever stands on the bus (R178). -/
def State.takeRead (s : State) (e : Nat) (answer : Option (List Byte)) : State :=
  let before := s.sensor e
  let after := before.afterRead (if s.ownAddress before.address then none else answer)
  let s1 := s.setSensorEntry e after
  if decide (before.state = .failed) = decide (after.state = .failed) then s1 else s1.latch .sensor

end Sys2Proof.Machine
end

