-- ==== Sys2Proof/Machine/Starts.lean ====
section
/-! DEFINITION. The starts (R196 to R199): cold and warm, and the commands of the supply, the reset pin and the
crystal. -/

namespace Sys2Proof.Machine

/-- The registry address the straps select (R178). -/
def strapAddress (addr1 addr0 : Bool) : Nat := 0x2A + 4 * addr1.toNat + 2 * addr0.toNat

/-- The Bus Port after every start: both addresses IDLE, the straps sampled (R178, R185). -/
def State.portAfterStart (s : State) : BusPort :=
  { registry := .idle, turner := .idle, held := none,
    registryAddress := strapAddress s.supply.addr1 s.supply.addr0, restart := none, sent := s.port.sent,
    acked := s.port.acked }

/-- COLD_START: every retained item takes its default and every volatile item its start value (R197). The pins and
the waiting commands are not the part's to reset. -/
def State.coldStart (s : State) : State :=
  { State.reset with
    port := s.portAfterStart
    poller := { Poller.cold with driven := s.poller.driven }
    supply := s.supply
    pending := s.pending }

/-- What a warm start makes of a record: no claim stands, and a wheel that was in hand is held UNCONFIRMED
(R24, R198). -/
def WheelRecord.afterWarm (r : WheelRecord) : WheelRecord :=
  match r.claim with
  | .none => r
  | .claimed => { r with claim := .none }
  | .inHand => { r with claim := .none, holds := r.holds.put .unconfirmed true }

/-- What a warm start makes of a zone: the settings kept, the rest as after a cold start (R176). -/
def Zone.afterWarm (z : Zone) : Zone := { Zone.cold with active := z.active, staged := z.staged }

/-- What a warm start makes of a sensor entry: UNPOLLED, its address and zone kept (R160). -/
def SensorEntry.afterWarm (e : SensorEntry) : SensorEntry := SensorEntry.unpolled e.address e.zone

/-- The volatile state at its start values and the retained state converted, before the poller comes up (R198). -/
def State.warmConverted (s : State) : State :=
  { s with
    registry := { s.registry with records := s.registry.records.mapValues fun _ r => r.afterWarm }
    shelf := { s.shelf with
      slots := s.shelf.slots.mapD (fun _ => SlotRecord.cold) fun _ v => { v with engaged := false } }
    sweep := { cursor := 0, turnerAisle := Config.aisleUnknown }
    candidates := []
    dispatcher := { state := .paused, window := [], lastNumber := 0, settings := s.dispatcher.settings }
    relocations := s.relocations.map fun q => { q with state := .queued }
    poller := { Poller.cold with
      sensors := s.poller.sensors.mapD (fun _ => SensorEntry.cold) fun _ e => e.afterWarm
      settings := s.poller.settings
      driven := s.poller.driven }
    zones := s.zones.mapD (fun _ => Zone.cold) fun _ z => z.afterWarm
    port := s.portAfterStart
    attention := Attention.afterStart
    clock := { s.clock with backupLoss := false, lastStart := .warm } }

/-- WARM_START (R198): the poller comes up WAITING with its first boundary at once when it is set to run and an
entry is configured, and STOPPED otherwise, with the staged records made active. -/
def State.warmStart (s : State) : State :=
  let s1 := s.warmConverted
  if s1.runCondition then s1.startPoller else s1.stopPoller

/-- A start of the kind the backup-loss flag decides (R196). -/
def State.start (s : State) : State := if s.clock.backupLoss then s.coldStart else s.warmStart

/-- Main power arrives, with the straps at the given levels: a start, unless RESET_N holds the part in start
(R196, 11.5). -/
def State.powerUp (s : State) (addr1 addr0 : Bool) : State :=
  let s1 := { s with supply := { s.supply with mainPower := true, addr1 := addr1, addr0 := addr0 } }
  if s1.supply.resetLow then s1 else s1.start

/-- RESET_N is released, with the straps at the given levels: a start, if main power is present. A RESET_N that is
not asserted cannot be released: nothing happens (R196; log 7). -/
def State.resetRelease (s : State) (addr1 addr0 : Bool) : State :=
  if s.supply.resetLow then
    let s1 := { s with supply := { s.supply with resetLow := false, addr1 := addr1, addr0 := addr0 } }
    if s1.supply.mainPower then s1.start else s1
  else s

/-- POWER_UP (R196). -/
def execPowerUp (addr1 addr0 : Bool) (s : State) : Result := .next (s.powerUp addr1 addr0)

/-- RESET_N_ASSERT: the part is held in start until RESET_N is released (R196). -/
def execResetNAssert (s : State) : Result := .next { s with supply := { s.supply with resetLow := true } }

/-- RESET_N_RELEASE (R196). -/
def execResetNRelease (addr1 addr0 : Bool) (s : State) : Result := .next (s.resetRelease addr1 addr0)

/-- BACKUP_SUPPLY_LOSS: the backup supply monitor sets the backup-loss flag (R195). -/
def execBackupSupplyLoss (s : State) : Result := .next { s with clock := { s.clock with backupLoss := true } }

/-- MAIN_POWER_LOSS: the part stops working and releases its lines; what is retained runs on VBAT (R196, 11.5). -/
def execMainPowerLoss (s : State) : Result := .next { s with supply := { s.supply with mainPower := false } }

/-- CLOCK_MINUTE_TICK: the minute count advances by one, rolling to 0, in every state of the part (R195). -/
def execClockMinuteTick (s : State) : Result :=
  .next { s with clock := { s.clock with minutes := (s.clock.minutes + 1) % Config.minuteModulus, second := 0 } }

end Sys2Proof.Machine
end

