-- ==== Sys2Proof/Machine/Serve.lean ====
section
/-! DEFINITION. How a request meets the port state of its address, and how its reply is placed, sent and collected
(R181, R183, R199). Every request command goes through `State.serve`. -/

namespace Sys2Proof.Machine

/-- The port state of an address (R181). -/
def State.portState (s : State) : PortId → PortState
  | .registry => s.port.registry
  | .turner => s.port.turner

/-- The state with the port state of an address replaced. -/
def State.setPort (s : State) (p : PortId) (st : PortState) : State :=
  match p with
  | .registry => { s with port := { s.port with registry := st } }
  | .turner => { s with port := { s.port with turner := st } }

/-- A reply has been collected by a reader: the port is IDLE, and a RESTART whose reply it was begins its start (R183,
R199). -/
def State.collected (s : State) (r : ReplyReader) : State :=
  if r.port = .registry ∧ s.port.restart = some true then s.warmStart else s.setPort r.port .idle

/-- A reply is sent to a reader: collected once the check byte is clocked in, READY otherwise (R183). -/
def State.sendReply (s : State) (reply : Reply) (r : ReplyReader) : State :=
  let s1 := { s with port := { s.port with sent := clockedBytes reply.frame r.clocked } }
  if reply.frame.length ≤ r.clocked then s1.collected r else s1.setPort r.port (.ready reply)

/-- The owner writes the reply into the reply slot: the port enters READY (R181), or the reply goes out at once to
the read that is held for it (R183). -/
def State.placeReply (s : State) (p : PortId) (reply : Reply) : Option ReplyReader → State
  | none => s.setPort p (.ready reply)
  | some r => s.sendReply reply r

/-- A complete frame at an address discards the reply that stood there; that of a RESTART can then no longer be
collected (R181, R199). -/
def State.discardKept (s : State) (p : PortId) : State :=
  if p = .registry ∧ s.port.restart = some true then { s with port := { s.port with restart := some false } } else s

/-- The read that is held for the reply of a port, if one is (R183). -/
def State.heldAt (s : State) (p : PortId) : Option ReplyReader := s.port.held.filter fun r => decide (r.port = p)

/-- The request leaves its slot for its owner, and a read held for its reply is let go (R181, R183). -/
def State.takeSlot (s : State) (p : PortId) : State :=
  State.setPort { s with port := { s.port with held := s.port.held.filter fun r => decide (r.port ≠ p) } } p .idle

/-- The owner takes the request in the slot of a port as one event (R181). -/
def State.ownerTakes (s : State) (p : PortId) (owner : State → State × Reply) : State :=
  (owner (s.takeSlot p)).1.placeReply p (owner (s.takeSlot p)).2 (s.heldAt p)

/-- The part stays off the bus since it lost arbitration: it serves no transaction until the next stop (R158). -/
def State.offBus (s : State) : Bool := decide (s.poller.lossRole = .offBus)

/-- A request command at an address (R181; log 3). A part that is in a start or without power acknowledges nothing
(R196), and one that stays off the bus is written no request (R158). In PROCESSING the owner takes the request of the
request slot when the command is that request, and any other is not acknowledged. In every other port state the
request is written and taken in one event, also while a transaction of the part's own has begun (log 44). -/
def State.serve (s : State) (p : PortId) (i : Instr) (owner : State → State × Reply) : State :=
  if s.operating then
    match s.portState p with
    | .processing request => if request = .command i then s.ownerTakes p owner else s
    | _ => if s.offBus then s else (owner (s.discardKept p)).1.placeReply p (owner (s.discardKept p)).2 none
  else s

/-- A request at the registry address. -/
def State.host (s : State) (i : Instr) (owner : State → State × Reply) : Result := .next (s.serve .registry i owner)

/-- A request at the turner address. -/
def State.robot (s : State) (i : Instr) (owner : State → State × Reply) : Result := .next (s.serve .turner i owner)

/-- A refusal: the state as it was, and a reply of length 0 (00_scope 4.6, R186). -/
def State.refuse (s : State) (st : Status) : State × Reply := (s, Reply.bare st)

/-- A reading: the state as it was, and an OK reply with its payload. -/
def State.report (s : State) (payload : List Byte) : State × Reply := (s, Reply.ok payload)

/-- A request taken as asked, with no payload. -/
def State.done (s : State) : State × Reply := (s, Reply.ok [])

end Sys2Proof.Machine
end

