-- ==== Sys2Proof/Machine/Climate.lean ====
section
/-! DEFINITION. The Zone Monitor's requests (chapter 9, R162, R164, R173). -/

namespace Sys2Proof.Machine

/-- A monitored zone number (R161). -/
def monitored (z : Nat) : Bool := decide (1 ≤ z) && decide (z ≤ 8)

/-- A settings record is accepted: active at once while the poller is STOPPED, staged otherwise (R162). -/
def State.storeSettings (s : State) (z : Nat) (c : ZoneSettings) : State × Reply :=
  if s.poller.state = .stopped then
    (s.setZone z { s.zone z with active := c }, Reply.ok (encodeZoneSettings c))
  else (s.setZone z { s.zone z with staged := some c }, ⟨.staged, encodeZoneSettings c⟩)

/-- SET_ZONE (R162). -/
def execSetZone (zone bandLo bandHi hysteresis alarmLo alarmHi dwellRaise dwellClear gang : Nat) (s : State) :
    Result :=
  s.host (.setZone zone bandLo bandHi hysteresis alarmLo alarmHi dwellRaise dwellClear gang) fun s =>
    let c := ZoneSettings.clamped ⟨bandLo, bandHi, hysteresis, alarmLo, alarmHi, dwellRaise, dwellClear, gang⟩
    if monitored zone && c.inOrder then s.storeSettings zone c else s.refuse .badField

/-- An optional settings record: a presence byte, then the record, all 0 when absent (R164, Table 10-3). -/
def encodeStaged : Option ZoneSettings → List Byte
  | none => be 1 0 ++ be 13 0
  | some c => be 1 1 ++ encodeZoneSettings c

/-- A temperature that may be none (Table 10-3). -/
def encodeTemperature : Option Int → List Byte
  | none => be 1 0 ++ be 2 0
  | some t => be 1 1 ++ beInt 2 t

/-- A zone as READ_ZONE reports it (R164, R191). MODEL'S CHOICE (log 15): the byte of the BLIND flag, set 1. -/
def State.encodeZone (s : State) (z : Nat) : List Byte :=
  let v := s.zone z
  encodeZoneSettings v.active ++ encodeStaged v.staged ++ beOption 2 v.value ++ encodeTemperature v.temperature ++
  be 1 v.used ++ be 1 v.band.number ++ encodeAlarm v.alarm ++ beFlag v.blind ++ beBool (s.brushSuspended z) ++
  be 1 v.assigned ++ be 1 v.failed

/-- READ_ZONE (R164). -/
def execReadZone (zone : Nat) (s : State) : Result :=
  s.host (.readZone zone) fun s =>
    if monitored zone then s.report (s.encodeZone zone) else s.refuse .badField

/-- What an acknowledgement makes of an alarm; none where there is nothing to acknowledge (R173). -/
def Alarm.acknowledge : Alarm → Option Alarm
  | .clear => none
  | .pending _ _ => none
  | .raised d => some (.acknowledged d)
  | .acknowledged _ => none
  | .settling d n acked => if acked then none else some (.settling d n true)

/-- ACK_ALARM (R173). -/
def execAckAlarm (zone : Nat) (s : State) : Result :=
  s.host (.ackAlarm zone) fun s =>
    if monitored zone then
      match (s.zone zone).alarm.acknowledge with
      | none => s.refuse .nothingToAck
      | some a => (s.setZone zone { s.zone zone with alarm := a }).done
    else s.refuse .badField

end Sys2Proof.Machine
end

