-- ==== Sys2Proof/Machine/Frames.lean ====
section
/-! DEFINITION. Request frames (R180, R182, R187, R188): which kinds there are, at which address and with which
payload lengths; a request command's own frame; and the request a payload carries. -/

namespace Sys2Proof.Machine

/-! ## Kinds (R187) and payload lengths (R182 test 5) -/

/-- The address a kind belongs to and the payload lengths its forms allow (Table 10-2, Table 10-3). MODEL'S CHOICE
(log 14): the entry number and the address of SET_SENSOR and READ_SENSOR take one byte each. -/
def kindForm (k : Nat) : Option (PortId × List Nat) :=
  match k with
  | 0x01 => some (.registry, [24])
  | 0x02 => some (.registry, [6])
  | 0x03 => some (.registry, [3])
  | 0x04 => some (.registry, [2])
  | 0x05 => some (.registry, [2])
  | 0x06 => some (.registry, [4, 5, 6, 8])
  | 0x07 => some (.registry, [2])
  | 0x08 => some (.registry, [3])
  | 0x09 => some (.registry, [2])
  | 0x0A => some (.registry, [0])
  | 0x0B => some (.registry, [4])
  | 0x0C => some (.registry, [1])
  | 0x0D => some (.registry, [3])
  | 0x0E => some (.registry, [3])
  | 0x0F => some (.registry, [6])
  | 0x10 => some (.registry, [1])
  | 0x11 => some (.registry, [23])
  | 0x12 => some (.registry, [1])
  | 0x13 => some (.registry, [1])
  | 0x14 => some (.registry, [0])
  | 0x15 => some (.registry, [0])
  | 0x16 => some (.registry, [9])
  | 0x17 => some (.registry, [0])
  | 0x18 => some (.registry, [1])
  | 0x19 => some (.registry, [1])
  | 0x1A => some (.registry, [5])
  | 0x1B => some (.registry, [2])
  | 0x1C => some (.registry, [0])
  | 0x1D => some (.registry, [1])
  | 0x1E => some (.registry, [0])
  | 0x1F => some (.registry, [1, 2])
  | 0x20 => some (.registry, [4])
  | 0x21 => some (.registry, [3])
  | 0x22 => some (.registry, [1])
  | 0x23 => some (.registry, [5])
  | 0x24 => some (.registry, [0])
  | 0x25 => some (.registry, [14])
  | 0x26 => some (.registry, [1])
  | 0x27 => some (.registry, [1])
  | 0x28 => some (.registry, [0])
  | 0x29 => some (.registry, [1])
  | 0x2A => some (.registry, [0])
  | 0x2B => some (.registry, [4])
  | 0x2C => some (.registry, [0])
  | 0x2D => some (.registry, [0])
  | 0x40 => some (.turner, [1])
  | 0x41 => some (.turner, [1])
  | 0x42 => some (.turner, [8])
  | 0x43 => some (.turner, [12])
  | 0x44 => some (.turner, [1])
  | 0x45 => some (.turner, [1])
  | _ => none

/-! ## The frame of a request command -/

/-- A time field's five bytes (Table 10-3). -/
def beTimeField (t : TimeField) : List Byte := be 1 t.form ++ be 4 t.minutes

/-- The payload of a VISIT_END (R95), with the number of its outcome in the order of section 5.6. -/
def visitEndPayload (outcome order visit actions weight tag : Nat) : List Byte :=
  be 1 order ++ be 1 visit ++ be 1 outcome ++ be 1 actions ++ be 2 weight ++ be 6 tag

/-- The payload of an AMEND: the handle, the selector and the value (R188). -/
def amendPayload (handle selector : Nat) (value : List Byte) : List Byte := be 2 handle ++ be 1 selector ++ value

/-- The kind and payload of a request command, each field in the order its rule names it (R187, R188); none for a
command that is no request. -/
def requestOf : Instr → Option (Nat × List Byte)
  | .powerUp _ _ => none
  | .resetNAssert => none
  | .resetNRelease _ _ => none
  | .backupSupplyLoss => none
  | .mainPowerLoss => none
  | .clockMinuteTick => none
  | .sweepStep => none
  | .orderExpiry _ => none
  | .roundBoundary => none
  | .measure _ => none
  | .conversionWaitEnd => none
  | .sensorRead _ => none
  | .arbitrationLoss _ _ => none
  | .busStartCondition _ => none
  | .busStopCondition => none
  | .busIdleTimeout => none
  | .writeTransaction _ _ => none
  | .replyRead _ _ => none
  | .clockHoldTimeout => none
  | .restartDelayExpiry => none
  | .admitWheel tag cls makeDay location weight lastTurn lastBrush =>
    some (0x01, be 6 tag ++ be 1 cls ++ be 2 makeDay ++ beLSlot location ++ be 2 weight ++ beTimeField lastTurn ++
      beTimeField lastBrush)
  | .lookupTag tag => some (0x02, be 6 tag)
  | .lookupSlot slot => some (0x03, beLSlot slot)
  | .readRecord handle => some (0x04, be 2 handle)
  | .nextRecord after => some (0x05, be 2 after)
  | .amendClass handle cls => some (0x06, amendPayload handle 0 (be 1 cls))
  | .amendMakeDay handle day => some (0x06, amendPayload handle 1 (be 2 day))
  | .amendLastTurn handle time => some (0x06, amendPayload handle 2 (beTimeField time))
  | .amendLastBrush handle time => some (0x06, amendPayload handle 3 (beTimeField time))
  | .amendIntakeWeight handle weight => some (0x06, amendPayload handle 4 (be 2 weight))
  | .amendLastWeight handle weight => some (0x06, amendPayload handle 5 (be 2 weight))
  | .amendLocation handle location => some (0x06, amendPayload handle 6 (beLSlot location))
  | .hold handle => some (0x07, be 2 handle)
  | .release handle reason => some (0x08, be 2 handle ++ be 1 reason)
  | .retire handle => some (0x09, be 2 handle)
  | .eraseRegistry => some (0x0A, [])
  | .mapRack rack logical columns levels => some (0x0B, be 1 rack ++ be 1 logical ++ be 1 columns ++ be 1 levels)
  | .readRack rack => some (0x0C, be 1 rack)
  | .readSlot slot => some (0x0D, beLSlot slot)
  | .unblock slot => some (0x0E, beLSlot slot)
  | .setWindow window zone firstAisle lastAisle lowLevel highLevel =>
    some (0x0F, be 1 window ++ be 1 zone ++ be 1 firstAisle ++ be 1 lastAisle ++ be 1 lowLevel ++ be 1 highLevel)
  | .readWindow window => some (0x10, be 1 window)
  | .setClass cls turnBase brushBase stretch growth ageCap turnLow turnHigh brushHigh weight turnLead brushLead
      overdueLimit =>
    some (0x11, be 1 cls ++ be 2 turnBase ++ be 2 brushBase ++ be 1 stretch ++ be 2 growth ++ be 2 ageCap ++
      be 2 turnLow ++ be 2 turnHigh ++ be 2 brushHigh ++ be 1 weight ++ be 2 turnLead ++ be 2 brushLead ++
      be 2 overdueLimit)
  | .readClass cls => some (0x12, be 1 cls)
  | .readCandidates first => some (0x13, be 1 first)
  | .pause => some (0x14, [])
  | .resume => some (0x15, [])
  | .setDispatch acceptAllowance orderAllowance visitAllowance aisleBonus census =>
    some (0x16, be 2 acceptAllowance ++ be 2 orderAllowance ++ be 2 visitAllowance ++ be 2 aisleBonus ++ be 1 census)
  | .readDispatch => some (0x17, [])
  | .cancelOrders aisle => some (0x18, be 1 aisle)
  | .readOrders order => some (0x19, be 1 order)
  | .relocate handle destination => some (0x1A, be 2 handle ++ beLSlot destination)
  | .unrelocate handle => some (0x1B, be 2 handle)
  | .readRelocations => some (0x1C, [])
  | .censusRack rack => some (0x1D, be 1 rack)
  | .censusRackNone => some (0x1D, be 1 0)
  | .readCensus => some (0x1E, [])
  | .readDiscrepancy position => some (0x1F, be 1 position)
  | .readDiscrepancyNext after => some (0x1F, be 1 255 ++ be 1 after)
  | .resolveDismiss slot => some (0x20, beLSlot slot ++ be 1 0)
  | .resolveAdopt slot => some (0x20, beLSlot slot ++ be 1 1)
  | .resolveRescan slot => some (0x20, beLSlot slot ++ be 1 2)
  | .setSensor entry address zone => some (0x21, be 1 entry ++ be 1 address ++ be 1 zone)
  | .readSensor entry => some (0x22, be 1 entry)
  | .setPoll run period wait => some (0x23, be 1 run ++ be 2 period ++ be 2 wait)
  | .readPoll => some (0x24, [])
  | .setZone zone bandLo bandHi hysteresis alarmLo alarmHi dwellRaise dwellClear gang =>
    some (0x25, be 1 zone ++ be 2 bandLo ++ be 2 bandHi ++ be 2 hysteresis ++ be 2 alarmLo ++ be 2 alarmHi ++
      be 1 dwellRaise ++ be 1 dwellClear ++ be 1 gang)
  | .readZone zone => some (0x26, be 1 zone)
  | .ackAlarm zone => some (0x27, be 1 zone)
  | .takeAttention => some (0x28, [])
  | .setMask mask => some (0x29, [mask])
  | .readStatus => some (0x2A, [])
  | .setClock minutes => some (0x2B, be 4 minutes)
  | .readClock => some (0x2C, [])
  | .restart => some (0x2D, [])
  | .fetch aisle => some (0x40, be 1 aisle)
  | .accept order => some (0x41, be 1 order)
  | .visitStart order visit tag => some (0x42, be 1 order ++ be 1 visit ++ be 6 tag)
  | .visitEndDone order visit actions weight tag => some (0x43, visitEndPayload 0 order visit actions weight tag)
  | .visitEndAborted order visit actions weight tag => some (0x43, visitEndPayload 1 order visit actions weight tag)
  | .visitEndDestUnreachable order visit actions weight tag =>
    some (0x43, visitEndPayload 2 order visit actions weight tag)
  | .visitEndUnreachable order visit actions weight tag =>
    some (0x43, visitEndPayload 3 order visit actions weight tag)
  | .visitEndAbsent order visit actions weight tag => some (0x43, visitEndPayload 4 order visit actions weight tag)
  | .closeOrder order => some (0x44, be 1 order)
  | .readOrder order => some (0x45, be 1 order)

/-- The frame of a request command (R180). -/
def requestFrame (i : Instr) : Option (List Byte) :=
  (requestOf i).map fun r => frameOf (BitVec.ofNat 8 r.1) r.2

/-! ## The request a payload carries -/

/-- The number that bytes carry, most significant first (R188). -/
def unbe (l : List Byte) : Nat := l.foldl (fun n b => n * 256 + b.toNat) 0

/-- The field of `n` bytes at an offset of a payload. -/
def field (p : List Byte) (offset n : Nat) : Nat := unbe ((p.drop offset).take n)

/-- The logical slot field at an offset. -/
def fieldLSlot (p : List Byte) (offset : Nat) : LSlot :=
  ⟨field p offset 1, field p (offset + 1) 1, field p (offset + 2) 1⟩

/-- The time field at an offset. -/
def fieldTime (p : List Byte) (offset : Nat) : TimeField := ⟨field p offset 1, field p (offset + 1) 4⟩

/-- The request of an AMEND payload, by its selector and length (R12, R188). -/
def parseAmend (p : List Byte) : Request :=
  let handle := field p 0 2
  let selector := field p 2 1
  if selector = 0 ∧ p.length = 4 then .command (.amendClass handle (field p 3 1))
  else if selector = 1 ∧ p.length = 5 then .command (.amendMakeDay handle (field p 3 2))
  else if selector = 2 ∧ p.length = 8 then .command (.amendLastTurn handle (fieldTime p 3))
  else if selector = 3 ∧ p.length = 8 then .command (.amendLastBrush handle (fieldTime p 3))
  else if selector = 4 ∧ p.length = 5 then .command (.amendIntakeWeight handle (field p 3 2))
  else if selector = 5 ∧ p.length = 5 then .command (.amendLastWeight handle (field p 3 2))
  else if selector = 6 ∧ p.length = 6 then .command (.amendLocation handle (fieldLSlot p 3))
  else .badAmend handle

/-- The request of a READ_DISCREPANCY payload: the position, or FFh and then after (R188). -/
def parseReadDiscrepancy (p : List Byte) : Request :=
  if p.length = 1 then .command (.readDiscrepancy (field p 0 1))
  else if field p 0 1 = Config.byteAll then .command (.readDiscrepancyNext (field p 1 1))
  else .badForm

/-- The request of a RESOLVE payload: DISMISS 0, ADOPT 1, RESCAN 2, as section 7.4 lists them. -/
def parseResolve (p : List Byte) : Request :=
  let slot := fieldLSlot p 0
  let choice := field p 3 1
  if choice = 0 then .command (.resolveDismiss slot)
  else if choice = 1 then .command (.resolveAdopt slot)
  else if choice = 2 then .command (.resolveRescan slot)
  else .badForm

/-- The request of a VISIT_END payload, by its outcome in the order of section 5.6. -/
def parseVisitEnd (p : List Byte) : Request :=
  let order := field p 0 1
  let visit := field p 1 1
  let outcome := field p 2 1
  let actions := field p 3 1
  let weight := field p 4 2
  let tag := field p 6 6
  if outcome = 0 then .command (.visitEndDone order visit actions weight tag)
  else if outcome = 1 then .command (.visitEndAborted order visit actions weight tag)
  else if outcome = 2 then .command (.visitEndDestUnreachable order visit actions weight tag)
  else if outcome = 3 then .command (.visitEndUnreachable order visit actions weight tag)
  else if outcome = 4 then .command (.visitEndAbsent order visit actions weight tag)
  else .badOutcome order

/-- The request a kind and a payload of an allowed length carry (R187, R188); `badForm` for a kind that R182
refuses before its payload is read. -/
def parseRequest (k : Nat) (p : List Byte) : Request :=
  match k with
  | 0x01 => .command (.admitWheel (field p 0 6) (field p 6 1) (field p 7 2) (fieldLSlot p 9) (field p 12 2)
      (fieldTime p 14) (fieldTime p 19))
  | 0x02 => .command (.lookupTag (field p 0 6))
  | 0x03 => .command (.lookupSlot (fieldLSlot p 0))
  | 0x04 => .command (.readRecord (field p 0 2))
  | 0x05 => .command (.nextRecord (field p 0 2))
  | 0x06 => parseAmend p
  | 0x07 => .command (.hold (field p 0 2))
  | 0x08 => .command (.release (field p 0 2) (field p 2 1))
  | 0x09 => .command (.retire (field p 0 2))
  | 0x0A => .command .eraseRegistry
  | 0x0B => .command (.mapRack (field p 0 1) (field p 1 1) (field p 2 1) (field p 3 1))
  | 0x0C => .command (.readRack (field p 0 1))
  | 0x0D => .command (.readSlot (fieldLSlot p 0))
  | 0x0E => .command (.unblock (fieldLSlot p 0))
  | 0x0F => .command (.setWindow (field p 0 1) (field p 1 1) (field p 2 1) (field p 3 1) (field p 4 1) (field p 5 1))
  | 0x10 => .command (.readWindow (field p 0 1))
  | 0x11 => .command (.setClass (field p 0 1) (field p 1 2) (field p 3 2) (field p 5 1) (field p 6 2) (field p 8 2)
      (field p 10 2) (field p 12 2) (field p 14 2) (field p 16 1) (field p 17 2) (field p 19 2) (field p 21 2))
  | 0x12 => .command (.readClass (field p 0 1))
  | 0x13 => .command (.readCandidates (field p 0 1))
  | 0x14 => .command .pause
  | 0x15 => .command .resume
  | 0x16 => .command (.setDispatch (field p 0 2) (field p 2 2) (field p 4 2) (field p 6 2) (field p 8 1))
  | 0x17 => .command .readDispatch
  | 0x18 => .command (.cancelOrders (field p 0 1))
  | 0x19 => .command (.readOrders (field p 0 1))
  | 0x1A => .command (.relocate (field p 0 2) (fieldLSlot p 2))
  | 0x1B => .command (.unrelocate (field p 0 2))
  | 0x1C => .command .readRelocations
  | 0x1D => if field p 0 1 = 0 then .command .censusRackNone else .command (.censusRack (field p 0 1))
  | 0x1E => .command .readCensus
  | 0x1F => parseReadDiscrepancy p
  | 0x20 => parseResolve p
  | 0x21 => .command (.setSensor (field p 0 1) (field p 1 1) (field p 2 1))
  | 0x22 => .command (.readSensor (field p 0 1))
  | 0x23 => .command (.setPoll (field p 0 1) (field p 1 2) (field p 3 2))
  | 0x24 => .command .readPoll
  | 0x25 => .command (.setZone (field p 0 1) (field p 1 2) (field p 3 2) (field p 5 2) (field p 7 2) (field p 9 2)
      (field p 11 1) (field p 12 1) (field p 13 1))
  | 0x26 => .command (.readZone (field p 0 1))
  | 0x27 => .command (.ackAlarm (field p 0 1))
  | 0x28 => .command .takeAttention
  | 0x29 => .command (.setMask (p.getD 0 0#8))
  | 0x2A => .command .readStatus
  | 0x2B => .command (.setClock (field p 0 4))
  | 0x2C => .command .readClock
  | 0x2D => .command .restart
  | 0x40 => .command (.fetch (field p 0 1))
  | 0x41 => .command (.accept (field p 0 1))
  | 0x42 => .command (.visitStart (field p 0 1) (field p 1 1) (field p 2 6))
  | 0x43 => parseVisitEnd p
  | 0x44 => .command (.closeOrder (field p 0 1))
  | 0x45 => .command (.readOrder (field p 0 1))
  | _ => .badForm

/-! ## A frame judged (R180, R182) -/

/-- The frame a write transaction delivers, if it is complete (R180): the bytes the length byte calls for, later
ones discarded; a frame whose length byte exceeds 124 is complete however many bytes came. -/
def completeFrame? (bytes : List Byte) : Option (List Byte) :=
  match bytes with
  | _ :: n :: rest =>
    if Config.payloadMax < n.toNat then some bytes
    else if n.toNat + 1 ≤ rest.length then some (bytes.take (n.toNat + 3))
    else none
  | _ => none

/-- The judgement of a complete frame at an address: the refusal of the first test of R182 that holds, or the
request it carries. -/
def judgeFrame (port : PortId) (frame : List Byte) : Status ⊕ Request :=
  let k := (frame.getD 0 0#8).toNat
  let n := (frame.getD 1 0#8).toNat
  if Config.payloadMax < n then .inl .badFrame
  else if byteSum frame ≠ 0#8 then .inl .badFrame
  else match kindForm k with
    | none => .inl .badKind
    | some (home, lengths) =>
      if home ≠ port then .inl .badKind
      else if lengths.contains n then .inr (parseRequest k ((frame.drop 2).take n))
      else .inl .badFrame

end Sys2Proof.Machine
end

