-- ==== Sys2Proof/Machine/Records.lean ====
section
/-! DEFINITION. The Wheel Registry's requests (chapter 1, R6 to R19). -/

namespace Sys2Proof.Machine

/-! ## Placing a wheel (R6 tests 5 to 7) -/

/-- The refusal of a location, by tests 5 to 7 of R6; NONE is not tested, and a slot that `self` occupies passes the
occupant test (R15). -/
def State.placeRefusal (s : State) (self : Option Nat) (l : LSlot) : Option Status :=
  if isNone l then none
  else match s.physical? l with
    | none => some .slotUnusable
    | some p =>
      if (s.slot p).condition = .blocked then some .slotUnusable
      else if ((s.slot p).occupant.isSome ∧ (s.slot p).occupant ≠ self) ∨ (s.slot p).reserved = true then
        some .slotTaken
      else if (s.slot p).engaged = true then some .busy
      else none

/-- The physical slot of a location field, or none for NONE (R7). -/
def State.place? (s : State) (l : LSlot) : Option Nat := if isNone l then none else s.physical? l

/-- A record takes the location a field names: a slot, or NONE (R7, R15). -/
def State.locateAt (s : State) (i : Nat) : Option Nat → State
  | none => s
  | some p => s.locate i p

/-- The record at an index leaves its slot and takes another location, NONE among them; its Candidate List entry
goes (R32, R72). -/
def State.moveRecord (s : State) (i : Nat) (p : Option Nat) : State := ((s.unlocate i).locateAt i p).dropCandidate i

/-! ## ADMIT (R6, R7) -/

/-- The refusal of an ADMIT by the order of R6, if it has one. MODEL'S CHOICE (log 41): a malformed time field (log
16) is refused with the fields of test 2, after CLOCK_UNSET and before DUPLICATE. -/
def State.admitRefusal (s : State) (tag cls : Nat) (location : LSlot) (lastTurn lastBrush : Option TimeValue) :
    Option Status :=
  if s.clock.isSet = false then some .clockUnset
  else if validTag tag = false ∨ Config.classCount ≤ cls ∨ lastTurn = none ∨ lastTurn = some .never ∨
      lastBrush = none then some .badField
  else if (s.registry.tagIndex.read? tag).isSome = true then some .duplicate
  else if s.lowestFree? = none then some .full
  else s.placeRefusal none location

/-- The record R7 creates, before it is placed. -/
def admittedRecord (now tag cls makeDay : Nat) (weight : Option Nat) (lastTurn lastBrush : TimeValue) :
    WheelRecord where
  tag := tag
  cls := cls
  makeDay := makeDay
  location := none
  lastTurn := match lastTurn with
    | .minute t => notAfter now t
    | .unsupplied => now
    | .never => now
  lastBrush := match lastBrush with
    | .minute t => some (notAfter now t)
    | .unsupplied => none
    | .never => none
  turnCount := 0
  brushCount := 0
  intakeWeight := weight
  lastWeight := weight
  admittedAt := now
  claim := .none
  holds := Holds.empty
  overdue := false
  relocationPending := false

/-- A record joins the registry at a free index, and the tag index with it (R2, R4). -/
def State.admitAt (s : State) (i : Nat) (r : WheelRecord) : State :=
  let s1 := s.setRecord i r
  { s1 with registry := { s1.registry with tagIndex := s1.registry.tagIndex.write r.tag i } }

/-- The Registry's part of ADMIT (R6, R7). -/
def State.ownAdmit (tag cls makeDay : Nat) (location : LSlot) (weight : Nat) (lastTurn lastBrush : TimeField)
    (s : State) : State × Reply :=
  match s.admitRefusal tag cls location (timeValue? lastTurn) (timeValue? lastBrush) with
  | some st => s.refuse st
  | none =>
    let i := s.lowestFree?.getD 0
    let r := admittedRecord s.clock.minutes tag cls makeDay (weightValue weight)
      ((timeValue? lastTurn).getD .unsupplied) ((timeValue? lastBrush).getD .unsupplied)
    ((s.admitAt i r).locateAt i (s.place? location), Reply.ok (be 2 (s.handleOf i)))

/-- ADMIT (R6, R7). -/
def execAdmitWheel (tag cls makeDay : Nat) (location : LSlot) (weight : Nat) (lastTurn lastBrush : TimeField)
    (s : State) : Result :=
  s.host (.admitWheel tag cls makeDay location weight lastTurn lastBrush)
    (State.ownAdmit tag cls makeDay location weight lastTurn lastBrush)

/-! ## Finding and reading (R8 to R11) -/

/-- LOOKUP_TAG (R8). -/
def execLookupTag (tag : Nat) (s : State) : Result :=
  s.host (.lookupTag tag) fun s =>
    if validTag tag then
      match s.registry.tagIndex.read? tag with
      | none => s.refuse .notFound
      | some i => s.report (be 2 (s.handleOf i))
    else s.refuse .badField

/-- LOOKUP_SLOT (R9). -/
def execLookupSlot (slot : LSlot) (s : State) : Result :=
  s.host (.lookupSlot slot) fun s =>
    if isNone slot then s.refuse .badField
    else match s.physical? slot with
      | none => s.refuse .slotUnusable
      | some p =>
        match (s.slot p).occupant with
        | none => s.refuse .notFound
        | some i => s.report (be 2 (s.handleOf i))

/-- A request that carries a handle: refused STALE_HANDLE before any other check (R3), else served with the index
and the record it names. -/
def State.withHandle (s : State) (h : Nat) (f : Nat → WheelRecord → State × Reply) : State × Reply :=
  match s.named? h with
  | none => s.refuse .staleHandle
  | some i =>
    match s.record? i with
    | none => s.refuse .staleHandle
    | some r => f i r

/-- READ_RECORD (R10). -/
def execReadRecord (handle : Nat) (s : State) : Result :=
  s.host (.readRecord handle) fun s => s.withHandle handle fun i r => s.report (s.encodeRecord i r)

/-- The live record with the lowest index from `from_` on (R11). -/
def State.nextLive? (s : State) (from_ : Nat) : Option (Nat × WheelRecord) :=
  s.registry.records.find? fun e => decide (from_ ≤ e.1)

/-- NEXT_RECORD (R11). -/
def execNextRecord (after : Nat) (s : State) : Result :=
  s.host (.nextRecord after) fun s =>
    if after < Config.recordCount ∨ after = Config.indexStart then
      match s.nextLive? (if after = Config.indexStart then 0 else after + 1) with
      | none => s.refuse .notFound
      | some e => s.report (s.encodeRecord e.1 e.2)
    else s.refuse .badField

/-! ## AMEND (R12 to R15) -/

/-- The record at an index takes a new content, and the request is answered OK. -/
def State.amended (s : State) (i : Nat) (r : WheelRecord) : State × Reply := (s.setRecord i r).done

/-- AMEND class (R12). -/
def execAmendClass (handle cls : Nat) (s : State) : Result :=
  s.host (.amendClass handle cls) fun s => s.withHandle handle fun i r =>
    if cls < Config.classCount then s.amended i { r with cls := cls } else s.refuse .badField

/-- AMEND make_day (R12). -/
def execAmendMakeDay (handle day : Nat) (s : State) : Result :=
  s.host (.amendMakeDay handle day) fun s => s.withHandle handle fun i r => s.amended i { r with makeDay := day }

/-- The tests of a time value given to AMEND: its form (R12), then the clock (R13). MODEL'S CHOICE (log 36): the clock is
tested before a NEVER for last_turn, which R13 refuses too without an order between the two. -/
def State.withTime (s : State) (time : TimeField) (f : TimeValue → State × Reply) : State × Reply :=
  match timeValue? time with
  | none => s.refuse .badField
  | some .unsupplied => s.refuse .badField
  | some v => if s.clock.isSet then f v else s.refuse .clockUnset

/-- AMEND last_turn (R13). -/
def execAmendLastTurn (handle : Nat) (time : TimeField) (s : State) : Result :=
  s.host (.amendLastTurn handle time) fun s => s.withHandle handle fun i r => s.withTime time fun v =>
    match v with
    | .minute t => s.amended i { r with lastTurn := notAfter s.clock.minutes t }
    | .never => s.refuse .badField
    | .unsupplied => s.refuse .badField

/-- AMEND last_brush (R13). -/
def execAmendLastBrush (handle : Nat) (time : TimeField) (s : State) : Result :=
  s.host (.amendLastBrush handle time) fun s => s.withHandle handle fun i r => s.withTime time fun v =>
    match v with
    | .minute t => s.amended i { r with lastBrush := some (notAfter s.clock.minutes t) }
    | .never => s.amended i { r with lastBrush := none }
    | .unsupplied => s.refuse .badField

/-- AMEND intake_weight (R14). -/
def execAmendIntakeWeight (handle weight : Nat) (s : State) : Result :=
  s.host (.amendIntakeWeight handle weight) fun s => s.withHandle handle fun i r =>
    s.amended i { r with intakeWeight := weightValue weight }

/-- AMEND last_weight (R14). -/
def execAmendLastWeight (handle weight : Nat) (s : State) : Result :=
  s.host (.amendLastWeight handle weight) fun s => s.withHandle handle fun i r =>
    s.amended i { r with lastWeight := weightValue weight }

/-- AMEND location (R15). MODEL'S CHOICE (log 37): the Candidate List entry goes at once, as R15 and R72 say, and not at
the next visit or build, as the table of R66 has it. -/
def execAmendLocation (handle : Nat) (location : LSlot) (s : State) : Result :=
  s.host (.amendLocation handle location) fun s => s.withHandle handle fun i r =>
    if r.claim ≠ .none then s.refuse .claimed
    else match s.placeRefusal (some i) location with
      | some st => s.refuse st
      | none =>
        (((s.moveRecord i (s.place? location)).removeHold i .missing).removeHold i .blockedSlot).done

/-! ## HOLD, RELEASE, RETIRE, ERASE_REGISTRY (R16 to R19) -/

/-- HOLD (R16). -/
def execHold (handle : Nat) (s : State) : Result :=
  s.host (.hold handle) fun s => s.withHandle handle fun i _ => (s.addHold i .host).done

/-- RELEASE (R17). -/
def execRelease (handle reason : Nat) (s : State) : Result :=
  s.host (.release handle reason) fun s => s.withHandle handle fun i _ =>
    match storedReason? reason with
    | none => s.refuse .badField
    | some h => (s.removeHold i h).done

/-- A discrepancy entry with a record cleared from it (R18). -/
def Discrepancy.forget (e : Discrepancy) (h : Nat) : Discrepancy :=
  { e with
    expected := if e.expected = some h then none else e.expected
    seenRecord := if e.seenRecord = some h then none else e.seenRecord
    holds := e.holds.filter fun q => decide (q.1 ≠ h) }

/-- The retirement of the record at an index (R18, R2, R3, R4, R23). -/
def State.retireRecord (s : State) (i : Nat) (r : WheelRecord) : State :=
  let h := s.handleOf i
  let s1 := (((s.unlocate i).dropCandidate i).endRelocation h).setOverdue i false
  { s1 with
    registry := { s1.registry with
      records := s1.registry.records.clear i
      generations := s1.registry.generations.writeD 0 i ((s.generation i + 1) % 16)
      tagIndex := s1.registry.tagIndex.clear r.tag }
    discrepancies := s1.discrepancies.mapValues fun _ e => e.forget h }

/-- RETIRE (R18). -/
def execRetire (handle : Nat) (s : State) : Result :=
  s.host (.retire handle) fun s => s.withHandle handle fun i r =>
    if r.claim ≠ .none then s.refuse .claimed else (s.retireRecord i r).done

/-- What ERASE_REGISTRY keeps of a slot: its condition and its unreachable count (R19). -/
def SlotRecord.erased (v : SlotRecord) : SlotRecord :=
  { v with occupant := none, reserved := false, engaged := false, review := false, verified := none }

/-- The state after an erase (R19). -/
def State.erase (s : State) : State :=
  { s with
    registry := { records := [], generations := [], tagIndex := [], overdueCount := 0 }
    shelf := { s.shelf with slots := s.shelf.slots.mapD (fun _ => SlotRecord.cold) fun _ v => v.erased }
    candidates := []
    relocations := []
    discrepancies := [] }

/-- ERASE_REGISTRY (R19). -/
def execEraseRegistry (s : State) : Result :=
  s.host .eraseRegistry fun s =>
    if s.dispatcher.state = .paused ∧ s.dispatcher.window = [] then s.erase.done else s.refuse .busy

end Sys2Proof.Machine
end

