-- ==== Sys2Proof/Machine/Relocate.lean ====
section
/-! DEFINITION. The Relocation Queue (R110 to R118) and the Census Unit (R119 to R126). -/

namespace Sys2Proof.Machine

/-! ## Relocations (R111 to R117) -/

/-- The refusal of a RELOCATE after the stale-handle test, by the order of R111. -/
def State.relocateRefusal (s : State) (i : Nat) (r : WheelRecord) (l : LSlot) : Option Status :=
  if isNone l = true then some .badField
  else if s.held i r = true then some .busy
  else if r.relocationPending = true then some .duplicate
  else if Config.relocationMax ≤ s.relocations.length then some .full
  else s.placeRefusal none l

/-- A relocation joins the queue: its destination is reserved and its wheel's flag set (R112). -/
def State.queueRelocation (s : State) (i p : Nat) : State :=
  let s1 := { s with relocations := s.relocations ++ [Relocation.mk (s.handleOf i) p .queued] }
  (s1.updSlot p fun v => { v with reserved := true }).updRecord i fun r => { r with relocationPending := true }

/-- RELOCATE (R111, R112). -/
def execRelocate (handle : Nat) (destination : LSlot) (s : State) : Result :=
  s.host (.relocate handle destination) fun s => s.withHandle handle fun i r =>
    match s.relocateRefusal i r destination with
    | some st => s.refuse st
    | none =>
      match s.physical? destination with
      | none => s.refuse .slotUnusable
      | some p => (s.queueRelocation i p, Reply.ok (be 1 (s.relocations.length + 1)))

/-- UNRELOCATE (R116). -/
def execUnrelocate (handle : Nat) (s : State) : Result :=
  s.host (.unrelocate handle) fun s => s.withHandle handle fun _ _ =>
    match s.relocationOf? handle with
    | none => s.refuse .notFound
    | some q => if q.state = .issued then s.refuse .busy else (s.endRelocation handle).done

/-- READ_RELOCATIONS (R117). -/
def execReadRelocations (s : State) : Result :=
  s.host .readRelocations fun s =>
    s.report (be 1 s.relocations.length ++
      s.relocations.zipIdx.flatMap fun q => s.encodeRelocation (q.2 + 1) q.1)

/-- The relocation step can take a relocation: it is QUEUED, its wheel dispatchable, its destination usable and not
engaged (R85, R113). -/
def State.relocationReady (s : State) (q : Relocation) : Bool :=
  decide (q.state = .queued) && s.usable q.dest && !(s.slot q.dest).engaged &&
  match s.named? q.wheel with
  | none => false
  | some i =>
    match s.record? i with
    | none => false
    | some r => s.dispatchable i r

/-- The relocation the relocation step takes: the first in queue order that passes (R85, R113). -/
def State.nextRelocation? (s : State) : Option Relocation := s.relocations.find? s.relocationReady

/-! ## The census walks (R119 to R123) -/

/-- A slot is eligible for a SCAN batch (R119). -/
def State.scanEligible (s : State) (p : Nat) : Bool := s.usable p && !(s.slot p).engaged

/-- Up to `n` positions that pass, in order, of the `fuel` positions from `p` on. -/
def collectFrom (pass : Nat → Bool) : Nat → Nat → Nat → List Nat
  | 0, _, _ => []
  | fuel + 1, n, p =>
    if n = 0 then []
    else if pass p then p :: collectFrom pass fuel (n - 1) (p + 1)
    else collectFrom pass fuel n (p + 1)

/-- The slots whose review flag is set, in physical order (R37, R125). -/
def State.flaggedSlots (s : State) : List Nat :=
  (s.shelf.slots.filter fun e => e.2.review).map fun e => e.1

/-- The review step: the eligible flagged slots of the rack of the lowest one, up to 8 (R121). -/
def State.reviewBatch (s : State) : List Nat :=
  match s.flaggedSlots.filter s.scanEligible with
  | [] => []
  | p :: rest => (p :: rest.filter fun q => decide (slotRack q = slotRack p)).take Config.visitMax

/-- The walk of one directed entry: up to 8 eligible slots from its walk position to the end of its rack (R122). -/
def State.directedBatch (s : State) (d : DirectedRack) : List Nat :=
  collectFrom s.scanEligible (Config.rackSlots - d.walk) Config.visitMax (d.rack * Config.rackSlots + d.walk)

/-- The directed entry after its batch is issued: its walk position is the one after the last slot collected, or it
leaves (R122). -/
def State.directedAfter (s : State) (d : DirectedRack) (batch : List Nat) : Option DirectedRack :=
  let r := s.rackRecord d.rack
  let next := batch.getLast?.getD 0 % Config.rackSlots + 1
  if batch.length < Config.visitMax ∨ (r.columns - 1) * 8 + (r.levels - 1) < next then none
  else some { d with walk := next }

/-- The directed step, taken: its batch, and the list after it (R122). -/
def State.directedTake (s : State) : List DirectedRack → List Nat × List DirectedRack
  | [] => ([], [])
  | d :: rest =>
    if s.directedBatch d = [] then s.directedTake rest
    else (s.directedBatch d, (s.directedAfter d (s.directedBatch d)).toList ++ rest)

/-- The first position that passes of the `fuel` positions from `p` on, wrapping after 4095. -/
def firstFrom (pass : Nat → Bool) : Nat → Nat → Option Nat
  | 0, _ => none
  | fuel + 1, p => if pass p then some p else firstFrom pass fuel ((p + 1) % Config.slotCount)

/-- The cursor step: the eligible slots of one rack from the first eligible slot found, up to 8 (R123). -/
def State.cursorBatch (s : State) : List Nat :=
  match firstFrom s.scanEligible Config.slotCount s.census.cursor with
  | none => []
  | some p => collectFrom s.scanEligible (Config.rackSlots - p % Config.rackSlots) Config.visitMax p

/-- The cursor after its batch is issued: after the eighth slot, or at the first position of the next rack (R123). -/
def cursorAfter (batch : List Nat) : Nat :=
  let last := batch.getLast?.getD 0
  if batch.length < Config.visitMax then (slotRack last + 1) * Config.rackSlots % Config.slotCount
  else (last + 1) % Config.slotCount

/-- The census work, taken by a FETCH: the batch of the first step that yields a slot, and the Census Unit moved as
that step requires (R120). -/
def State.censusTake (s : State) : List Nat × Census :=
  if s.reviewBatch ≠ [] then (s.reviewBatch, s.census)
  else
    let d := s.directedTake s.census.directed
    if d.1 ≠ [] then (d.1, { s.census with directed := d.2 })
    else if s.cursorBatch ≠ [] then (s.cursorBatch, ⟨cursorAfter s.cursorBatch, d.2⟩)
    else ([], { s.census with directed := d.2 })

/-- The census work, tried for the WORK line: some step would yield a slot (R120). -/
def State.censusTried (s : State) : Bool :=
  decide (s.reviewBatch ≠ []) || s.census.directed.any (fun d => decide (s.directedBatch d ≠ [])) ||
  decide (s.cursorBatch ≠ [])

/-! ## Directing the census (R124, R125) -/

/-- The directed list emptied (R124). -/
def State.emptyDirected (s : State) : State := { s with census := { s.census with directed := [] } }

/-- CENSUS_RACK of a rack; logical rack 0 is NONE (R124, R188). -/
def execCensusRack (rack : Nat) (s : State) : Result :=
  s.host (.censusRack rack) fun s =>
    if rack = 0 then s.emptyDirected.done
    else if 16 < rack then s.refuse .badField
    else match s.rackNumbered? rack with
      | none => s.refuse .slotUnusable
      | some p =>
        if (s.census.directed.any fun d => decide (d.rack = p)) = true then s.refuse .duplicate
        else if Config.directedMax ≤ s.census.directed.length then s.refuse .full
        else ({ s with census := { s.census with directed := s.census.directed ++ [⟨p, 0⟩] } },
          Reply.ok (be 1 (s.census.directed.length + 1)))

/-- CENSUS_RACK(NONE) (R124). -/
def execCensusRackNone (s : State) : Result := s.host .censusRackNone fun s => s.emptyDirected.done

/-- READ_CENSUS (R125). -/
def execReadCensus (s : State) : Result :=
  s.host .readCensus fun s =>
    s.report (beBool s.dispatcher.settings.census ++ bePhysical s.census.cursor ++ be 1 s.census.directed.length ++
      s.census.directed.flatMap s.encodeDirected ++ be 2 s.flaggedSlots.length ++
      be 2 (s.flaggedSlots.filter s.scanEligible).length)

end Sys2Proof.Machine
end

