-- ==== Sys2Proof/Machine/Shelf.lean ====
section
/-! DEFINITION. The Shelf Map's requests (chapter 2, R27 to R40). -/

namespace Sys2Proof.Machine

/-! ## The rack map (R27 to R30) -/

/-- A logical-number field of MAP_RACK: DISABLED, or 1..16 (R27). -/
def logicalField? (n : Nat) : Option (Option Nat) :=
  if n = Config.byteAll then some none
  else if 1 ≤ n ∧ n ≤ Config.rackCount then some (some n) else none

/-- A logical number belongs to an enabled rack other than p (R27 test 2). -/
def State.numberTaken (s : State) (p : Nat) : Option Nat → Bool
  | none => false
  | some n => (List.range Config.rackCount).any fun q => decide (q ≠ p) && decide ((s.rackRecord q).logical = some n)

/-- A slot is in use (R28). -/
def State.slotInUse (s : State) (p : Nat) : Bool :=
  (s.slot p).occupant.isSome || (s.slot p).reserved || (s.slot p).engaged || (s.slot p).review ||
  s.discrepancies.any fun e => decide (e.2.slot = p)

/-- A new record of rack p removes a slot that is in use (R28). -/
def State.removesInUse (s : State) (p : Nat) (new : RackRecord) : Bool :=
  (List.range Config.rackSlots).any fun k =>
    let q := p * Config.rackSlots + k
    s.onMap q && !new.maps q && s.slotInUse q

/-- A slot that leaves its rack's geometry (R29). -/
def SlotRecord.left (v : SlotRecord) : SlotRecord := { v with condition := .opened, count := 0, verified := none }

/-- The state with rack p's record replaced; each slot that leaves the geometry is reset (R29). -/
def State.mapRack (s : State) (p : Nat) (new : RackRecord) : State :=
  let old := s.rackRecord p
  { s with shelf := { s.shelf with
    racks := s.shelf.racks.writeD (RackRecord.cold p) p new
    slots := s.shelf.slots.mapD (fun _ => SlotRecord.cold) fun q v =>
      if slotRack q = p ∧ old.holds q = true ∧ new.holds q = false then v.left else v } }

/-- MAP_RACK (R27 to R29). -/
def execMapRack (rack logical columns levels : Nat) (s : State) : Result :=
  s.host (.mapRack rack logical columns levels) fun s =>
    match logicalField? logical with
    | none => s.refuse .badField
    | some number =>
      let new : RackRecord := ⟨number, columns, levels⟩
      if Config.rackCount ≤ rack ∨ columns < 1 ∨ 32 < columns ∨ levels < 1 ∨ 8 < levels then s.refuse .badField
      else if s.numberTaken rack number = true then s.refuse .duplicate
      else if s.removesInUse rack new = true then s.refuse .rackInUse
      else (s.mapRack rack new, Reply.ok (encodeRack new))

/-- READ_RACK (R30). -/
def execReadRack (rack : Nat) (s : State) : Result :=
  s.host (.readRack rack) fun s =>
    if rack < Config.rackCount then s.report (encodeRack (s.rackRecord rack)) else s.refuse .badField

/-! ## Slots (R36, R38) -/

/-- A request that names a slot and does not take NONE: refused BAD_FIELD for NONE and SLOT_UNUSABLE for a logical
slot that names nothing (R36, R38). -/
def State.withSlot (s : State) (l : LSlot) (f : Nat → State × Reply) : State × Reply :=
  if isNone l then s.refuse .badField
  else match s.physical? l with
    | none => s.refuse .slotUnusable
    | some p => f p

/-- READ_SLOT (R38). -/
def execReadSlot (slot : LSlot) (s : State) : Result :=
  s.host (.readSlot slot) fun s => s.withSlot slot fun p => s.report (s.encodeSlot p)

/-- A slot returned to service: OPEN, count 0, and its occupant free of BLOCKED_SLOT (R36). -/
def State.unblockSlot (s : State) (p : Nat) : State :=
  let s1 := s.updSlot p fun v => { v with condition := .opened, count := 0 }
  match (s.slot p).occupant with
  | none => s1
  | some i => s1.removeHold i .blockedSlot

/-- UNBLOCK (R36). -/
def execUnblock (slot : LSlot) (s : State) : Result :=
  s.host (.unblock slot) fun s => s.withSlot slot fun p => (s.unblockSlot p).done

/-! ## Climate windows (R39) -/

/-- A zone field of SET_WINDOW: OFF, or 1..8 (R39). -/
def windowZone? (n : Nat) : Option (Option Nat) :=
  if n = Config.byteAll then some none else if 1 ≤ n ∧ n ≤ 8 then some (some n) else none

/-- SET_WINDOW (R39). -/
def execSetWindow (window zone firstAisle lastAisle lowLevel highLevel : Nat) (s : State) : Result :=
  s.host (.setWindow window zone firstAisle lastAisle lowLevel highLevel) fun s =>
    match windowZone? zone with
    | none => s.refuse .badField
    | some z =>
      if window < Config.windowCount ∧ lastAisle ≤ 7 ∧ highLevel ≤ 7 ∧ firstAisle ≤ lastAisle ∧
          lowLevel ≤ highLevel then
        State.done { s with shelf := { s.shelf with
          windows := s.shelf.windows.writeD Window.cold window ⟨z, firstAisle, lastAisle, lowLevel, highLevel⟩ } }
      else s.refuse .badField

/-- READ_WINDOW (R39). -/
def execReadWindow (window : Nat) (s : State) : Result :=
  s.host (.readWindow window) fun s =>
    if window < Config.windowCount then s.report (encodeWindow (s.window window)) else s.refuse .badField

end Sys2Proof.Machine
end

