-- ==== Sys2Proof/Machine/Reconcile.lean ====
section
/-! DEFINITION. The Reconciler (chapter 7, R127 to R144): the comparison of a report with the Shelf Map, the
discrepancy table, and the host's resolutions. -/

namespace Sys2Proof.Machine

/-! ## The comparison (R127, R128) -/

/-- What the robot reports at a slot: no wheel, or the seen tag, 0 where none could be read (R127). -/
inductive TagReport where
  | noWheel
  | tag (t : Nat)
deriving DecidableEq, Repr

/-- A finding: the entry of Table 7-1 without its slot, minute and holds. -/
structure Finding where
  kind       : DiscrepancyKind
  expected   : Option Nat
  seenTag    : Option Nat
  seenRecord : Option Nat
deriving DecidableEq, Repr

/-- The occupant of a slot, with its record (R128). -/
def State.occupantRecord? (s : State) (p : Nat) : Option (Nat × WheelRecord) :=
  match (s.slot p).occupant with
  | none => none
  | some i => (s.record? i).map fun r => (i, r)

/-- The finding of a valid tag that is not the occupant's: MISPLACED for a live record's, FOREIGN for any other. -/
def State.strangerFinding (s : State) (expected : Option Nat) (t : Nat) : Finding :=
  match s.registry.tagIndex.read? t with
  | some j => ⟨.misplaced, expected, some t, some (s.handleOf j)⟩
  | none => ⟨.foreign, expected, some t, none⟩

/-- The comparison of a report with the map (Table 7-1): none is a CONFIRM. -/
def State.findingAt (s : State) (p : Nat) (report : TagReport) : Option Finding :=
  match s.occupantRecord? p, report with
  | some (i, _), .noWheel => some ⟨.missing, some (s.handleOf i), none, none⟩
  | some (i, r), .tag t =>
    if t = r.tag then none
    else if t = 0 then some ⟨.unreadable, some (s.handleOf i), some 0, none⟩
    else some (s.strangerFinding (some (s.handleOf i)) t)
  | none, .noWheel => none
  | none, .tag t => if t = 0 then none else some (s.strangerFinding none t)

/-! ## The table (R133 to R135) -/

/-- The entry keyed at a slot, with its position. -/
def State.entryAt? (s : State) (p : Nat) : Option (Nat × Discrepancy) :=
  s.discrepancies.find? fun e => decide (e.2.slot = p)

/-- The lowest free position, if one is free (R133). -/
def State.freePosition? (s : State) : Option Nat :=
  let k := lowestUnlisted 0 s.discrepancies
  if k < Config.discrepancyCount then some k else none

/-- An entry lists a record with MISSING. -/
def Discrepancy.listsMissing (e : Discrepancy) (h : Nat) : Bool := e.holds.contains (h, .missing)

/-- One pair of an entry that has left the table or was not renewed is released: a MISSING that no standing entry
lists is removed; a MISPLACED needs no action (R135). MODEL'S CHOICE (log 43): so is a MISSING that a full table
placed on the same record (R134). -/
def State.releasePair (s : State) (pair : Nat × HoldReason) : State :=
  if pair.2 = .missing ∧ (s.discrepancies.any fun e => e.2.listsMissing pair.1) = false
  then s.removeHold (handleIndex pair.1) .missing else s

/-- The holds of an entry are released pair by pair (R135). -/
def State.releasePairs (s : State) (pairs : List (Nat × HoldReason)) : State := pairs.foldl State.releasePair s

/-- The table with a position free (R135). -/
def State.clearEntry (s : State) (k : Nat) : State := { s with discrepancies := s.discrepancies.clear k }

/-- The entry keyed at a slot leaves the table, its holds released (R135). -/
def State.dismissEntry (s : State) (p : Nat) : State :=
  match s.entryAt? p with
  | none => s
  | some (k, e) => (s.clearEntry k).releasePairs e.holds

/-- The MISSING pair a finding places; an UNREADABLE carries it over from the entry it replaces (R130). -/
def Finding.missingPairs (f : Finding) (old : Option Discrepancy) : List (Nat × HoldReason) :=
  match f.expected with
  | none => []
  | some h =>
    match f.kind with
    | .unreadable =>
      match old with
      | some e => if e.listsMissing h then [(h, .missing)] else []
      | none => []
    | .missing => [(h, .missing)]
    | .misplaced => [(h, .missing)]
    | .foreign => [(h, .missing)]

/-- The MISPLACED pair a finding places (R130). -/
def Finding.misplacedPairs (f : Finding) : List (Nat × HoldReason) :=
  match f.seenRecord with
  | none => []
  | some h => [(h, .misplaced)]

/-- The entry a finding writes (R130, R133). -/
def Finding.entry (f : Finding) (p now : Nat) (old : Option Discrepancy) : Discrepancy where
  slot       := p
  kind       := f.kind
  expected   := f.expected
  seenTag    := f.seenTag
  seenRecord := f.seenRecord
  foundAt    := now
  holds      := f.missingPairs old ++ f.misplacedPairs

/-- The MISSING holds of pairs join their records (R130). -/
def State.placePair (s : State) (pair : Nat × HoldReason) : State :=
  match pair.2 with
  | .missing => s.addHold (handleIndex pair.1) .missing
  | _ => s.dropCandidate (handleIndex pair.1)

/-- An entry written at a position: the holds the old entry placed and this one does not renew are released, this
one's are added, and DISCREPANCY is latched (R133). -/
def State.writeEntry (s : State) (k : Nat) (e : Discrepancy) (old : Option Discrepancy) : State :=
  let s1 := { s with discrepancies := s.discrepancies.write k e }
  let s2 := match old with
    | none => s1
    | some o => s1.releasePairs o.holds
  State.latch (e.holds.foldl State.placePair s2) .discrepancy

/-- A finding met by a full table (R134). -/
def State.tableFull (s : State) (p : Nat) (f : Finding) : State :=
  let s1 := (f.missingPairs none).foldl State.placePair s
  State.latch (s1.updSlot p fun v => { v with review := true }) .discrepancy

/-- A finding enters the table: in the position of its slot's entry, else in the lowest free one (R133, R134). -/
def State.enterFinding (s : State) (p : Nat) (f : Finding) : State :=
  match s.entryAt? p with
  | some (k, old) => s.writeEntry k (f.entry p s.clock.minutes (some old)) (some old)
  | none =>
    match s.freePosition? with
    | some k => s.writeEntry k (f.entry p s.clock.minutes none) none
    | none => s.tableFull p f

/-- A CONFIRM: the slot's entry leaves, the occupant's MISSING and UNCONFIRMED go, and the slot is verified now
(R129). -/
def State.confirm (s : State) (p : Nat) : State :=
  let s1 := s.dismissEntry p
  let s2 := match (s1.slot p).occupant with
    | none => s1
    | some i => (s1.removeHold i .missing).removeHold i .unconfirmed
  s2.updSlot p fun v => { v with verified := some s.clock.minutes }

/-- What the comparison answers (R131). -/
inductive Comparison where
  | confirm
  | unreadable
  | mismatch
  | missing
deriving DecidableEq, Repr

/-- The answer of a finding (R131). -/
def DiscrepancyKind.answer : DiscrepancyKind → Comparison
  | .unreadable => .unreadable
  | .misplaced => .mismatch
  | .foreign => .mismatch
  | .missing => .missing

/-- One comparison, taken whole: the review flag is cleared first (R127, R132). -/
def State.compare (s : State) (p : Nat) (report : TagReport) : State × Comparison :=
  let s1 := s.updSlot p fun v => { v with review := false }
  match s.findingAt p report with
  | none => (s1.confirm p, .confirm)
  | some f => (s1.enterFinding p f, f.kind.answer)

/-! ## Reading the table (R137) -/

/-- READ_DISCREPANCY of a position (R137). -/
def execReadDiscrepancy (position : Nat) (s : State) : Result :=
  s.host (.readDiscrepancy position) fun s =>
    if position < Config.discrepancyCount then
      match s.discrepancies.read? position with
      | none => s.refuse .notFound
      | some e => s.report (s.encodeDiscrepancy position e)
    else s.refuse .badField

/-- READ_DISCREPANCY(NEXT, after) (R137). -/
def execReadDiscrepancyNext (after : Nat) (s : State) : Result :=
  s.host (.readDiscrepancyNext after) fun s =>
    if after < Config.discrepancyCount ∨ after = Config.byteAll then
      match s.discrepancies.find? fun e => decide ((if after = Config.byteAll then 0 else after + 1) ≤ e.1) with
      | none => s.refuse .notFound
      | some e => s.report (s.encodeDiscrepancy e.1 e.2)
    else s.refuse .badField

/-! ## Resolving (R138 to R143) -/

/-- The tests of R138, then the rule of the choice, with the slot, the entry's position and the entry. -/
def State.withEntry (s : State) (l : LSlot) (f : Nat → Nat → Discrepancy → State × Reply) : State × Reply :=
  s.withSlot l fun p =>
    match s.entryAt? p with
    | none => s.refuse .notFound
    | some (k, e) => f p k e

/-- RESOLVE DISMISS (R139). -/
def execResolveDismiss (slot : LSlot) (s : State) : Result :=
  s.host (.resolveDismiss slot) fun s => s.withEntry slot fun p _ _ => (s.dismissEntry p).done

/-- RESOLVE RESCAN (R140). -/
def execResolveRescan (slot : LSlot) (s : State) : Result :=
  s.host (.resolveRescan slot) fun s => s.withEntry slot fun p _ _ =>
    (s.updSlot p fun v => { v with review := true }).done

/-- The seen record a MISPLACED entry moves: absent for every other kind, and once RETIRE has cleared it (R142). -/
def Discrepancy.moved? (e : Discrepancy) : Option Nat :=
  match e.kind with
  | .misplaced => e.seenRecord
  | _ => none

/-- The slot a seen record stands in, if it is located. -/
def State.standsIn? (s : State) (h : Nat) : Option Nat := (s.record? (handleIndex h)).bind fun r => r.location

/-- The claim of a seen record. -/
def State.claimOf (s : State) (h : Nat) : Claim := ((s.record? (handleIndex h)).map fun r => r.claim).getD .none

/-- The present occupant is a record other than the entry's expected record (R141 test 2). -/
def State.unseats (s : State) (p : Nat) (e : Discrepancy) : Bool :=
  match (s.slot p).occupant with
  | none => false
  | some i => decide (e.expected ≠ some (s.handleOf i))

/-- The refusal of an ADOPT, by the order of R141. -/
def State.adoptRefusal (s : State) (p : Nat) (e : Discrepancy) : Option Status :=
  if e.kind = .unreadable then some .badField
  else if s.unseats p e = true then some .sequence
  else match e.moved? with
    | none => if (s.slot p).engaged = true then some .busy else none
    | some h =>
      if s.claimOf h ≠ .none then some .claimed
      else if (s.slot p).engaged = true ∨ ((s.standsIn? h).any fun q => (s.slot q).engaged) = true then some .busy
      else if (s.slot p).reserved = true ∧
          (s.relocations.any fun q => decide (q.dest = p) && decide (q.wheel ≠ h)) = true then some .slotTaken
      else none

/-- The expected record, where it is the present occupant, becomes unlocated and leaves the Candidate List
(R142, R72). -/
def State.unseatExpected (s : State) (p : Nat) : State :=
  match (s.slot p).occupant with
  | none => s
  | some i => s.moveRecord i none

/-- The seen record takes the entry's slot, free of MISSING, UNCONFIRMED and BLOCKED_SLOT; a relocation of it to
this slot is complete (R143 steps 2 to 4). -/
def State.seatSeen (s : State) (p h : Nat) : State :=
  let i := handleIndex h
  let s1 := (((s.moveRecord i (some p)).removeHold i .missing).removeHold i .unconfirmed).removeHold i .blockedSlot
  match s1.relocationOf? h with
  | none => s1
  | some q => if q.dest = p then s1.endRelocation h else s1

/-- An accepted ADOPT (R142, R143): none of the entry's holds is released by R135. -/
def State.adopt (s : State) (p k : Nat) (e : Discrepancy) : State :=
  let s1 := s.unseatExpected p
  let s2 := match e.moved? with
    | none => s1
    | some h => s1.seatSeen p h
  s2.clearEntry k

/-- RESOLVE ADOPT (R141 to R143). -/
def execResolveAdopt (slot : LSlot) (s : State) : Result :=
  s.host (.resolveAdopt slot) fun s => s.withEntry slot fun p k e =>
    match s.adoptRefusal p e with
    | some st => s.refuse st
    | none => (s.adopt p k e).done

end Sys2Proof.Machine
end

