-- ==== Sys2Proof/Machine/Interval.lean ====
section
/-! DEFINITION. The interval computation (chapter 3, R47 to R58): one result for one live record at one moment. It
keeps no state. Every product and sum is formed exactly; a difference is an Int. -/

namespace Sys2Proof.Machine

/-! ## Age (R49) -/

/-- Stage 1: the age in cellar days; 0 for a make_day later than today. -/
def ageDays (now makeDay : Nat) : Nat := now / 1440 - makeDay

/-- Stage 2: the age multiplier in percent. -/
def ClassRecord.ageMultiplier (c : ClassRecord) (age : Nat) : Nat :=
  if c.stretch = 0 then 100 else min c.ageCap (100 + c.growth * (age / c.stretch))

/-! ## Intervals (R48, R50 to R52) -/

/-- The band input: none for zone 0, else the band of the zone of the slot (R48). -/
def State.bandInput (s : State) (p : Nat) : Option Band :=
  if s.zoneOf p = 0 then none else some (s.zone (s.zoneOf p)).band

/-- Stage 3: the band multiplier of the turn interval, in percent (R50). -/
def ClassRecord.turnMultiplier (c : ClassRecord) : Option Band → Nat
  | some .low => c.turnLow
  | some .high => c.turnHigh
  | some .inBand => 100
  | some .unknown => 100
  | none => 100

/-- The band multiplier of the brush interval, in percent (R52). -/
def ClassRecord.brushMultiplier (c : ClassRecord) : Option Band → Nat
  | some .high => c.brushHigh
  | some .low => 100
  | some .inBand => 100
  | some .unknown => 100
  | none => 100

/-- An interval lies within 60..20160 minutes (R51). -/
def clampInterval (n : Nat) : Nat := clampTo 60 20160 n

/-- Stage 4: the turn interval (R51). -/
def ClassRecord.turnInterval (c : ClassRecord) (age : Nat) (band : Option Band) : Nat :=
  clampInterval (c.turnBase * c.ageMultiplier age * c.turnMultiplier band / 10000)

/-- Stage 5: the brush interval, for a class that brushes (R52). -/
def ClassRecord.brushInterval (c : ClassRecord) (band : Option Band) : Option Nat :=
  if c.brushBase = 0 then none else some (clampInterval (c.brushBase * c.brushMultiplier band / 100))

/-! ## Lateness, eligibility, score, overdue (R53 to R57) -/

/-- Stages 6 and 7: the lateness at `now` of an action last done at `last`, clamped to ten thousand and eighty
minutes either way (R53, R54). -/
def lateness (now last interval : Nat) : Int := max (-10080) (min 10080 ((now : Int) - (last + interval : Nat)))

/-- The times of a record as the computation reads them: a later minute than now is read as now (R47). -/
def WheelRecord.turnedAt (r : WheelRecord) (now : Nat) : Nat := notAfter now r.lastTurn

/-- Where the brush is measured from: last_brush, or admitted_at when it is NEVER (R53). -/
def WheelRecord.brushedAt (r : WheelRecord) (now : Nat) : Nat := notAfter now (r.lastBrush.getD r.admittedAt)

/-- The turn lateness L_t of a record standing at slot p (R54). -/
def State.turnLateness (s : State) (r : WheelRecord) (p : Nat) : Int :=
  lateness s.clock.minutes (r.turnedAt s.clock.minutes)
    ((s.classRecord r.cls).turnInterval (ageDays s.clock.minutes r.makeDay) (s.bandInput p))

/-- The brush lateness L_b, for a class that brushes (R54). -/
def State.brushLateness (s : State) (r : WheelRecord) (p : Nat) : Option Int :=
  ((s.classRecord r.cls).brushInterval (s.bandInput p)).map fun n =>
    lateness s.clock.minutes (r.brushedAt s.clock.minutes) n

/-- Stage 8: the actions the wheel wants now (R55). -/
def State.eligible (s : State) (r : WheelRecord) (p : Nat) : ActionSet where
  turn := decide (-((s.classRecord r.cls).turnLead : Int) ≤ s.turnLateness r p)
  brush :=
    (match s.brushLateness r p with
     | none => false
     | some l => decide (-((s.classRecord r.cls).brushLead : Int) ≤ l)) && !s.brushSuspended (s.zoneOf p)
  scan := false
  move := false

/-- Stage 9: the largest lateness among the actions of the set (R56). -/
def State.largestLateness (s : State) (r : WheelRecord) (p : Nat) (a : ActionSet) : Int :=
  if a.turn && a.brush then max (s.turnLateness r p) ((s.brushLateness r p).getD (-10080))
  else if a.turn then s.turnLateness r p
  else (s.brushLateness r p).getD (-10080)

/-- Stage 9: the score, with the aisle bonus in the turner aisle (R56). -/
def State.score (s : State) (r : WheelRecord) (p : Nat) (a : ActionSet) : Int :=
  (s.classRecord r.cls).weight * s.largestLateness r p a +
    if slotAisle p = s.sweep.turnerAisle then (s.dispatcher.settings.aisleBonus : Int) else 0

/-- Stage 10: the record is overdue (R57). -/
def State.overdueNow (s : State) (i : Nat) (r : WheelRecord) (p : Nat) : Bool :=
  (s.held i r || s.usable p) && decide (((s.classRecord r.cls).overdueLimit : Int) < s.turnLateness r p)

/-! ## The result (R58) -/

/-- The result of the computation: the candidate with its action set, score and aisle, if it is one, and the
overdue answer. -/
structure IntervalResult where
  candidate : Option Candidate
  overdue   : Bool
deriving DecidableEq, Repr

/-- The computation for the record at an index: none while the clock is unset (R47). -/
def State.interval (s : State) (i : Nat) (r : WheelRecord) : Option IntervalResult :=
  if s.clock.isSet then
    match r.location with
    | none => some ⟨none, false⟩
    | some p =>
      let a := s.eligible r p
      some {
        candidate :=
          if s.dispatchable i r && !a.isEmpty
          then some ⟨s.handleOf i, a, s.score r p a, slotAisle p⟩ else none
        overdue := s.overdueNow i r p }
  else none

end Sys2Proof.Machine
end

