-- ==== Sys2Proof/Machine/Sweep.lean ====
section
/-! DEFINITION. The Sweep Unit and the Candidate List (chapter 4, R61 to R77), and the Class Table's requests that
feed them (R44, R45). -/

namespace Sys2Proof.Machine

/-! ## The Candidate List (R68 to R71) -/

/-- One entry ranks ahead of another: a higher score, or the same score and a lower index (R68). -/
def Candidate.ranksAhead (a b : Candidate) : Bool :=
  decide (b.score < a.score) || (decide (a.score = b.score) && decide (handleIndex a.handle < handleIndex b.handle))

/-- An entry placed where it belongs in rank order (R68). -/
def rankInsert (c : Candidate) : List Candidate → List Candidate
  | [] => [c]
  | d :: rest => if c.ranksAhead d then c :: d :: rest else d :: rankInsert c rest

/-- The list after an offer (R69, R70). -/
def offerTo (l : List Candidate) (c : Candidate) : List Candidate :=
  if l.any fun d => decide (handleIndex d.handle = handleIndex c.handle) then
    rankInsert c (l.filter fun d => decide (handleIndex d.handle ≠ handleIndex c.handle))
  else if l.length < Config.candidateMax then rankInsert c l
  else match l.getLast? with
    | none => l
    | some last => if c.ranksAhead last then rankInsert c l.dropLast else l

/-- A sweep offer (R69, R70). -/
def State.offer (s : State) (c : Candidate) : State := { s with candidates := offerTo s.candidates c }

/-! ## A sweep visit (R62 to R65) -/

/-- The future-timestamp clamp (R63). -/
def WheelRecord.clampTimes (r : WheelRecord) (now : Nat) : WheelRecord :=
  { r with lastTurn := notAfter now r.lastTurn, lastBrush := r.lastBrush.map (notAfter now) }

/-- A visit of an index: a free index is passed over, and while the clock is unset nothing is done (R61, R62, R64). -/
def State.sweepVisit (s : State) (i : Nat) : State :=
  match s.record? i with
  | none => s
  | some r =>
    let r1 := r.clampTimes s.clock.minutes
    let s1 := s.setRecord i r1
    match s1.interval i r1 with
    | none => s
    | some v =>
      match v.candidate with
      | some c => (s1.setOverdue i v.overdue).offer c
      | none => (s1.setOverdue i v.overdue).dropCandidate i

/-- A sweep step: 16 visits in ascending order, then the cursor advances, after 4080 to 0 (R61). MODEL'S CHOICE (log
42): the sixteen visits are one event, so that no other event falls between two visits of a step. -/
def State.sweepStep (s : State) : State :=
  let s1 := (List.range Config.sweepWidth).foldl (fun s k => s.sweepVisit (s.sweep.cursor + k)) s
  { s1 with sweep := { s1.sweep with cursor := (s.sweep.cursor + Config.sweepWidth) % Config.recordCount } }

/-- SWEEP_STEP (R61). -/
def execSweepStep (s : State) : Result := .next (if s.operating then s.sweepStep else s)

/-- READ_CANDIDATES (R75, R191). -/
def execReadCandidates (first : Nat) (s : State) : Result :=
  s.host (.readCandidates first) fun s =>
    if 1 ≤ first ∧ first ≤ Config.candidateMax then
      let shown := (s.candidates.drop (first - 1)).take Config.candidatesPerReply
      s.report (be 1 s.candidates.length ++ be 1 first ++ shown.flatMap encodeCandidate)
    else s.refuse .badField

/-! ## The Class Table (R44, R45) -/

/-- The brush base brought into its range, in which 0 is kept (R44). -/
def clampBrushBase (n : Nat) : Nat := if n = 0 then 0 else clampTo 60 43200 n

/-- A class record with each field brought into its range (Table 3-1, R44). -/
def ClassRecord.clamped (c : ClassRecord) : ClassRecord where
  turnBase     := clampTo 60 43200 c.turnBase
  brushBase    := clampBrushBase c.brushBase
  stretch      := clampTo 0 255 c.stretch
  growth       := clampTo 0 100 c.growth
  ageCap       := clampTo 100 400 c.ageCap
  turnLow      := clampTo 25 400 c.turnLow
  turnHigh     := clampTo 25 400 c.turnHigh
  brushHigh    := clampTo 25 400 c.brushHigh
  weight       := clampTo 1 8 c.weight
  turnLead     := clampTo 0 1440 c.turnLead
  brushLead    := clampTo 0 1440 c.brushLead
  overdueLimit := clampTo 60 10080 c.overdueLimit

/-- The status of a setting stored: CLAMPED when some field was changed on the way in (R44, R79, R148). -/
def storedStatus {α : Type} [DecidableEq α] (asked stored : α) : Status := if asked = stored then .ok else .clamped

/-- SET_CLASS (R44). -/
def execSetClass (cls turnBase brushBase stretch growth ageCap turnLow turnHigh brushHigh weight turnLead brushLead
    overdueLimit : Nat) (s : State) : Result :=
  s.host (.setClass cls turnBase brushBase stretch growth ageCap turnLow turnHigh brushHigh weight turnLead brushLead
      overdueLimit) fun s =>
    if cls < Config.classCount then
      let asked : ClassRecord := ⟨turnBase, brushBase, stretch, growth, ageCap, turnLow, turnHigh, brushHigh, weight,
        turnLead, brushLead, overdueLimit⟩
      ({ s with classes := s.classes.writeD ClassRecord.cold cls asked.clamped },
       ⟨storedStatus asked asked.clamped, encodeClass asked.clamped⟩)
    else s.refuse .badField

/-- READ_CLASS (R45). -/
def execReadClass (cls : Nat) (s : State) : Result :=
  s.host (.readClass cls) fun s =>
    if cls < Config.classCount then s.report (encodeClass (s.classRecord cls)) else s.refuse .badField

end Sys2Proof.Machine
end

