-- ==== Sys2Proof/Machine/Orders.lean ====
section
/-! DEFINITION. The Dispatcher's orders (chapter 5, R80 to R109): the building and issue of an order, its end, and
the requests of the robot and of the host that read or close orders. The visits are in
Sys2Proof/Machine/Visits.lean. -/

namespace Sys2Proof.Machine

/-! ## The window (R80 to R83) -/

/-- The order number that follows another: 255 is followed by 1 (R82). -/
def orderAfter (n : Nat) : Nat := if 255 ≤ n then 1 else n + 1

/-- The next number after `n` that no order of the window has, within `fuel` more steps (R82). -/
def freeNumber (w : List Order) : Nat → Nat → Nat
  | 0, n => orderAfter n
  | fuel + 1, n =>
    if w.any fun o => decide (o.number = orderAfter n) then freeNumber w fuel (orderAfter n) else orderAfter n

/-- The number of the next order: found within five steps (R82). -/
def State.nextNumber (s : State) : Nat := freeNumber s.dispatcher.window 4 s.dispatcher.lastNumber

/-- The outstanding order of a number (R80). -/
def State.order? (s : State) (n : Nat) : Option Order := s.dispatcher.window.find? fun o => decide (o.number = n)

/-- The state with the order of a number changed. -/
def State.updOrder (s : State) (n : Nat) (f : Order → Order) : State :=
  { s with dispatcher := { s.dispatcher with
    window := s.dispatcher.window.map fun o => if o.number = n then f o else o } }

/-- The state with an order out of the window (R80). -/
def State.dropOrder (s : State) (n : Nat) : State :=
  { s with dispatcher := { s.dispatcher with
    window := s.dispatcher.window.filter fun o => decide (o.number ≠ n) } }

/-- The timer of an order is loaded (R83). -/
def State.loadTimer (s : State) (n seconds : Nat) : State := s.updOrder n fun o => { o with timer := seconds }

/-- The visit of a number. -/
def Order.visit? (o : Order) (v : Nat) : Option Visit := o.visits.find? fun u => decide (u.number = v)

/-- The order with the visit of a number changed. -/
def Order.updVisit (o : Order) (v : Nat) (f : Visit → Visit) : Order :=
  { o with visits := o.visits.map fun u => if u.number = v then f u else u }

/-- A visit of an order changes its state (R81). -/
def State.setVisitState (s : State) (n v : Nat) (st : VisitState) : State :=
  s.updOrder n fun o => o.updVisit v fun u => { u with state := st }

/-- A visit has ended (R81). -/
def VisitState.ended : VisitState → Bool
  | .waiting => false
  | .started => false
  | .done => true
  | .skipped => true
  | .withdrawn => true

/-! ## Claims and engagements of a visit (R88, R94, R101) -/

/-- A slot becomes engaged, or is released (R33). -/
def State.setEngaged (s : State) (p : Nat) (b : Bool) : State := s.updSlot p fun v => { v with engaged := b }

/-- The destination of a MOVE is engaged or released with its source. -/
def State.setDestEngaged (s : State) (d : Option Nat) (b : Bool) : State :=
  match d with
  | none => s
  | some p => s.setEngaged p b

/-- A visit is issued: its wheel is CLAIMED and leaves the Candidate List, its slots are engaged, and a MOVE's
relocation is ISSUED (R88). -/
def State.engageVisit (s : State) (v : Visit) : State :=
  let s1 := match v.wheel with
    | none => s
    | some h => (s.setClaim (handleIndex h) .claimed).dropCandidate (handleIndex h)
  let s2 := match v.wheel, v.dest with
    | some h, some _ => s1.setRelocation h .issued
    | _, _ => s1
  (s2.setEngaged v.source true).setDestEngaged v.dest true

/-- An unended visit ends: its wheel's claim returns to NONE, its slots are released, and the relocation of a MOVE
that still has one returns to QUEUED (R94, R98, R99, R101, R102). -/
def State.releaseVisit (s : State) (v : Visit) : State :=
  let s1 := match v.wheel with
    | none => s
    | some h => s.setClaim (handleIndex h) .none
  let s2 := match v.wheel, v.dest with
    | some h, some _ => s1.setRelocation h .queued
    | _, _ => s1
  (s2.setEngaged v.source false).setDestEngaged v.dest false

/-- The wheel of a STARTED visit ends in doubt: UNCONFIRMED is added and latched (R98). -/
def State.doubtVisit (s : State) (v : Visit) : State :=
  match v.wheel with
  | none => s
  | some h => (s.addHold (handleIndex h) .unconfirmed).latch .unconfirmed

/-! ## Building an order (R85 to R88) -/

/-- A visit placed among others in physical order of their sources (R86). -/
def insertVisit (v : Visit) : List Visit → List Visit
  | [] => [v]
  | u :: rest => if v.source < u.source then v :: u :: rest else u :: insertVisit v rest

/-- Visits numbered upward from `n`. -/
def numberVisits : Nat → List Visit → List Visit
  | _, [] => []
  | n, v :: rest => { v with number := n } :: numberVisits (n + 1) rest

/-- Visits sorted into physical order and numbered 1 upward (R86, R87). -/
def sortVisits (l : List Visit) : List Visit := numberVisits 1 (l.foldr insertVisit [])

/-- A new visit, WAITING (R81). -/
def newVisit (source : Nat) (actions : ActionSet) (wheel compared : Option Nat) (tag : Nat) (dest : Option Nat) :
    Visit :=
  ⟨0, source, actions, wheel, compared, tag, dest, none, .waiting⟩

/-- An order is issued (R88). -/
def State.issue (s : State) (kind : OrderKind) (aisle : Nat) (visits : List Visit) : State × Reply :=
  let o : Order := ⟨s.nextNumber, kind, aisle, .issued, s.dispatcher.settings.acceptAllowance, visits⟩
  let s1 := { s with dispatcher := { s.dispatcher with
    window := s.dispatcher.window ++ [o], lastNumber := o.number } }
  (visits.foldl State.engageVisit s1, Reply.ok (encodeOrder o))

/-- The MOVE visit of a relocation, from its wheel's location (R85). -/
def State.moveVisit? (s : State) (q : Relocation) : Option Visit :=
  match s.record? (handleIndex q.wheel) with
  | none => none
  | some r =>
    r.location.map fun p =>
      { newVisit p ActionSet.moveOnly (some q.wheel) (some q.wheel) r.tag (some q.dest) with number := 1 }

/-- The relocation step's visit, if it yields one (R85). -/
def State.relocationWork? (s : State) : Option Visit := s.nextRelocation?.bind s.moveVisit?

/-- An entry of the Candidate List recomputed at the present moment (R86). -/
def State.recompute (s : State) (c : Candidate) : Option Candidate :=
  match s.record? (handleIndex c.handle) with
  | none => none
  | some r => (s.interval (handleIndex c.handle) r).bind fun v => v.candidate

/-- The survivors of the candidate step, by recomputed rank (R86). -/
def State.survivors (s : State) : List Candidate := (s.candidates.filterMap s.recompute).foldr rankInsert []

/-- The candidates the step chooses: the lead and up to 7 more of its aisle (R86). -/
def State.chosen (s : State) : List Candidate :=
  match s.survivors with
  | [] => []
  | lead :: rest => (lead :: rest.filter fun c => decide (c.aisle = lead.aisle)).take Config.visitMax

/-- The visit of a chosen survivor (R86). -/
def State.workVisit? (s : State) (c : Candidate) : Option Visit :=
  match s.record? (handleIndex c.handle) with
  | none => none
  | some r => r.location.map fun p => newVisit p c.actions (some c.handle) (some c.handle) r.tag none

/-- The visits of the candidate step, sorted and numbered (R86). -/
def State.candidateWork (s : State) : List Visit := sortVisits (s.chosen.filterMap s.workVisit?)

/-- The Candidate List after the recompute: the entries that are no longer candidates are removed, the others keep
their stored values (R73, R86). -/
def State.pruneCandidates (s : State) : State :=
  { s with candidates := s.candidates.filter fun c => (s.recompute c).isSome }

/-- The SCAN visit of a slot (R87). -/
def State.scanVisit (s : State) (p : Nat) : Visit :=
  newVisit p ActionSet.scanOnly none ((s.slot p).occupant.map s.handleOf)
    (((s.occupantRecord? p).map fun e => e.2.tag).getD 0) none

/-! ## FETCH (R84) -/

/-- The reasons of a NO_WORK reply (R186). -/
inductive NoWork where
  | paused
  | clockUnset
  | noneDue
deriving DecidableEq, Repr

/-- The reason byte: 1 PAUSED, 2 CLOCK_UNSET, 3 NONE_DUE (R186). -/
def NoWork.number : NoWork → Nat
  | .paused => 1
  | .clockUnset => 2
  | .noneDue => 3

/-- A NO_WORK reply (R186). -/
def State.noWork (s : State) (reason : NoWork) : State × Reply := (s, ⟨.noWork, be 1 reason.number⟩)

/-- Nothing yields work: the last two cases of R84. -/
def State.noneDue (s : State) : State × Reply :=
  s.noWork (if s.clock.isSet then .noneDue else .clockUnset)

/-- The census step of a FETCH: the Census Unit answers a taken request, and a batch becomes an order (R87, R120). -/
def State.fetchCensus (s : State) : State × Reply :=
  if s.dispatcher.settings.census then
    let t := s.censusTake
    let s1 := { s with census := t.2 }
    match t.1 with
    | [] => s1.noneDue
    | p :: rest => s1.issue .batch (slotAisle p) (sortVisits ((p :: rest).map s.scanVisit))
  else s.noneDue

/-- The candidate step of a FETCH, tried while the clock is set (R84, R86). -/
def State.fetchCandidates (s : State) : State × Reply :=
  if s.clock.isSet then
    match s.candidateWork with
    | [] => s.pruneCandidates.fetchCensus
    | v :: rest => s.pruneCandidates.issue .batch (slotAisle v.source) (v :: rest)
  else s.fetchCensus

/-- The three sources in turn (R84). -/
def State.fetchWork (s : State) : State × Reply :=
  match s.relocationWork? with
  | some v => s.issue .move (slotAisle v.source) [v]
  | none => s.fetchCandidates

/-- The Dispatcher's part of FETCH (R84, R67). -/
def State.ownFetch (aisle : Nat) (s : State) : State × Reply :=
  if aisle < 8 ∨ aisle = Config.aisleUnknown then
    let s1 := { s with sweep := { s.sweep with turnerAisle := aisle } }
    if s1.dispatcher.state = .paused then s1.noWork .paused
    else if Config.windowMax ≤ s1.dispatcher.window.length then s1.refuse .windowFull
    else s1.fetchWork
  else s.refuse .badField

/-- FETCH (R84 to R88). -/
def execFetch (aisle : Nat) (s : State) : Result := s.robot (.fetch aisle) (State.ownFetch aisle)

/-! ## Accepting, closing, expiring, cancelling (R90, R102 to R104) -/

/-- A turner request that names an outstanding order (R90, R102). -/
def State.withOrder (s : State) (n : Nat) (f : Order → State × Reply) : State × Reply :=
  match s.order? n with
  | none => s.refuse .unknownOrder
  | some o => f o

/-- ACCEPT (R90). -/
def execAccept (order : Nat) (s : State) : Result :=
  s.robot (.accept order) fun s => s.withOrder order fun o =>
    if o.state = .issued then
      ((s.updOrder order fun o => { o with state := .accepted }).loadTimer order
        s.dispatcher.settings.orderAllowance).done
    else s.refuse .sequence

/-- What the end of its order does to a visit: WAITING is withdrawn, STARTED ends as an ABORTED report would end it,
and an ended visit is not changed (R102). -/
def State.closeVisit (s : State) (v : Visit) : State :=
  match v.state with
  | .waiting => s.releaseVisit v
  | .started => (s.releaseVisit v).doubtVisit v
  | _ => s

/-- An order ends and leaves the window (R102). -/
def State.closeOrder (s : State) (o : Order) : State := (o.visits.foldl State.closeVisit s).dropOrder o.number

/-- CLOSE_ORDER (R102). -/
def execCloseOrder (order : Nat) (s : State) : Result :=
  s.robot (.closeOrder order) fun s => s.withOrder order fun o => (s.closeOrder o).done

/-- An order whose timer has reached zero closes, and ORDER_EXPIRED is latched; an order whose timer has been loaded
since does not expire (R83, R103). -/
def State.expireOrder (s : State) (n : Nat) : State :=
  match s.order? n with
  | none => s
  | some o => if o.timer = 0 then (s.closeOrder o).latch .orderExpired else s

/-- The expiries that fall due: one for each order whose timer stands at zero (R83, R103; log 6). -/
def State.dueExpiries (s : State) : List Instr :=
  (s.dispatcher.window.filter fun o => decide (o.timer = 0)).map fun o => .orderExpiry o.number

/-- ORDER_EXPIRY (R103; log 6). -/
def execOrderExpiry (order : Nat) (s : State) : Result :=
  .next (if s.operating then s.expireOrder order else s)

/-- A CANCEL_ORDERS covers an order (R104). -/
def Order.covered (o : Order) (aisle : Nat) : Bool := decide (aisle = Config.byteAll) || decide (o.aisle = aisle)

/-- What CANCEL_ORDERS makes of an order that stays in the window (R104). -/
def Order.cancel (o : Order) (aisle : Nat) : Order :=
  if o.covered aisle = true ∧ o.state = .accepted then { o with state := .cancelling } else o

/-- An order a CANCEL_ORDERS removes (R104). -/
def Order.cancelled (o : Order) (aisle : Nat) : Bool := o.covered aisle && decide (o.state = .issued)

/-- What the removal of an ISSUED order does to its visits (R104). -/
def State.withdrawVisits (s : State) (o : Order) : State :=
  o.visits.foldl (fun s v => if v.state.ended then s else s.releaseVisit v) s

/-- The state after a CANCEL_ORDERS (R104). -/
def State.cancelOrders (s : State) (aisle : Nat) : State :=
  let s1 := (s.dispatcher.window.filter fun o => o.cancelled aisle).foldl State.withdrawVisits s
  { s1 with dispatcher := { s1.dispatcher with
    window := (s.dispatcher.window.filter fun o => !o.cancelled aisle).map fun o => o.cancel aisle } }

/-- CANCEL_ORDERS: the reply counts the orders removed and the covered orders now CANCELLING (R104; log 19). -/
def execCancelOrders (aisle : Nat) (s : State) : Result :=
  s.host (.cancelOrders aisle) fun s =>
    if aisle < 8 ∨ aisle = Config.byteAll then
      let removed := (s.dispatcher.window.filter fun o => o.cancelled aisle).length
      let covered := (s.dispatcher.window.filter fun o => o.covered aisle).length
      (s.cancelOrders aisle, Reply.ok (be 1 removed ++ be 1 (covered - removed)))
    else s.refuse .badField

/-! ## Dispatch state and settings (R78, R79) -/

/-- The dispatch state is replaced. -/
def State.setDispatchState (s : State) (d : DispatchState) : State :=
  { s with dispatcher := { s.dispatcher with state := d } }

/-- PAUSE (R78). -/
def execPause (s : State) : Result := s.host .pause fun s => (s.setDispatchState .paused).done

/-- RESUME (R78). -/
def execResume (s : State) : Result := s.host .resume fun s => (s.setDispatchState .running).done

/-- The dispatch settings with each number brought into its range (R79). -/
def DispatchSettings.clamped (d : DispatchSettings) : DispatchSettings where
  acceptAllowance := clampTo 5 120 d.acceptAllowance
  orderAllowance  := clampTo 30 3600 d.orderAllowance
  visitAllowance  := clampTo 10 600 d.visitAllowance
  aisleBonus      := clampTo 0 4095 d.aisleBonus
  census          := d.census

/-- SET_DISPATCH (R79). -/
def execSetDispatch (acceptAllowance orderAllowance visitAllowance aisleBonus census : Nat) (s : State) : Result :=
  s.host (.setDispatch acceptAllowance orderAllowance visitAllowance aisleBonus census) fun s =>
    match yesNo? census with
    | none => s.refuse .badField
    | some b =>
      let asked : DispatchSettings := ⟨acceptAllowance, orderAllowance, visitAllowance, aisleBonus, b⟩
      ({ s with dispatcher := { s.dispatcher with settings := asked.clamped } },
       ⟨storedStatus asked asked.clamped, encodeDispatch asked.clamped⟩)

/-- READ_DISPATCH (R79). -/
def execReadDispatch (s : State) : Result :=
  s.host .readDispatch fun s => s.report (encodeDispatch s.dispatcher.settings)

/-! ## Reading orders (R106, R107) -/

/-- READ_ORDER: order number 0 is ALL (R106, R188). -/
def execReadOrder (order : Nat) (s : State) : Result :=
  s.robot (.readOrder order) fun s =>
    if order = 0 then
      s.report (be 1 s.dispatcher.window.length ++ s.dispatcher.window.flatMap encodeOrderBrief)
    else s.withOrder order fun o => s.report (encodeOrderRead o)

/-- READ_ORDERS: order number 0 is ALL (R107, R188). -/
def execReadOrders (order : Nat) (s : State) : Result :=
  s.host (.readOrders order) fun s =>
    if order = 0 then
      s.report (be 1 s.dispatcher.window.length ++ s.dispatcher.window.flatMap encodeOrderSummary)
    else s.withOrder order fun o => s.report (s.encodeOrderFull o)

/-! ## The WORK line (R89) -/

/-- Some source holds work: the Candidate List is not empty, the relocation step would yield a MOVE, or the census
is on and would yield a batch (R89). -/
def State.workStands (s : State) : Bool :=
  decide (s.candidates ≠ []) || s.relocationWork?.isSome || (s.dispatcher.settings.census && s.censusTried)

end Sys2Proof.Machine
end

