-- ==== Sys2Proof/Machine/Port.lean ====
section
/-! DEFINITION. The Bus Port's own commands (R180 to R185, R199), the Attention Unit's and the clock's requests, and
READ_STATUS (R193 to R195, R199). -/

namespace Sys2Proof.Machine

/-! ## Write transactions (R180 to R182) -/

/-- The status with which its owner refuses a request that no row of the command table spells; none for one that a
row spells (log 4). -/
def State.malformedStatus? (s : State) : Request → Option Status
  | .command _ => none
  | .badAmend handle => some (if (s.named? handle).isSome then .badField else .staleHandle)
  | .badOutcome order => some (if (s.order? order).isSome then .badField else .unknownOrder)
  | .badForm => some .badField

/-- The owner takes a request that no row spells out of the slot of a port (R181; log 4). -/
def State.takeMalformed (s : State) (p : PortId) : State :=
  match s.portState p with
  | .processing request =>
    match s.malformedStatus? request with
    | none => s
    | some st => s.ownerTakes p fun u => u.refuse st
  | _ => s

/-- What the owners take while no command waits: the requests that no row spells, at both addresses (log 4). -/
def State.ownersTake (s : State) : State :=
  if s.operating then (s.takeMalformed .registry).takeMalformed .turner else s

/-- The part has acknowledged the first `n` bytes of a transaction, its address byte among them, and no other
(R180, R181). -/
def State.acks (s : State) (n : Nat) : State := { s with port := { s.port with acked := n } }

/-- How many of the bytes delivered after the address byte the part acknowledges: up to the count the length byte
calls for, or up to the 127th of a frame whose length byte exceeds 124 (R180). -/
def ackedBytes (bytes : List Byte) : Nat :=
  match bytes with
  | _ :: n :: _ =>
    min bytes.length (if Config.payloadMax < n.toNat then Config.payloadMax + 3 else n.toNat + 3)
  | _ => bytes.length

/-- The port a transaction reaches: none at another address, and none while the part stays off the bus (R158,
R178). MODEL'S CHOICE (log 44): a transaction that is given while the part's own has begun is served too. -/
def State.reached? (s : State) (address : Nat) : Option PortId := if s.offBus then none else s.portAt? address

/-- A complete frame is judged: a refused one is answered at once, and any other takes the request slot (R181,
R182). -/
def State.takeFrame (s : State) (p : PortId) (frame : List Byte) : State :=
  match judgeFrame p frame with
  | .inl st => (s.discardKept p).setPort p (.ready (Reply.bare st))
  | .inr request => (s.discardKept p).setPort p (.processing request)

/-- A write transaction to a port ends: not acknowledged in PROCESSING, dropped when incomplete (R180, R181). -/
def State.writeEnded (s : State) (p : PortId) (bytes : List Byte) : State :=
  match s.portState p with
  | .processing _ => s.acks 0
  | _ =>
    match completeFrame? bytes with
    | none => s.acks (1 + ackedBytes bytes)
    | some frame => (s.acks (1 + ackedBytes bytes)).takeFrame p frame

/-- WRITE_TRANSACTION: acknowledged at the part's own two addresses alone (R178, R181). -/
def execWriteTransaction (address : Nat) (bytes : List Byte) (s : State) : Result :=
  .next (if s.operating then
    match s.reached? address with
    | none => s.acks 0
    | some p => s.writeEnded p bytes
  else s)

/-! ## Reads of a reply (R183) -/

/-- A frame the port makes itself is sent and not stored (R183). -/
def State.sendBare (s : State) (st : Status) (n : Nat) : State :=
  { s with port := { s.port with sent := clockedBytes (Reply.bare st).frame n } }

/-- A read transaction at a port, by its state (R183). -/
def State.readBegun (s : State) (r : ReplyReader) : State :=
  match s.portState r.port with
  | .idle => s.sendBare .noRequest r.clocked
  | .receiving none => s.sendBare .noRequest r.clocked
  | .receiving (some reply) => s.sendReply reply r
  | .ready reply => s.sendReply reply r
  | .processing _ => { s with port := { s.port with held := some r } }

/-- The straps stand at these levels from now on; the next start samples them (R178; log 2). -/
def State.strapped (s : State) (addr1 addr0 : Bool) : State :=
  { s with supply := { s.supply with addr1 := addr1, addr0 := addr0 } }

/-- A read transaction at an address: acknowledged in every port state (R183). -/
def State.readAt (s : State) (address clocked : Nat) : State :=
  match s.reached? address with
  | none => s.acks 0
  | some p => (s.acks 1).readBegun ⟨p, clocked⟩

/-- REPLY_READ (R183). -/
def execReplyRead (address : Nat) (reader : Reader) (s : State) : Result :=
  .next (if s.operating then (s.strapped reader.addr1 reader.addr0).readAt address reader.clocked else s)

/-- 4 ms of a held read pass without a reply: a PENDING frame is sent, and the request stays with its owner
(R183). -/
def State.holdEnded (s : State) : State :=
  match s.port.held with
  | none => s
  | some r => State.sendBare { s with port := { s.port with held := none } } .pending r.clocked

/-- CLOCK_HOLD_TIMEOUT (R183). -/
def execClockHoldTimeout (s : State) : Result := .next (if s.operating then s.holdEnded else s)

/-! ## RESTART (R199) -/

/-- RESTART: the start waits for its reply to be collected, or for 100 ms (R199). -/
def execRestart (s : State) : Result :=
  s.host .restart fun s => State.done { s with port := { s.port with restart := some true } }

/-- RESTART_DELAY_EXPIRY: 100 ms have passed since the reply of a RESTART was placed (R199). -/
def execRestartDelayExpiry (s : State) : Result :=
  .next (if s.operating ∧ s.port.restart.isSome then s.warmStart else s)

/-! ## Attention (R193) -/

/-- TAKE_ATTENTION (R193). -/
def execTakeAttention (s : State) : Result :=
  s.host .takeAttention fun s =>
    ({ s with attention := { s.attention with pending := 0x00#8 } },
     Reply.ok [s.attention.pending, s.attention.mask])

/-- SET_MASK (R193). -/
def execSetMask (mask : Byte) (s : State) : Result :=
  s.host (.setMask mask) fun s =>
    ({ s with attention := { s.attention with mask := mask } }, Reply.ok [mask])

/-! ## Status and clock (R194, R195) -/

/-- READ_STATUS: 11 bytes (R194). -/
def execReadStatus (s : State) : Result :=
  s.host .readStatus fun s =>
    s.report (be 1 s.clock.lastStart.number ++
      be 1 (s.clock.isSet.toNat + 2 * (decide (s.dispatcher.state = .running)).toNat + 4 * s.poller.overran.toNat) ++
      be 2 s.liveCount ++ be 2 s.registry.overdueCount ++ be 1 s.dispatcher.window.length ++
      be 1 s.candidates.length ++ be 1 s.relocations.length ++ be 1 s.discrepancies.length ++
      be 1 s.poller.state.number)

/-- SET_CLOCK (R195). -/
def execSetClock (minutes : Nat) (s : State) : Result :=
  s.host (.setClock minutes) fun s =>
    State.done { s with clock := { s.clock with minutes := minutes, second := 0, isSet := true } }

/-- READ_CLOCK (R195). MODEL'S CHOICE (log 15): the byte of each of its two flags, set 1 and clear 0. -/
def execReadClock (s : State) : Result :=
  s.host .readClock fun s =>
    s.report (be 4 s.clock.minutes ++ beFlag s.clock.isSet ++ beFlag s.clock.backupLoss)

end Sys2Proof.Machine
end

