-- ==== Sys2Proof/Machine/Rounds.lean ====
section
/-! DEFINITION. The polling rounds and the bus (chapter 8, R145 to R159): the poller's own commands, the bus
conditions, and the host's requests for the sensor table and the poll settings. A polling command acts only while
the part works and the poller stands in the step it belongs to (log 7, 8). -/

namespace Sys2Proof.Machine

/-! ## The round (R150 to R152) -/

/-- A round begins: the round-start notice, the fresh readings and the retry count cleared, BROADCASTING (R151). -/
def State.beginRound (s : State) : State :=
  let s1 := s.activateStaged
  { s1 with poller := { s1.poller with
    sensors := s1.poller.sensors.mapD (fun _ => SensorEntry.cold) fun _ e => { e with fresh := none }
    state := .broadcasting, retries := 0, begun := false, discard := false, boundaryFell := false } }

/-- A boundary: the timer reloads; in WAITING a round begins, and in a round the boundary is passed over (R150).
MODEL'S CHOICE (log 39): the round begins at the boundary though the bus be BUSY, and its MEASURE waits. -/
def State.boundary (s : State) : State :=
  match s.poller.roundTimer with
  | none => s
  | some _ =>
    let s1 := { s with poller := { s.poller with roundTimer := some s.poller.settings.period } }
    match s.poller.state with
    | .stopped => s
    | .waiting => s1.beginRound
    | _ => { s1 with poller := { s1.poller with overran := true, boundaryFell := true } }

/-- ROUND_BOUNDARY (R150, R151). -/
def execRoundBoundary (s : State) : Result := .next (if s.operating then s.boundary else s)

/-- The MEASURE broadcast is carried through: CONVERTING at its stop, the wait timed from there (R151, R152). -/
def State.measured (s : State) (acknowledged : Bool) : State :=
  let s1 := s.endTransaction (if acknowledged then [0x00#8, 0x3D#8] else [0x00#8])
  { s1 with poller := { s1.poller with state := .converting, waitLeft := s1.poller.settings.wait } }

/-- MEASURE (R151). -/
def execMeasure (acknowledged : Bool) (s : State) : Result :=
  .next (if s.operating ∧ s.poller.state = .broadcasting ∧ s.canTransact then s.measured acknowledged else s)

/-- The wait ends: READING at the first configured entry (R152, R153). -/
def State.waitEnded (s : State) : State :=
  State.turnFrom { s with poller := { s.poller with waitLeft := 0 } } 0

/-- CONVERSION_WAIT_END (R152). -/
def execConversionWaitEnd (s : State) : Result :=
  .next (if s.operating ∧ s.poller.state = .converting then s.waitEnded else s)

/-! ## Reads (R153, R154) -/

/-- The byte that addresses the node of the read, at the address its entry held when the read began; none is driven at
one of the part's own addresses (R153, R178). -/
def State.readDriven (s : State) : List Byte :=
  if s.ownAddress s.readAddress then [] else be 1 (2 * s.readAddress + 1)

/-- A read ends at its stop: taken, or discarded when its entry was changed; the turn passes on (R153). -/
def State.readEnded (s : State) (answer : Option (List Byte)) : State :=
  let s1 := if s.poller.discard then s else s.takeRead s.poller.turn answer
  (s1.endTransaction s.readDriven).turnFrom (s.poller.turn + 1)

/-- SENSOR_READ (R153, R154). -/
def execSensorRead (answer : Option (List Byte)) (s : State) : Result :=
  .next (if s.operating ∧ s.poller.state = .reading ∧ s.canTransact then s.readEnded answer else s)

/-! ## Arbitration (R158, R159) -/

/-- What the part does after a loss until the next stop (the second table of R158). -/
def State.roleAfterLoss (s : State) (inFirstByte : Bool) (winner : Byte) : LossRole :=
  if inFirstByte then
    match s.portAt? (winner.toNat / 2) with
    | some p => .serving p
    | none => .offBus
  else .offBus

/-- The turn of an entry that was made unused before its read began passes on, as a new transaction (R156, R159). -/
def State.passUnused (s : State) : State :=
  if s.poller.state = .reading ∧ s.poller.begun = false ∧ s.configured s.poller.turn = false then
    State.turnFrom { s with poller := { s.poller with retries := 0 } } s.poller.turn
  else s

/-- A transaction is exhausted: a MEASURE abandons the round, and a read is not taken (R159). -/
def State.exhausted (s : State) : State :=
  match s.poller.state with
  | .broadcasting => s.endRound
  | _ => State.turnFrom { s with poller := { s.poller with retries := 0 } } (s.poller.turn + 1)

/-- The part can lose to a winner: it drives the first byte, and in that byte the lower value wins, so that a MEASURE,
whose first byte is 00h, is lost in its data byte alone (R158). -/
def State.canLose (s : State) (inFirstByte : Bool) (winner : Byte) : Bool :=
  match s.firstByte? with
  | none => false
  | some b => !inFirstByte || decide (winner.toNat < b)

/-- The part loses arbitration: the transaction is abandoned and retried, unless the loss exhausts it (R158, R159).
MODEL'S CHOICE (log 38): an attempt that is lost leaves nothing to discard, so that a SET_SENSOR of the entry during
it, or before the retry, only gives the retry its new address; the retry count stands. -/
def State.arbitrationLost (s : State) (inFirstByte : Bool) (winner : Byte) : State :=
  let s1 := { s with poller := { s.poller with
    begun := false, discard := false, bus := .busy, lossRole := s.roleAfterLoss inFirstByte winner } }
  if s.poller.retries < Config.retryMax then
    State.passUnused { s1 with poller := { s1.poller with retries := s.poller.retries + 1 } }
  else s1.exhausted

/-- The part has a transaction to carry through: a MEASURE or a read. -/
def State.transacting (s : State) : Bool :=
  decide (s.poller.state = .broadcasting) || decide (s.poller.state = .reading)

/-- ARBITRATION_LOSS; one that cannot be has no effect (R158; log 10). -/
def execArbitrationLoss (inFirstByte : Bool) (winner : Byte) (s : State) : Result :=
  .next (if s.operating ∧ s.transacting ∧ s.canTransact ∧ s.canLose inFirstByte winner
    then s.arbitrationLost inFirstByte winner else s)

/-! ## The bus condition (R157) -/

/-- The address of the transaction the part begins: the general call for MEASURE, else the one the entry holds now
(R151, R153). -/
def State.beginAddress (s : State) : Nat :=
  if s.poller.state = .broadcasting then 0 else (s.sensor s.poller.turn).address

/-- A start condition makes the bus BUSY. The part's own begins its transaction: it makes one only when it needs the
bus, has a first byte to drive, and the bus is IDLE (R157, R178; log 9). -/
def State.startSeen (s : State) (own : Bool) : State :=
  if own then
    if s.transacting && !s.poller.begun && s.canTransact && s.firstByte?.isSome then
      { s with poller := { s.poller with bus := .busy, begun := true, target := s.beginAddress } }
    else s
  else { s with poller := { s.poller with bus := .busy } }

/-- BUS_START_CONDITION (R157). -/
def execBusStartCondition (own : Bool) (s : State) : Result := .next (if s.operating then s.startSeen own else s)

/-- The bus is IDLE, as after a stop (R157). -/
def State.busIdle (s : State) : State :=
  { s with poller := { s.poller with bus := .idle, awaitingIdle := false, lossRole := .none } }

/-- BUS_STOP_CONDITION (R157, R158). -/
def execBusStopCondition (s : State) : Result := .next (if s.operating then s.busIdle else s)

/-- BUS_IDLE_TIMEOUT: both lines have been high for 1 ms; it counts only until the first stop after a start of the
part (R157). -/
def execBusIdleTimeout (s : State) : Result :=
  .next (if s.operating ∧ s.poller.awaitingIdle then s.busIdle else s)

/-! ## The sensor table (R146, R147, R156) -/

/-- Another entry holds an address (R146 test 5). -/
def State.addressTaken (s : State) (entry address : Nat) : Bool :=
  (List.range Config.sensorCount).any fun e => decide (e ≠ entry) && decide ((s.sensor e).address = address)

/-- The refusal of a SET_SENSOR, by the order of R146. -/
def State.sensorRefusal (s : State) (entry address zone : Nat) : Option Status :=
  if Config.sensorCount ≤ entry then some .badField
  else if address = 0 then none
  else if address < 0x08 ∨ 0x77 < address then some .badField
  else if s.ownAddress address = true then some .badField
  else if zone < 1 ∨ 8 < zone then some .badField
  else if s.addressTaken entry address = true then some .duplicate
  else none

/-- An entry is written: UNPOLLED, the result of its read in progress to be discarded; the poller follows the run
condition, and passes an unused entry over (R146, R149, R153, R156). An unused entry stores zone 0 (log 34). -/
def State.writeSensor (s : State) (entry address zone : Nat) : State :=
  let s1 := s.setSensorEntry entry (SensorEntry.unpolled address (if address = 0 then 0 else zone))
  let reading := s.poller.begun && decide (s.poller.state = .reading) && decide (s.poller.turn = entry)
  let s2 := { s1 with poller := { s1.poller with discard := s.poller.discard || reading } }
  s2.followRunCondition.passUnused

/-- SET_SENSOR (R146). -/
def execSetSensor (entry address zone : Nat) (s : State) : Result :=
  s.host (.setSensor entry address zone) fun s =>
    match s.sensorRefusal entry address zone with
    | some st => s.refuse st
    | none => (s.writeSensor entry address zone).done

/-- READ_SENSOR (R147). -/
def execReadSensor (entry : Nat) (s : State) : Result :=
  s.host (.readSensor entry) fun s =>
    if entry < Config.sensorCount then s.report (encodeSensor (s.sensor entry)) else s.refuse .badField

/-! ## Poll settings (R148, R149) -/

/-- The poll settings with each number brought into its range (R148). -/
def PollSettings.clamped (p : PollSettings) : PollSettings where
  run    := p.run
  period := clampTo 10 600 p.period
  wait   := clampTo 20 2000 p.wait

/-- SET_POLL (R148, R149). -/
def execSetPoll (run period wait : Nat) (s : State) : Result :=
  s.host (.setPoll run period wait) fun s =>
    match runSetting? run with
    | none => s.refuse .badField
    | some r =>
      let asked : PollSettings := ⟨r, period, wait⟩
      (State.followRunCondition { s with poller := { s.poller with settings := asked.clamped } },
       ⟨storedStatus asked asked.clamped, encodePollSettings asked.clamped⟩)

/-- READ_POLL (R148). MODEL'S CHOICE (log 15): the byte of the overran flag, set 1 and clear 0. -/
def execReadPoll (s : State) : Result :=
  s.host .readPoll fun s =>
    s.report (encodePollSettings s.poller.settings ++ be 1 s.poller.state.number ++ beFlag s.poller.overran ++
      be 1 s.configuredCount)

end Sys2Proof.Machine
end

