-- ==== Sys2Proof/Machine/Visits.lean ====
section
/-! DEFINITION. The Dispatcher's visits (chapter 5, R91 to R101): VISIT_START and the five outcomes of
VISIT_END. -/

namespace Sys2Proof.Machine

/-! ## VISIT_START (R91 to R94) -/

/-- The refusal of a VISIT_START by tests 2 to 6 of R91. -/
def startRefusal (o : Order) (v? : Option Visit) (tag : Nat) : Option Status :=
  match v? with
  | none => some .badField
  | some v =>
    if tag = Config.tagAllOnes then some .badField
    else if o.state = .issued then some .sequence
    else if v.state ≠ .waiting then some .sequence
    else if (o.visits.any fun u => decide (u.state = .started)) = true then some .sequence
    else if v.actions.scan = true then some .sequence
    else none

/-- A visit withdrawn at VISIT_START, with the reply of that status (R94). -/
def State.withdraw (s : State) (n : Nat) (v : Visit) (st : Status) : State × Reply :=
  let s1 := (s.setVisitState n v.number .withdrawn).releaseVisit v
  (s1.loadTimer n s1.dispatcher.settings.visitAllowance, Reply.bare st)

/-- A visit that proceeds with its final action set (R93). -/
def State.proceed (s : State) (n : Nat) (v : Visit) (a : ActionSet) : State × Reply :=
  let s1 := s.updOrder n fun o => o.updVisit v.number fun u => { u with state := .started, proceeded := some a }
  let s2 := match v.wheel with
    | none => s1
    | some h => s1.setClaim (handleIndex h) .inHand
  let s3 := s2.reach v.source
  (s3.loadTimer n s3.dispatcher.settings.visitAllowance, ⟨.proceed, be 1 a.number⟩)

/-- The wheel of a visit is held, MISPLACED included (R92 step 2). -/
def State.wheelHeld (s : State) (v : Visit) : Bool :=
  match v.wheel with
  | none => false
  | some h =>
    match s.record? (handleIndex h) with
    | none => false
    | some r => s.held (handleIndex h) r

/-- The action set with BRUSH struck where the zone of the source slot is brush-suspended (R92 step 3). -/
def State.strikeBrush (s : State) (v : Visit) : ActionSet :=
  { v.actions with brush := v.actions.brush && !s.brushSuspended (s.zoneOf v.source) }

/-- The three checks of R92. -/
def State.checkStart (s : State) (n : Nat) (v : Visit) (tag : Nat) : State × Reply :=
  let c := s.compare v.source (.tag tag)
  if c.2 = .mismatch then c.1.withdraw n v .stop
  else if c.1.wheelHeld v = true then c.1.withdraw n v .stop
  else if (c.1.strikeBrush v).isEmpty = true then c.1.withdraw n v .stop
  else c.1.proceed n v (c.1.strikeBrush v)

/-- The Dispatcher's part of VISIT_START (R91, R92). -/
def State.ownVisitStart (order visit tag : Nat) (s : State) : State × Reply :=
  s.withOrder order fun o =>
    match startRefusal o (o.visit? visit) tag, o.visit? visit with
    | some st, _ => s.refuse st
    | none, none => s.refuse .badField
    | none, some v => if o.state = .cancelling then s.withdraw order v .cancelled else s.checkStart order v tag

/-- VISIT_START (R91 to R94). -/
def execVisitStart (order visit tag : Nat) (s : State) : Result :=
  s.robot (.visitStart order visit tag) (State.ownVisitStart order visit tag)

/-! ## VISIT_END (R95 to R101) -/

/-- The outcome a robot reports (section 5.6). -/
inductive VisitOutcome where
  | done
  | aborted
  | destUnreachable
  | unreachable
  | absent
deriving DecidableEq, Repr

/-- The outcomes allowed for a visit's state and kind (R95 test 4). -/
def Visit.allows (v : Visit) (e : VisitOutcome) : Bool :=
  match v.state with
  | .waiting =>
    match e with
    | .unreachable => true
    | .absent => true
    | .done => v.actions.scan
    | .aborted => false
    | .destUnreachable => false
  | .started =>
    match e with
    | .done => true
    | .aborted => true
    | .destUnreachable => v.actions.move
    | .unreachable => false
    | .absent => false
  | .done => false
  | .skipped => false
  | .withdrawn => false

/-- The actions done of a STARTED visit are wrong: an empty set, or an action not in the proceeded set
(R95 test 5). -/
def Visit.rejectsActions (v : Visit) (e : VisitOutcome) (a : ActionSet) : Bool :=
  decide (v.state = .started) && decide (e = .done) && (a.isEmpty || !a.within (v.proceeded.getD ActionSet.empty))

/-- The refusal of a VISIT_END by tests 2 to 5 of R95. -/
def endRefusal (o : Order) (v? : Option Visit) (e : VisitOutcome) (actions tag : Nat) : Option Status :=
  match v?, actionSet? actions with
  | none, _ => some .badField
  | _, none => some .badField
  | some v, some a =>
    if e = .done ∧ v.actions.scan = true ∧ tag = Config.tagAllOnes then some .badField
    else if o.state = .issued then some .sequence
    else if v.allows e = false then some .sequence
    else if v.rejectsActions e a = true then some .badField
    else none

/-- A count held at 65535 (R1, R96). -/
def countUp (n : Nat) : Nat := min 65535 (n + 1)

/-- A reported weight becomes last_weight, and intake_weight where that is absent (R96). -/
def WheelRecord.weighed (r : WheelRecord) (w : Option Nat) : WheelRecord :=
  match w with
  | none => r
  | some n =>
    { r with
      lastWeight := some n
      intakeWeight := match r.intakeWeight with
        | none => some n
        | some m => some m }

/-- The times and counts of the actions done (R96). -/
def WheelRecord.worked (r : WheelRecord) (now : Nat) (a : ActionSet) : WheelRecord :=
  { r with
    lastTurn := if a.turn then now else r.lastTurn
    turnCount := if a.turn then countUp r.turnCount else r.turnCount
    lastBrush := if a.brush then some now else r.lastBrush
    brushCount := if a.brush then countUp r.brushCount else r.brushCount }

/-- A turn done clears the overdue flag (R96, R23). -/
def State.clearOverdueOn (s : State) (i : Nat) (a : ActionSet) : State := if a.turn then s.setOverdue i false else s

/-- DONE of a STARTED visit with TURN or BRUSH: the wheel's record (R96). -/
def State.workDone (s : State) (i : Nat) (a : ActionSet) (w : Option Nat) : State :=
  (s.clearOverdueOn i a).updRecord i fun r => (r.worked s.clock.minutes a).weighed w

/-- DONE of a STARTED MOVE visit: the wheel stands at its destination and the relocation is complete (R97). -/
def State.moveDone (s : State) (h p : Nat) (w : Option Nat) : State :=
  let i := handleIndex h
  let s1 := ((s.moveRecord i (some p)).reach p).removeHold i .blockedSlot
  (s1.endRelocation h).updRecord i fun r => r.weighed w

/-- The effects of a DONE, by the kind of the visit (R96, R97, R100). -/
def State.visitDone (s : State) (v : Visit) (a : ActionSet) (w : Option Nat) (tag : Nat) : State :=
  match v.wheel, v.dest with
  | none, _ => (s.compare v.source (.tag tag)).1.reach v.source
  | some h, none => s.workDone (handleIndex h) a w
  | some h, some p => s.moveDone h p w

/-- The effects of an outcome on records and slots, before those every VISIT_END has (R96 to R100). -/
def State.visitOutcome (s : State) (v : Visit) (e : VisitOutcome) (a : ActionSet) (w : Option Nat) (tag : Nat) :
    State :=
  match e with
  | .done => s.visitDone v a w tag
  | .aborted => s.doubtVisit v
  | .destUnreachable =>
    match v.dest with
    | none => s
    | some p => s.unreachable p
  | .unreachable => s.unreachable v.source
  | .absent => (s.compare v.source .noWheel).1

/-- The state a visit ends in (R81). -/
def VisitOutcome.endState : VisitOutcome → VisitState
  | .done => .done
  | .aborted => .skipped
  | .destUnreachable => .skipped
  | .unreachable => .skipped
  | .absent => .skipped

/-- An accepted VISIT_END: the effects of its outcome, then the claim and the slots released and the timer loaded
(R96 to R101). -/
def State.endVisit (s : State) (n : Nat) (v : Visit) (e : VisitOutcome) (a : ActionSet) (w : Option Nat)
    (tag : Nat) : State :=
  let s1 := ((s.visitOutcome v e a w tag).releaseVisit v).setVisitState n v.number e.endState
  s1.loadTimer n s1.dispatcher.settings.visitAllowance

/-- The Dispatcher's part of VISIT_END with an outcome (R95). -/
def State.ownVisitEnd (e : VisitOutcome) (order visit actions weight tag : Nat) (s : State) : State × Reply :=
  s.withOrder order fun o =>
    match endRefusal o (o.visit? visit) e actions tag, o.visit? visit with
    | some st, _ => s.refuse st
    | none, none => s.refuse .badField
    | none, some v =>
      (s.endVisit order v e ((actionSet? actions).getD ActionSet.empty) (weightValue weight) tag).done

/-- VISIT_END DONE (R96, R97, R100). -/
def execVisitEndDone (order visit actions weight tag : Nat) (s : State) : Result :=
  s.robot (.visitEndDone order visit actions weight tag) (State.ownVisitEnd .done order visit actions weight tag)

/-- VISIT_END ABORTED (R98). -/
def execVisitEndAborted (order visit actions weight tag : Nat) (s : State) : Result :=
  s.robot (.visitEndAborted order visit actions weight tag)
    (State.ownVisitEnd .aborted order visit actions weight tag)

/-- VISIT_END DEST_UNREACHABLE (R98). -/
def execVisitEndDestUnreachable (order visit actions weight tag : Nat) (s : State) : Result :=
  s.robot (.visitEndDestUnreachable order visit actions weight tag)
    (State.ownVisitEnd .destUnreachable order visit actions weight tag)

/-- VISIT_END UNREACHABLE (R99). -/
def execVisitEndUnreachable (order visit actions weight tag : Nat) (s : State) : Result :=
  s.robot (.visitEndUnreachable order visit actions weight tag)
    (State.ownVisitEnd .unreachable order visit actions weight tag)

/-- VISIT_END ABSENT (R99). -/
def execVisitEndAbsent (order visit actions weight tag : Nat) (s : State) : Result :=
  s.robot (.visitEndAbsent order visit actions weight tag)
    (State.ownVisitEnd .absent order visit actions weight tag)

end Sys2Proof.Machine
end

