-- ==== Sys2Proof/Machine/Dispatch.lean ====
section
/-! DEFINITION. The effect of each command on everything but the queue: one arm per constructor. -/

namespace Sys2Proof.Machine

def exec (i : Instr) (s : State) : Host.Outcome State Fault Refusal :=
  match i with
  | .powerUp addr1 addr0 => Sys2Proof.Machine.execPowerUp addr1 addr0 s
  | .resetNAssert => Sys2Proof.Machine.execResetNAssert s
  | .resetNRelease addr1 addr0 => Sys2Proof.Machine.execResetNRelease addr1 addr0 s
  | .backupSupplyLoss => Sys2Proof.Machine.execBackupSupplyLoss s
  | .mainPowerLoss => Sys2Proof.Machine.execMainPowerLoss s
  | .clockMinuteTick => Sys2Proof.Machine.execClockMinuteTick s
  | .sweepStep => Sys2Proof.Machine.execSweepStep s
  | .orderExpiry order => Sys2Proof.Machine.execOrderExpiry order s
  | .roundBoundary => Sys2Proof.Machine.execRoundBoundary s
  | .measure acknowledged => Sys2Proof.Machine.execMeasure acknowledged s
  | .conversionWaitEnd => Sys2Proof.Machine.execConversionWaitEnd s
  | .sensorRead answer => Sys2Proof.Machine.execSensorRead answer s
  | .arbitrationLoss inFirstByte winner => Sys2Proof.Machine.execArbitrationLoss inFirstByte winner s
  | .busStartCondition own => Sys2Proof.Machine.execBusStartCondition own s
  | .busStopCondition => Sys2Proof.Machine.execBusStopCondition s
  | .busIdleTimeout => Sys2Proof.Machine.execBusIdleTimeout s
  | .writeTransaction address bytes => Sys2Proof.Machine.execWriteTransaction address bytes s
  | .replyRead address reader => Sys2Proof.Machine.execReplyRead address reader s
  | .clockHoldTimeout => Sys2Proof.Machine.execClockHoldTimeout s
  | .restartDelayExpiry => Sys2Proof.Machine.execRestartDelayExpiry s
  | .admitWheel tag cls makeDay location weight lastTurn lastBrush => Sys2Proof.Machine.execAdmitWheel tag cls makeDay location weight lastTurn lastBrush s
  | .lookupTag tag => Sys2Proof.Machine.execLookupTag tag s
  | .lookupSlot slot => Sys2Proof.Machine.execLookupSlot slot s
  | .readRecord handle => Sys2Proof.Machine.execReadRecord handle s
  | .nextRecord after => Sys2Proof.Machine.execNextRecord after s
  | .amendClass handle cls => Sys2Proof.Machine.execAmendClass handle cls s
  | .amendMakeDay handle day => Sys2Proof.Machine.execAmendMakeDay handle day s
  | .amendLastTurn handle time => Sys2Proof.Machine.execAmendLastTurn handle time s
  | .amendLastBrush handle time => Sys2Proof.Machine.execAmendLastBrush handle time s
  | .amendIntakeWeight handle weight => Sys2Proof.Machine.execAmendIntakeWeight handle weight s
  | .amendLastWeight handle weight => Sys2Proof.Machine.execAmendLastWeight handle weight s
  | .amendLocation handle location => Sys2Proof.Machine.execAmendLocation handle location s
  | .hold handle => Sys2Proof.Machine.execHold handle s
  | .release handle reason => Sys2Proof.Machine.execRelease handle reason s
  | .retire handle => Sys2Proof.Machine.execRetire handle s
  | .eraseRegistry => Sys2Proof.Machine.execEraseRegistry s
  | .mapRack rack logical columns levels => Sys2Proof.Machine.execMapRack rack logical columns levels s
  | .readRack rack => Sys2Proof.Machine.execReadRack rack s
  | .readSlot slot => Sys2Proof.Machine.execReadSlot slot s
  | .unblock slot => Sys2Proof.Machine.execUnblock slot s
  | .setWindow window zone firstAisle lastAisle lowLevel highLevel => Sys2Proof.Machine.execSetWindow window zone firstAisle lastAisle lowLevel highLevel s
  | .readWindow window => Sys2Proof.Machine.execReadWindow window s
  | .setClass cls turnBase brushBase stretch growth ageCap turnLow turnHigh brushHigh weight turnLead brushLead overdueLimit => Sys2Proof.Machine.execSetClass cls turnBase brushBase stretch growth ageCap turnLow turnHigh brushHigh weight turnLead brushLead overdueLimit s
  | .readClass cls => Sys2Proof.Machine.execReadClass cls s
  | .readCandidates first => Sys2Proof.Machine.execReadCandidates first s
  | .pause => Sys2Proof.Machine.execPause s
  | .resume => Sys2Proof.Machine.execResume s
  | .setDispatch acceptAllowance orderAllowance visitAllowance aisleBonus census => Sys2Proof.Machine.execSetDispatch acceptAllowance orderAllowance visitAllowance aisleBonus census s
  | .readDispatch => Sys2Proof.Machine.execReadDispatch s
  | .cancelOrders aisle => Sys2Proof.Machine.execCancelOrders aisle s
  | .readOrders order => Sys2Proof.Machine.execReadOrders order s
  | .relocate handle destination => Sys2Proof.Machine.execRelocate handle destination s
  | .unrelocate handle => Sys2Proof.Machine.execUnrelocate handle s
  | .readRelocations => Sys2Proof.Machine.execReadRelocations s
  | .censusRack rack => Sys2Proof.Machine.execCensusRack rack s
  | .censusRackNone => Sys2Proof.Machine.execCensusRackNone s
  | .readCensus => Sys2Proof.Machine.execReadCensus s
  | .readDiscrepancy position => Sys2Proof.Machine.execReadDiscrepancy position s
  | .readDiscrepancyNext after => Sys2Proof.Machine.execReadDiscrepancyNext after s
  | .resolveDismiss slot => Sys2Proof.Machine.execResolveDismiss slot s
  | .resolveRescan slot => Sys2Proof.Machine.execResolveRescan slot s
  | .resolveAdopt slot => Sys2Proof.Machine.execResolveAdopt slot s
  | .setSensor entry address zone => Sys2Proof.Machine.execSetSensor entry address zone s
  | .readSensor entry => Sys2Proof.Machine.execReadSensor entry s
  | .setPoll run period wait => Sys2Proof.Machine.execSetPoll run period wait s
  | .readPoll => Sys2Proof.Machine.execReadPoll s
  | .setZone zone bandLo bandHi hysteresis alarmLo alarmHi dwellRaise dwellClear gang => Sys2Proof.Machine.execSetZone zone bandLo bandHi hysteresis alarmLo alarmHi dwellRaise dwellClear gang s
  | .readZone zone => Sys2Proof.Machine.execReadZone zone s
  | .ackAlarm zone => Sys2Proof.Machine.execAckAlarm zone s
  | .takeAttention => Sys2Proof.Machine.execTakeAttention s
  | .setMask mask => Sys2Proof.Machine.execSetMask mask s
  | .readStatus => Sys2Proof.Machine.execReadStatus s
  | .setClock minutes => Sys2Proof.Machine.execSetClock minutes s
  | .readClock => Sys2Proof.Machine.execReadClock s
  | .restart => Sys2Proof.Machine.execRestart s
  | .fetch aisle => Sys2Proof.Machine.execFetch aisle s
  | .accept order => Sys2Proof.Machine.execAccept order s
  | .visitStart order visit tag => Sys2Proof.Machine.execVisitStart order visit tag s
  | .visitEndDone order visit actions weight tag => Sys2Proof.Machine.execVisitEndDone order visit actions weight tag s
  | .visitEndAborted order visit actions weight tag => Sys2Proof.Machine.execVisitEndAborted order visit actions weight tag s
  | .visitEndDestUnreachable order visit actions weight tag => Sys2Proof.Machine.execVisitEndDestUnreachable order visit actions weight tag s
  | .visitEndUnreachable order visit actions weight tag => Sys2Proof.Machine.execVisitEndUnreachable order visit actions weight tag s
  | .visitEndAbsent order visit actions weight tag => Sys2Proof.Machine.execVisitEndAbsent order visit actions weight tag s
  | .closeOrder order => Sys2Proof.Machine.execCloseOrder order s
  | .readOrder order => Sys2Proof.Machine.execReadOrder order s

end Sys2Proof.Machine
end

