-- ==== Sys2Proof/Machine/Step.lean ====
section
/-! DEFINITION. One step: the command at the front of the queue (log 30). On an empty queue the owners first take the
requests that no row spells (log 4), and then one second of the part's own time base passes (log 5), which queues the
expiry of every order whose timer stands at zero (log 6). -/

namespace Sys2Proof.Machine

/-- An order's timer counts a second down, to 0 (R83). -/
def Order.secondPassed (o : Order) : Order := { o with timer := o.timer - 1 }

/-- The poller's counts after a second: the seconds to the next boundary and the wait in progress (R150, R152). -/
def Poller.secondPassed (p : Poller) : Poller :=
  { p with roundTimer := p.roundTimer.map fun n => n - 1, waitLeft := p.waitLeft - 1000 }

/-- The counts of the part's own time base after a second; they stand still while the part does not work. -/
def State.countersPassed (s : State) : State :=
  if s.operating then
    { s with
      dispatcher := { s.dispatcher with window := s.dispatcher.window.map Order.secondPassed }
      poller := s.poller.secondPassed }
  else s

/-- One second passes. An order whose timer reaches zero has its expiry put in the queue (R83, R103). What happens when
another count ends is a command from outside: CLOCK_MINUTE_TICK, ROUND_BOUNDARY, CONVERSION_WAIT_END (log 5, 6). The
crystal runs always (R195). -/
def State.secondPassed (s : State) : State :=
  let s1 := s.countersPassed
  { s1 with
    clock := { s1.clock with second := min 60 (s1.clock.second + 1) }
    pending := s1.pending ++ (if s1.operating then s1.dueExpiries else []) }

/-- One step of the part (log 4, 5, 30). -/
def step (s : State) : Host.Outcome State Fault Refusal :=
  match s.pending with
  | [] => .next s.ownersTake.secondPassed
  | i :: rest => exec i { s with pending := rest }

/-- The state with the command a word spells put at the front of its queue; unchanged where it spells none. -/
def State.withFetchWord (s : State) (nbits w : Nat) : State :=
  match Sys2Proof.decodeTableWord nbits w with
  | none => s
  | some i => { s with pending := i :: s.pending }

end Sys2Proof.Machine
end

