-- ==== Sys2Proof/Machine/Flags.lean ====
section
/-! DEFINITION. The three output lines, each asserted (driven low) or released (R89, R174, R192, R196). A line is no
state of its own: it follows what its block holds (log 12). -/

namespace Sys2Proof.Machine

/-- ATTN is driven low: an enabled kind is pending (R192). -/
def State.attnAsserted (s : State) : Bool :=
  s.operating && decide (s.attention.pending &&& s.attention.mask ≠ 0x00#8)

/-- An alarm is RAISED. -/
def Alarm.isRaised : Alarm → Bool
  | .raised _ => true
  | .clear => false
  | .pending _ _ => false
  | .acknowledged _ => false
  | .settling _ _ _ => false

/-- ALARM is asserted: some zone's alarm is RAISED (R174). -/
def State.alarmAsserted (s : State) : Bool := s.operating && zoneNumbers.any fun z => (s.zone z).alarm.isRaised

/-- WORK is asserted (R89). -/
def State.workAsserted (s : State) : Bool :=
  s.operating && decide (s.dispatcher.state = .running) &&
  decide (s.dispatcher.window.length < Config.windowMax) && s.workStands

end Sys2Proof.Machine
end

