-- ==== Sys2Proof/Safety.lean ====
section
/-! DEFINITION. What a legal state is, what a run may rely on, and the words the obligations are written in. -/

namespace Sys2Proof.Machine

/-! ## Requests and their port -/

/-- A port holds a request that its owner has not taken. -/
def PortState.isProcessing : PortState → Bool
  | .idle => false
  | .receiving _ => false
  | .processing _ => true
  | .ready _ => false

/-- A port can take a request and keep its reply: the part works and does not stay off the bus, no request stands in
the slot, and no RESTART reply waits there (R158, R181, R199). -/
def State.free (s : State) (p : PortId) : Bool :=
  s.operating && !(s.portState p).isProcessing && !s.offBus &&
  (decide (p ≠ .registry) || decide (s.port.restart ≠ some true))

/-- The port a request command is placed at, by the kind of its frame (R187); none for a command that is no
request. -/
def requestPort (i : Instr) : Option PortId :=
  match requestOf i with
  | none => none
  | some r => (kindForm r.1).map fun e => e.1

/-- The command takes `s` to `t` and places the reply `r` at the port. -/
def State.Replies (s : State) (i : Instr) (p : PortId) (t : State) (r : Reply) : Prop :=
  exec i s = .next (t.setPort p (.ready r))

/-- A status with which a request is refused (00_scope 4.6). -/
def Status.isRefusal : Status → Bool
  | .badFrame => true
  | .badKind => true
  | .badField => true
  | .notFound => true
  | .staleHandle => true
  | .duplicate => true
  | .full => true
  | .slotTaken => true
  | .slotUnusable => true
  | .busy => true
  | .claimed => true
  | .rackInUse => true
  | .clockUnset => true
  | .unknownOrder => true
  | .sequence => true
  | .nothingToAck => true
  | _ => false

/-- The handle a request carries, if it carries one (R3). -/
def requestHandle : Instr → Option Nat
  | .readRecord h => some h
  | .amendClass h _ => some h
  | .amendMakeDay h _ => some h
  | .amendLastTurn h _ => some h
  | .amendLastBrush h _ => some h
  | .amendIntakeWeight h _ => some h
  | .amendLastWeight h _ => some h
  | .amendLocation h _ => some h
  | .hold h => some h
  | .release h _ => some h
  | .retire h => some h
  | .relocate h _ => some h
  | .unrelocate h => some h
  | _ => none

/-- A command of the supply, the reset pin or the crystal: the only ones that act while the part does not work. -/
def ofSupply : Instr → Bool
  | .powerUp _ _ => true
  | .resetNAssert => true
  | .resetNRelease _ _ => true
  | .backupSupplyLoss => true
  | .mainPowerLoss => true
  | .clockMinuteTick => true
  | _ => false

/-! ## What a change leaves alone -/

/-- In the registry, the record at one index becomes `r`; every other record, every generation, the tag index and
the overdue count stand. -/
def RecordBecomes (s t : State) (i : Nat) (r : WheelRecord) : Prop :=
  t.record? i = some r ∧ (∀ j, j ≠ i → t.record? j = s.record? j) ∧
  t.registry = { s.registry with records := t.registry.records }

/-- In the shelf map, one slot record becomes `v`; every other slot, the racks and the windows stand. -/
def SlotBecomes (s t : State) (p : Nat) (v : SlotRecord) : Prop :=
  t.slot p = v ∧ (∀ q, q ≠ p → t.slot q = s.slot q) ∧ t.shelf = { s.shelf with slots := t.shelf.slots }

/-! ## Starts (R197, R198) -/

/-- Every volatile item has its start value (R197, R198). -/
def VolatileAtStart (t : State) : Prop :=
  t.dispatcher.state = .paused ∧ t.dispatcher.window = [] ∧ t.dispatcher.lastNumber = 0 ∧
  t.candidates = [] ∧ t.sweep = ⟨0, 15⟩ ∧
  (∀ p, (t.slot p).engaged = false) ∧
  (∀ z, (t.zone z).value = none ∧ (t.zone z).temperature = none ∧ (t.zone z).used = 0 ∧ (t.zone z).band = .unknown ∧
    (t.zone z).alarm = .clear ∧ (t.zone z).blind = false ∧ (t.zone z).assigned = 0 ∧ (t.zone z).failed = 0) ∧
  (∀ e, (t.sensor e).state = .unpolled ∧ (t.sensor e).reading = none ∧ (t.sensor e).outcome = .none ∧
    (t.sensor e).rounds = none ∧ (t.sensor e).fresh = none) ∧
  t.poller.overran = false ∧ t.poller.retries = 0 ∧ t.poller.bus = .busy ∧ t.poller.awaitingIdle = true ∧
  t.port.registry = .idle ∧ t.port.turner = .idle ∧ t.port.restart = none ∧ t.port.held = none ∧
  t.attention = ⟨0x01#8, 0xFF#8⟩ ∧ t.clock.backupLoss = false

/-- Every retained item has its default (R197). -/
def RetainedAtDefault (t : State) : Prop :=
  t.clock.minutes = 0 ∧ t.clock.isSet = false ∧
  (∀ i, t.record? i = none ∧ t.generation i = 0) ∧ (∀ tag, t.registry.tagIndex.read? tag = none) ∧
  t.registry.overdueCount = 0 ∧
  (∀ p, t.rackRecord p = ⟨some (p + 1), 32, 8⟩) ∧
  (∀ p, t.slot p = ⟨none, false, false, .opened, 0, false, none⟩) ∧ (∀ n, t.window n = ⟨none, 0, 0, 0, 0⟩) ∧
  (∀ c, t.classRecord c = ⟨1440, 0, 0, 0, 100, 100, 100, 100, 1, 60, 60, 720⟩) ∧
  t.dispatcher.settings = ⟨30, 600, 120, 240, true⟩ ∧
  t.relocations = [] ∧ t.census = ⟨0, []⟩ ∧ t.discrepancies = [] ∧
  (∀ z, (t.zone z).active = ⟨850, 950, 10, 800, 980, 3, 3, 0⟩ ∧ (t.zone z).staged = none) ∧
  (∀ e, (t.sensor e).address = 0) ∧ t.poller.settings = ⟨.stop, 60, 250⟩ ∧
  t.poller.state = .stopped ∧ t.poller.roundTimer = none

/-- A record after a warm start (R24, R198). -/
def RecordConverted (r t : WheelRecord) : Prop :=
  t = { r with claim := .none, holds := { r.holds with
    unconfirmed := r.holds.unconfirmed || decide (r.claim = .inHand) } }

/-- Everything retained is kept, and what named lost work is converted (R198). -/
def RetainedConverted (s t : State) : Prop :=
  (∀ i, s.record? i = none → t.record? i = none) ∧
  (∀ i r, s.record? i = some r → ∃ r', t.record? i = some r' ∧ RecordConverted r r') ∧
  t.registry.generations = s.registry.generations ∧ t.registry.tagIndex = s.registry.tagIndex ∧
  t.registry.overdueCount = s.registry.overdueCount ∧
  (∀ p, t.slot p = { s.slot p with engaged := false }) ∧ t.shelf.racks = s.shelf.racks ∧
  t.shelf.windows = s.shelf.windows ∧ t.classes = s.classes ∧ t.dispatcher.settings = s.dispatcher.settings ∧
  t.relocations = s.relocations.map (fun q => { q with state := .queued }) ∧ t.census = s.census ∧
  t.discrepancies = s.discrepancies ∧ t.poller.settings = s.poller.settings ∧
  (∀ e, (t.sensor e).address = (s.sensor e).address ∧ (t.sensor e).zone = (s.sensor e).zone) ∧
  t.clock.minutes = s.clock.minutes ∧ t.clock.isSet = s.clock.isSet ∧
  (if s.runCondition then
    t.poller.state = .waiting ∧ t.poller.roundTimer = some 0 ∧
    ∀ z, (t.zone z).active = (s.zone z).active ∧ (t.zone z).staged = (s.zone z).staged
  else
    t.poller.state = .stopped ∧ t.poller.roundTimer = none ∧
    ∀ z, (t.zone z).active = (s.zone z).staged.getD (s.zone z).active ∧ (t.zone z).staged = none)

/-- A cold start has been made (R197). -/
def ColdStarted (t : State) : Prop := RetainedAtDefault t ∧ VolatileAtStart t ∧ t.clock.lastStart = .cold

/-- A warm start has been made from `s` (R198). -/
def WarmStarted (s t : State) : Prop := RetainedConverted s t ∧ VolatileAtStart t ∧ t.clock.lastStart = .warm

/-! ## Invariants -/

/-- Every table is in its canonical form. -/
def State.tablesCanonical (s : State) : Bool :=
  s.registry.records.ordered && s.registry.generations.canonical (fun _ => 0) && s.registry.tagIndex.ordered &&
  s.shelf.racks.canonical RackRecord.cold && s.shelf.slots.canonical (fun _ => SlotRecord.cold) &&
  s.shelf.windows.canonical (fun _ => Window.cold) && s.classes.canonical (fun _ => ClassRecord.cold) &&
  s.discrepancies.ordered && s.poller.sensors.canonical (fun _ => SensorEntry.cold) &&
  s.zones.canonical (fun _ => Zone.cold)

/-- No table, list or queue holds more than its capacity (R2, R68, R80, R110, R119, R133). -/
def State.withinCapacity (s : State) : Bool :=
  s.registry.records.all (fun e => decide (e.1 < 4096)) && decide (s.candidates.length ≤ 32) &&
  decide (s.dispatcher.window.length ≤ 4) && s.dispatcher.window.all (fun o => decide (o.visits.length ≤ 8)) &&
  decide (s.relocations.length ≤ 8) && decide (s.census.directed.length ≤ 4) &&
  s.discrepancies.all fun e => decide (e.1 < 16)

/-- The tag index holds exactly one entry for each live record (R4). -/
def State.tagIndexAgrees (s : State) : Prop :=
  ∀ tag i, s.registry.tagIndex.read? tag = some i ↔ ∃ r, s.record? i = some r ∧ r.tag = tag

/-- The overdue count is the number of live records whose overdue flag is set (R23). -/
def State.overdueCounted (s : State) : Bool :=
  decide (s.registry.overdueCount = (s.registry.records.filter fun e => e.2.overdue).length)

/-- The Candidate List is in rank order and names no record twice (R68). -/
def State.candidatesRanked (s : State) : Prop :=
  s.candidates.Pairwise (fun a b => a.ranksAhead b = true) ∧
  (s.candidates.map fun c => handleIndex c.handle).Nodup

/-- The poller is STOPPED exactly while its round timer is stopped, and no staged record stands then; it is never
left in EVALUATING; the retry count is at most 8 (R149, R155, R159, R163). -/
def State.pollerLegal (s : State) : Prop :=
  (s.poller.state = .stopped ↔ s.poller.roundTimer = none) ∧
  (s.poller.state = .stopped → ∀ z, (s.zone z).staged = none) ∧
  s.poller.state ≠ .evaluating ∧ s.poller.retries ≤ 8

/-- A climate window covers aisles and levels that exist, for a monitored zone or for none (R39). -/
def Window.legal (w : Window) : Prop :=
  w.firstAisle ≤ w.lastAisle ∧ w.lastAisle ≤ 7 ∧ w.lowLevel ≤ w.highLevel ∧ w.highLevel ≤ 7 ∧
  ∀ z, w.zone = some z → 1 ≤ z ∧ z ≤ 8

/-- A sensor entry is unused, or has an address of a node and a monitored zone (R145, R146). -/
def SensorEntry.legal (e : SensorEntry) : Prop :=
  e.address = 0 ∨ (0x08 ≤ e.address ∧ e.address ≤ 0x77 ∧ 1 ≤ e.zone ∧ e.zone ≤ 8)

/-- Every setting lies in its range, no two racks carry one number, and no two configured sensor entries one address
(R26, R27, R39, R43, R79, R146, R148, R161). -/
def State.settingsLegal (s : State) : Prop :=
  (∀ c, (s.classRecord c).clamped = s.classRecord c) ∧ s.dispatcher.settings.clamped = s.dispatcher.settings ∧
  s.poller.settings.clamped = s.poller.settings ∧
  (∀ z, (s.zone z).active.clamped = (s.zone z).active ∧ (s.zone z).active.inOrder = true) ∧
  (∀ z c, (s.zone z).staged = some c → c.clamped = c ∧ c.inOrder = true) ∧
  (∀ p, p < 16 → 1 ≤ (s.rackRecord p).columns ∧ (s.rackRecord p).columns ≤ 32 ∧ 1 ≤ (s.rackRecord p).levels ∧
    (s.rackRecord p).levels ≤ 8 ∧ ∀ n, (s.rackRecord p).logical = some n → 1 ≤ n ∧ n ≤ 16) ∧
  (∀ p q n, p < 16 → q < 16 → (s.rackRecord p).logical = some n → (s.rackRecord q).logical = some n → p = q) ∧
  (∀ n, (s.window n).legal) ∧ (∀ e, (s.sensor e).legal) ∧
  (∀ e f, e < 16 → f < 16 → (s.sensor e).address = (s.sensor f).address → (s.sensor e).address ≠ 0 → e = f)

/-- Occupants and locations agree: a slot's occupant is a live record located there, and a located record is its
slot's occupant (R32). -/
def State.locationsAgree (s : State) : Prop :=
  ∀ i p, (s.slot p).occupant = some i ↔ ∃ r, s.record? i = some r ∧ r.location = some p

/-! ## Orders, claims, marks, relocations and candidates agree -/

/-- The unended visits of the outstanding orders (R81). -/
def State.unended (s : State) : List Visit :=
  s.dispatcher.window.flatMap fun o => o.visits.filter fun v => !v.state.ended

/-- The slots a visit names: its source, and the destination of a MOVE (R33). -/
def Visit.slots (v : Visit) : List Nat := v.source :: v.dest.toList

/-- A handle names a live record (R3). -/
def State.Names (s : State) (h : Nat) (r : WheelRecord) : Prop :=
  s.record? (handleIndex h) = some r ∧ s.handleOf (handleIndex h) = h

/-- A visit of a wheel's own work: TURN, BRUSH, or both (R81). -/
def Visit.isWork (v : Visit) : Prop :=
  v.actions.scan = false ∧ v.actions.move = false ∧ v.actions.isEmpty = false ∧ v.wheel.isSome = true

/-- An order as R80 and R81 describe it: visits numbered 1 upward, in one aisle, of one kind of work; one visit alone
in a MOVE order; at most one visit STARTED. -/
def Order.legal (o : Order) : Prop :=
  1 ≤ o.number ∧ o.number ≤ 255 ∧ 1 ≤ o.visits.length ∧ o.visits.length ≤ 8 ∧
  o.visits.map (fun v => v.number) = (List.range o.visits.length).map (fun n => n + 1) ∧
  (∀ v ∈ o.visits, slotAisle v.source = o.aisle) ∧
  (o.visits.filter fun v => decide (v.state = .started)).length ≤ 1 ∧
  (o.kind = .move → o.visits.length = 1 ∧
    ∀ v ∈ o.visits, v.actions = ActionSet.moveOnly ∧ v.wheel.isSome = true ∧ v.dest.isSome = true) ∧
  (o.kind = .batch → (∀ v ∈ o.visits, v.dest = none) ∧
    ((∀ v ∈ o.visits, v.actions = ActionSet.scanOnly ∧ v.wheel = none) ∨ ∀ v ∈ o.visits, v.isWork))

/-- The orders of the window are legal, and no two have one number (R80). -/
def State.ordersLegal (s : State) : Prop :=
  (s.dispatcher.window.map fun o => o.number).Nodup ∧ ∀ o ∈ s.dispatcher.window, o.legal

/-- A record is claimed exactly while it is the wheel of an unended visit, IN_HAND exactly while that visit is STARTED;
it stands at the visit's source, and no record is the wheel of two such visits (R20, R81). -/
def State.claimsAgree (s : State) : Prop :=
  (∀ i r, s.record? i = some r → (r.claim ≠ .none ↔ ∃ v ∈ s.unended, v.wheel = some (s.handleOf i))) ∧
  (∀ v ∈ s.unended, ∀ h, v.wheel = some h →
    ∃ r, s.Names h r ∧ r.location = some v.source ∧ (r.claim = .inHand ↔ v.state = .started)) ∧
  (s.unended.filterMap fun v => v.wheel).Nodup

/-- A slot is engaged exactly while one unended visit names it (R33). -/
def State.engagementsAgree (s : State) : Prop :=
  (∀ p, (s.slot p).engaged = true ↔ ∃ v ∈ s.unended, p ∈ v.slots) ∧ (s.unended.flatMap Visit.slots).Nodup

/-- A slot is reserved exactly while one relocation has it as its destination, and is then empty; a record is
relocation-pending exactly while one relocation is its own; and a relocation is ISSUED exactly while the MOVE visit of
that wheel to that slot is unended (R33, R110, R114). -/
def State.relocationsAgree (s : State) : Prop :=
  (s.relocations.map fun q => q.wheel).Nodup ∧ (s.relocations.map fun q => q.dest).Nodup ∧
  (∀ p, (s.slot p).reserved = true ↔ ∃ q ∈ s.relocations, q.dest = p) ∧
  (∀ p, (s.slot p).reserved = true → (s.slot p).occupant = none) ∧
  (∀ i r, s.record? i = some r → (r.relocationPending = true ↔ ∃ q ∈ s.relocations, q.wheel = s.handleOf i)) ∧
  (∀ q ∈ s.relocations, ∃ r, s.Names q.wheel r) ∧
  (∀ q ∈ s.relocations, q.state = .issued ↔ ∃ v ∈ s.unended, v.wheel = some q.wheel ∧ v.dest = some q.dest) ∧
  (∀ v ∈ s.unended, ∀ d, v.dest = some d → ∃ q ∈ s.relocations, v.wheel = some q.wheel ∧ d = q.dest)

/-- The Candidate List names live records alone, none claimed and none held (R68). -/
def State.candidatesFree (s : State) : Prop :=
  ∀ c ∈ s.candidates, ∃ r, s.Names c.handle r ∧ r.claim = .none ∧ s.held (handleIndex c.handle) r = false

/-- The seen record of every discrepancy entry is a live one (R18, R133). -/
def State.seenRecordsLive (s : State) : Prop :=
  ∀ e ∈ s.discrepancies, ∀ h, e.2.seenRecord = some h → ∃ r, s.Names h r

/-- What every step keeps about the wheels, the slots, the orders and the queue, taken together (R4, R18, R20, R32,
R33, R68, R80, R110), with the tables canonical and within their capacities. -/
def State.worksAgree (s : State) : Prop :=
  s.tablesCanonical = true ∧ s.withinCapacity = true ∧ s.candidatesRanked ∧ s.tagIndexAgrees ∧ s.locationsAgree ∧
  s.ordersLegal ∧ s.claimsAgree ∧ s.engagementsAgree ∧ s.relocationsAgree ∧ s.candidatesFree ∧ s.seenRecordsLive

end Sys2Proof.Machine
end

