-- ==== Sys2Proof/Certificates/Slice0/Obligations.lean ====
section
/-! DEFINITION. The statements for the provers. A request is stated at a port that can take it (`State.free`); what
a command does not write stands in the equation `t = { s with … }`. -/

open Sys2Proof Sys2Proof.Machine

/-! ## The machine -/

/-- A step runs the command at the front of the queue on the state with the queue's rest. The queue is the model's
own, log 30: the spec has none. -/
def Obligations.StepRunsTheFrontCommand : Prop :=
  ∀ (s : State) (c : Instr) (rest : List Instr),
    s.pending = c :: rest → step s = exec c { s with pending := rest }

/-- Every step answers a next state: no command faults and none is refused (R186: every request is answered). On an
empty queue the owners take the requests that no row spells, and one second passes: the model's choice, log 4, 5 and
6. Then only the counts of the part's own time base and the second of the minute move, none goes below 0, and an order
whose timer stands at 0 has its expiry put in the queue (R83, R103). -/
def Obligations.StepsAlwaysAnswerAndTimePasses : Prop :=
  (∀ s : State, ∃ t, step s = .next t) ∧
  (∀ s u : State, s.pending = [] → u = s.ownersTake → ∃ t, step s = .next t ∧
     t = { u with dispatcher := t.dispatcher, poller := t.poller, clock := t.clock, pending := t.pending } ∧
     t.clock = { u.clock with second := min 60 (u.clock.second + 1) } ∧
     (s.operating = true →
       t.dispatcher = { u.dispatcher with
         window := u.dispatcher.window.map fun o => { o with timer := o.timer - 1 } } ∧
       t.poller = { u.poller with
         roundTimer := u.poller.roundTimer.map fun n => n - 1, waitLeft := u.poller.waitLeft - 1000 } ∧
       t.pending = (t.dispatcher.window.filter fun o => decide (o.timer = 0)).map fun o => .orderExpiry o.number) ∧
     (s.operating = false →
       u = s ∧ t.dispatcher = s.dispatcher ∧ t.poller = s.poller ∧ t.pending = []) ∧
     ((s.portState .registry).isProcessing = false → (s.portState .turner).isProcessing = false → u = s))

/-- The state right after reset is that of a completed cold start with nothing waiting; the pins and the address
follow log 1 and 2. The state right after reset satisfies every invariant that a statement of steps uses as a premise.
-/
def Obligations.ResetIsAColdStartAndLegal : Prop :=
  (ColdStarted State.reset ∧ State.reset.pending = [] ∧ State.reset.operating = true ∧
   State.reset.port.registryAddress = 0x2A ∧ State.reset.attnAsserted = true ∧
   State.reset.alarmAsserted = false ∧ State.reset.workAsserted = false) ∧
  (State.reset.tablesCanonical = true ∧ State.reset.withinCapacity = true ∧ State.reset.candidatesRanked ∧
   State.reset.tagIndexAgrees ∧ State.reset.overdueCounted = true ∧ State.reset.pollerLegal ∧
   State.reset.settingsLegal ∧ State.reset.worksAgree)

/-- Every step keeps the tables canonical, every table, list and queue within its capacity, and the Candidate List
ranked (R2, R68, R80, R110, R119, R133). -/
def Obligations.StepsKeepTheTablesWithinCapacity : Prop :=
  ∀ s t : State, s.tablesCanonical = true → s.withinCapacity = true → s.candidatesRanked → step s = .next t →
    t.tablesCanonical = true ∧ t.withinCapacity = true ∧ t.candidatesRanked

/-- Every step keeps the tag index exactly one entry for each live record, and the overdue count the number of overdue
records (R4, R23). -/
def Obligations.StepsKeepTheRegistryConsistent : Prop :=
  ∀ s t : State, s.tablesCanonical = true → s.tagIndexAgrees → s.overdueCounted = true → step s = .next t →
    t.tagIndexAgrees ∧ t.overdueCounted = true

/-- Every step keeps every setting in its range and the poller's state legal: STOPPED exactly while its timer is
stopped, with nothing staged then, and never left in EVALUATING (R149, R155, R159, R161, R163). The settings are those
of the classes, of dispatch, of polling, of the zones, of the racks with their logical numbers, of the climate windows
and of the sensor table (R26, R27, R39, R43, R79, R146, R148). -/
def Obligations.StepsKeepThePollerAndSettingsLegal : Prop :=
  ∀ s t : State, s.tablesCanonical = true → s.pollerLegal → s.settingsLegal → step s = .next t →
    t.pollerLegal ∧ t.settingsLegal

/-- Every step keeps the occupants and the locations in agreement, whatever moves a wheel: ADMIT, AMEND, RETIRE,
ERASE_REGISTRY, a MOVE reported DONE, RESOLVE ADOPT (R32). -/
def Obligations.StepsKeepLocationsAgreed : Prop :=
  ∀ s t : State, s.worksAgree → step s = .next t → t.locationsAgree

/-- Every step keeps each record claimed exactly while it is the wheel of an unended visit of an outstanding order,
IN_HAND exactly while that visit is STARTED, and no record the wheel of two such visits (R20). -/
def Obligations.StepsKeepClaimsWithTheirVisits : Prop :=
  ∀ s t : State, s.worksAgree → step s = .next t → t.claimsAgree

/-- Every step keeps each slot engaged exactly while one unended visit of an outstanding order names it as its source
or as its MOVE destination, and no slot named by two (R33, R88). -/
def Obligations.StepsKeepEngagementsWithTheirVisits : Prop :=
  ∀ s t : State, s.worksAgree → step s = .next t → t.engagementsAgree

/-- Every step keeps each reserved slot empty and the destination of exactly one queued relocation, each record
relocation-pending exactly while one relocation is its own, and each relocation ISSUED exactly while its MOVE visit is
unended (R110, R114). -/
def Obligations.StepsKeepReservationsWithTheirRelocations : Prop :=
  ∀ s t : State, s.worksAgree → step s = .next t → t.relocationsAgree

/-- Every step keeps the Candidate List to live records that are neither claimed nor held, MISPLACED included (R22,
R68), and the seen record of every discrepancy entry live (R18, R133). -/
def Obligations.StepsKeepCandidatesUnclaimedAndUnheld : Prop :=
  ∀ s t : State, s.worksAgree → step s = .next t → t.candidatesFree ∧ t.seenRecordsLive

/-- Every step keeps the orders of the window legal and their numbers distinct: each order with one to eight visits
numbered 1 upward, all in its aisle, of one kind of work; a MOVE order with exactly one visit; and at most one visit
of an order STARTED (R80, R81). -/
def Obligations.StepsKeepTheOrderWindowLegal : Prop :=
  ∀ s t : State, s.worksAgree → step s = .next t → t.ordersLegal

/-! ## Supply, starts and the crystal -/

/-- POWER_UP and RESET_N_RELEASE make a cold start while the backup-loss flag is set and a warm start while it is
clear, and the straps select the address (R178, R196, R197, R198). RESTART_DELAY_EXPIRY makes a warm start after a
RESTART, with the straps as they were last told, log 2; it is stated with the flag clear, because R196 gives no start
of a RESTART otherwise and the model's is log 27 (R199). -/
def Obligations.StartsFollowTheBackupLossFlag : Prop :=
  (∀ (s : State) (a b : Bool), s.clock.backupLoss = true →
     (s.supply.resetLow = false → ∃ t, exec (.powerUp a b) s = .next t ∧ ColdStarted t ∧ t.pending = s.pending ∧
       t.port.registryAddress = 0x2A + 4 * a.toNat + 2 * b.toNat ∧ t.operating = true) ∧
     (s.supply.resetLow = true → s.supply.mainPower = true → ∃ t, exec (.resetNRelease a b) s = .next t ∧
       ColdStarted t ∧ t.pending = s.pending ∧ t.port.registryAddress = 0x2A + 4 * a.toNat + 2 * b.toNat ∧
       t.operating = true)) ∧
  (∀ (s : State) (a b : Bool), s.tablesCanonical = true → s.clock.backupLoss = false →
     (s.supply.resetLow = false → ∃ t, exec (.powerUp a b) s = .next t ∧ WarmStarted s t ∧ t.pending = s.pending ∧
       t.port.registryAddress = 0x2A + 4 * a.toNat + 2 * b.toNat ∧ t.operating = true) ∧
     (s.supply.resetLow = true → s.supply.mainPower = true → ∃ t, exec (.resetNRelease a b) s = .next t ∧
       WarmStarted s t ∧ t.pending = s.pending ∧ t.port.registryAddress = 0x2A + 4 * a.toNat + 2 * b.toNat ∧
       t.operating = true) ∧
     (s.operating = true → s.port.restart ≠ none → ∃ t, exec .restartDelayExpiry s = .next t ∧ WarmStarted s t ∧
       t.supply = s.supply ∧ t.pending = s.pending ∧
       t.port.registryAddress = 0x2A + 4 * s.supply.addr1.toNat + 2 * s.supply.addr0.toNat))

/-- RESET_N_ASSERT holds the part in start, MAIN_POWER_LOSS stops it, BACKUP_SUPPLY_LOSS sets the flag alone, and
CLOCK_MINUTE_TICK advances the minute count, which rolls to 0 (R195, R196). A part that has no main power or is held
in start acknowledges no address and starts no bus transaction: every command but those of the supply, the reset pin
and the crystal leaves it as it is (R196). That the losses of supply leave all else as it was, and that the clock
ticks in every supply state, is the model's choice, log 24; that a command given to a part that does not work has no
effect is its reading, log 7. -/
def Obligations.SupplyEventsAndTheUnpoweredPart : Prop :=
  (∀ s : State,
     (∃ t, exec .resetNAssert s = .next t ∧ t = { s with supply := t.supply } ∧
       t.supply = { s.supply with resetLow := true } ∧ t.operating = false ∧
       t.attnAsserted = false ∧ t.workAsserted = false ∧ t.alarmAsserted = false) ∧
     (∃ t, exec .mainPowerLoss s = .next t ∧ t = { s with supply := t.supply } ∧
       t.supply = { s.supply with mainPower := false } ∧ t.operating = false ∧
       t.attnAsserted = false ∧ t.workAsserted = false ∧ t.alarmAsserted = false) ∧
     exec .backupSupplyLoss s = .next { s with clock := { s.clock with backupLoss := true } } ∧
     (∃ t, exec .clockMinuteTick s = .next t ∧ t = { s with clock := t.clock } ∧
       t.clock = { s.clock with minutes := t.clock.minutes, second := 0 } ∧
       t.clock.minutes = if s.clock.minutes = 4294967295 then 0 else (s.clock.minutes + 1) % 4294967296)) ∧
  (∀ (s : State) (c : Instr), s.operating = false → ofSupply c = false → exec c s = .next s)

/-! ## The Bus Port -/

/-- A refused request leaves all state as it was, apart from the reply (00_scope 4.6, R182). A handle is stale when
its index is free or its generation is not the index's; every request that carries a stale handle is refused
STALE_HANDLE with no other effect (R3). -/
def Obligations.RefusedRequestsChangeNothing : Prop :=
  (∀ (s : State) (c : Instr) (p : PortId), requestPort c = some p → s.free p = true →
     ∃ t r, s.Replies c p t r ∧ (r.status.isRefusal = true → t = s)) ∧
  (∀ (s : State) (c : Instr) (h : Nat),
     (s.named? h = none ↔ s.record? (h % 4096) = none ∨ s.generation (h % 4096) ≠ h / 4096) ∧
     (s.free .registry = true → requestHandle c = some h → s.named? h = none →
       s.Replies c .registry s ⟨.staleHandle, []⟩))

/-- The frame of every well-formed request is complete, passes the judgement of its port, and is read as that request:
no bit of a field is dropped (R180, R182, R187, R188). CENSUS_RACK of rack 0 is CENSUS_RACK(NONE). The numbering of
names and the widths that Table 10-3 leaves open are log 14 and 15. -/
def Obligations.RequestFramesReadBack : Prop :=
  ∀ (i : Instr) (p : PortId) (f : List Byte), i.wf = true → i ≠ .censusRack 0 → requestPort i = some p →
    requestFrame i = some f →
    byteSum f = 0#8 ∧ 3 ≤ f.length ∧ f.length ≤ 127 ∧ completeFrame? f = some f ∧
    judgeFrame p f = .inr (.command i)

/-- WRITE_TRANSACTION: a part that stays off the bus, another address, and a port in PROCESSING acknowledge nothing
(R158, R178, R181). Otherwise the address byte and the bytes up to the count the length byte calls for are
acknowledged, up to the 127th where it exceeds 124 (R180); an incomplete frame is dropped and a waiting reply stays; a
complete frame discards that reply, which a RESTART can then no longer have collected (R199), and one that is refused
has its reply placed at once, while any other takes the request slot (R181, R182). While a port is PROCESSING one
request, no other is taken there; the owner takes the one in the slot, with the effect of the command at a free port
(R181): that a request row stands for this taking is the model's choice, log 3, that a transaction is served while one
of the part's own has begun is log 44, and the count of acknowledged bytes is its own field, log 33. -/
def Obligations.WritesReachTheRequestSlot : Prop :=
  (∀ (s : State) (a : Nat) (bytes : List Byte), s.operating = true →
     (s.poller.lossRole = .offBus ∨ s.portAt? a = none →
       exec (.writeTransaction a bytes) s = .next { s with port := { s.port with acked := 0 } }) ∧
     (∀ p, s.poller.lossRole ≠ .offBus → s.portAt? a = some p →
       ((s.portState p).isProcessing = true →
         exec (.writeTransaction a bytes) s = .next { s with port := { s.port with acked := 0 } }) ∧
       (∀ u, (s.portState p).isProcessing = false →
         u = { s with port := { s.port with acked := 1 + ackedBytes bytes } } →
         (completeFrame? bytes = none → exec (.writeTransaction a bytes) s = .next u) ∧
         (∀ f v, completeFrame? bytes = some f →
           v = (if p = .registry ∧ s.port.restart = some true
             then { u with port := { u.port with restart := some false } } else u) →
           (∀ st, judgeFrame p f = .inl st →
             exec (.writeTransaction a bytes) s = .next (v.setPort p (.ready ⟨st, []⟩))) ∧
           (∀ r, judgeFrame p f = .inr r →
             exec (.writeTransaction a bytes) s = .next (v.setPort p (.processing r))))))) ∧
  (∀ bytes : List Byte,
     (bytes.length < 2 → ackedBytes bytes = bytes.length ∧ completeFrame? bytes = none) ∧
     (∀ kind len rest, bytes = kind :: len :: rest →
       (len.toNat ≤ 124 → ackedBytes bytes = min bytes.length (len.toNat + 3)) ∧
       (124 < len.toNat → ackedBytes bytes = min bytes.length 127 ∧ completeFrame? bytes = some bytes) ∧
       (len.toNat ≤ 124 → len.toNat + 3 ≤ bytes.length →
         completeFrame? bytes = some (bytes.take (len.toNat + 3))) ∧
       (len.toNat ≤ 124 → bytes.length < len.toNat + 3 → completeFrame? bytes = none))) ∧
  (∀ (s : State) (c : Instr) (r : Request) (p : PortId), requestPort c = some p → s.operating = true →
     s.portState p = .processing r →
     (r ≠ .command c → exec c s = .next s) ∧
     (r = .command c → (∀ x, s.port.held = some x → x.port ≠ p) → (s.setPort p .idle).free p = true →
       exec c s = exec c (s.setPort p .idle)))

/-- The tests of R182 in their order, on a complete frame: its length byte, its sum, its kind, its address and its
payload length; a frame that passes them carries a request. A payload that no row of the command table spells (an
AMEND whose selector is above 6 or does not fit its value's length, a VISIT_END with none of the five outcomes, a
RESOLVE with none of the three choices, a READ_DISCREPANCY of neither form) takes the slot too, and its owner refuses
it with the status of its rule, before all else STALE_HANDLE or UNKNOWN_ORDER, when the owners take what no row spells
(R3, R12, R95, R137, R138, R181): the model's reading, log 4; RESOLVE's choices and VISIT_END's outcomes are numbered
by log 15. -/
def Obligations.FramesAreJudgedInOrder : Prop :=
  (∀ (p : PortId) (kind len : Byte) (rest : List Byte),
     (124 < len.toNat → judgeFrame p (kind :: len :: rest) = .inl .badFrame) ∧
     (len.toNat ≤ 124 → byteSum (kind :: len :: rest) ≠ 0#8 →
       judgeFrame p (kind :: len :: rest) = .inl .badFrame) ∧
     (len.toNat ≤ 124 → byteSum (kind :: len :: rest) = 0#8 → kindForm kind.toNat = none →
       judgeFrame p (kind :: len :: rest) = .inl .badKind) ∧
     (∀ home lengths, len.toNat ≤ 124 → byteSum (kind :: len :: rest) = 0#8 →
       kindForm kind.toNat = some (home, lengths) → home ≠ p →
       judgeFrame p (kind :: len :: rest) = .inl .badKind) ∧
     (∀ lengths, len.toNat ≤ 124 → byteSum (kind :: len :: rest) = 0#8 →
       kindForm kind.toNat = some (p, lengths) →
       (lengths.contains len.toNat = false → judgeFrame p (kind :: len :: rest) = .inl .badFrame) ∧
       (lengths.contains len.toNat = true →
         judgeFrame p (kind :: len :: rest) = .inr (parseRequest kind.toNat (rest.take len.toNat))))) ∧
  (∀ l : List Byte,
     (3 ≤ l.length → (∀ e ∈ [(0, 4), (1, 5), (2, 8), (3, 8), (4, 5), (5, 5), (6, 6)],
         e ≠ ((l.getD 2 0#8).toNat, l.length)) → parseRequest 0x06 l = .badAmend (field l 0 2)) ∧
     (l.length = 12 → 4 < (l.getD 2 0#8).toNat → parseRequest 0x43 l = .badOutcome (l.getD 0 0#8).toNat) ∧
     (l.length = 4 → 2 < (l.getD 3 0#8).toNat → parseRequest 0x20 l = .badForm) ∧
     (l.length = 2 → l.getD 0 0#8 ≠ 0xFF#8 → parseRequest 0x1F l = .badForm)) ∧
  (∀ (s : State) (h n : Nat),
     s.malformedStatus? (.badAmend h) = some (if s.named? h = none then .staleHandle else .badField) ∧
     s.malformedStatus? (.badOutcome n) = some (if s.order? n = none then .unknownOrder else .badField) ∧
     s.malformedStatus? .badForm = some .badField ∧ ∀ c, s.malformedStatus? (.command c) = none) ∧
  (∀ (s : State) (p : PortId),
     s.ownersTake = (if s.operating = true then (s.takeMalformed .registry).takeMalformed .turner else s) ∧
     ((s.portState p).isProcessing = false → s.takeMalformed p = s) ∧
     (∀ c, s.portState p = .processing (.command c) → s.takeMalformed p = s) ∧
     (∀ x st, s.portState p = .processing x → s.malformedStatus? x = some st →
       (∀ y, s.port.held = some y → y.port ≠ p) → s.takeMalformed p = s.setPort p (.ready ⟨st, []⟩)))

/-- REPLY_READ and CLOCK_HOLD_TIMEOUT answer by the port state: NO_REQUEST where no reply stands; the reply where one
does, collected once its check byte is clocked in; a held read in PROCESSING, and PENDING when the hold ends; the
bytes beyond a frame are FFh (R183). A reply that its owner places while a read is held for it goes out to that read
at once, and is collected, or stays READY where the read ends before its check byte (R183). Another address, and a
part that stays off the bus, answer nothing (R158, R178). That a read is one event with its number of bytes is the
model's choice, log 11; it carries the levels of the straps, log 2; that it is served while a transaction of the
part's own has begun is log 44; the bytes sent and acknowledged are its own fields, log 33. -/
def Obligations.ReadsAreAnsweredByThePortState : Prop :=
  (∀ (s u : State) (a : Nat) (k : Reader), s.operating = true →
     u = { s with supply := { s.supply with addr1 := k.addr1, addr0 := k.addr0 } } →
     (s.poller.lossRole = .offBus ∨ s.portAt? a = none →
       exec (.replyRead a k) s = .next { u with port := { s.port with acked := 0 } }) ∧
     (∀ p, s.poller.lossRole ≠ .offBus → s.portAt? a = some p →
       (s.portState p = .idle ∨ s.portState p = .receiving none → exec (.replyRead a k) s = .next { u with
         port := { s.port with acked := 1, sent := clockedBytes [0x04#8, 0x00#8, 0xFC#8] k.clocked } }) ∧
       (∀ r, s.portState p = .ready r ∨ s.portState p = .receiving (some r) →
         (r.frame.length ≤ k.clocked → ¬(p = .registry ∧ s.port.restart = some true) →
           exec (.replyRead a k) s = .next (State.setPort { u with
             port := { s.port with acked := 1, sent := clockedBytes r.frame k.clocked } } p .idle)) ∧
         (k.clocked < r.frame.length → exec (.replyRead a k) s = .next (State.setPort { u with
             port := { s.port with acked := 1, sent := r.frame.take k.clocked } } p (.ready r)))) ∧
       (∀ x, s.portState p = .processing x → ∃ t, exec (.replyRead a k) s = .next t ∧
         t = { u with port := { s.port with acked := 1, held := some ⟨p, k.clocked⟩ } } ∧
         exec .clockHoldTimeout t = .next { u with port := { s.port with
           acked := 1, held := none, sent := clockedBytes [0x03#8, 0x00#8, 0xFD#8] k.clocked } }))) ∧
  (∀ (s u t : State) (c : Instr) (p : PortId) (n : Nat) (r : Reply), requestPort c = some p → s.operating = true →
     s.portState p = .processing (.command c) → s.port.held = some ⟨p, n⟩ →
     u = State.setPort { s with port := { s.port with held := none } } p .idle → u.free p = true →
     u.Replies c p t r → ¬(p = .registry ∧ t.port.restart = some true) →
     (r.frame.length ≤ n → exec c s = .next
       (State.setPort { t with port := { t.port with sent := clockedBytes r.frame n } } p .idle)) ∧
     (n < r.frame.length → exec c s = .next
       (State.setPort { t with port := { t.port with sent := r.frame.take n } } p (.ready r))))

/-- RESTART answers OK and asks for a start that has not begun (R199). A reader who clocks in at least a frame's
length collects it, and one who collects a RESTART's reply begins the warm start, with the straps at the levels the
read carries (R178, R183, R199): the reader is the model's, log 2 and 11, and the start is stated with the backup-loss
flag clear (log 27). A request whose frame comes while that reply stands uncollected discards it and is handled like
any other (R181, R199). -/
def Obligations.RestartIsAnsweredThenStarts : Prop :=
  (∀ s : State, s.free .registry = true →
     s.Replies .restart .registry { s with port := { s.port with restart := some true } } ⟨.ok, []⟩) ∧
  (∀ (s : State) (a : Nat) (k : Reader) (r : Reply), s.tablesCanonical = true → s.operating = true →
     s.clock.backupLoss = false → s.poller.lossRole ≠ .offBus → s.portAt? a = some .registry →
     s.port.registry = .ready r → s.port.restart = some true → r.frame.length ≤ k.clocked →
     ∃ t, exec (.replyRead a k) s = .next t ∧ WarmStarted s t ∧
       t.supply = { s.supply with addr1 := k.addr1, addr0 := k.addr0 } ∧
       t.port.registryAddress = 0x2A + 4 * k.addr1.toNat + 2 * k.addr0.toNat) ∧
  (∀ (s : State) (c : Instr), requestPort c = some .registry → s.operating = true →
     s.poller.lossRole ≠ .offBus → s.port.registry.isProcessing = false → s.port.restart = some true →
     exec c s = exec c { s with port := { s.port with restart := some false } })

/-! ## Attention, status, clock -/

/-- A latch adds its kind to the pending set, in the mask or not, and a kind already pending adds nothing (R192).
TAKE_ATTENTION answers the pending set and the mask and empties the pending set; SET_MASK replaces the mask (R193);
ATTN follows the two sets (R192). -/
def Obligations.AttentionIsLatchedTakenAndMasked : Prop :=
  (∀ (s : State) (k : AttentionKind),
     s.latch k = { s with attention := ⟨s.attention.pending ||| k.bit, s.attention.mask⟩ } ∧
     (s.attention.pending &&& k.bit = k.bit → s.latch k = s)) ∧
  (∀ (s : State) (m : Byte), s.free .registry = true →
     s.Replies .takeAttention .registry { s with attention := ⟨0x00#8, s.attention.mask⟩ }
       ⟨.ok, [s.attention.pending, s.attention.mask]⟩ ∧
     s.Replies (.setMask m) .registry { s with attention := ⟨s.attention.pending, m⟩ } ⟨.ok, [m]⟩ ∧
     (s.attnAsserted = true ↔ s.attention.pending &&& s.attention.mask ≠ 0x00#8))

/-- READ_STATUS answers 11 bytes and changes nothing (R194); that all of them come from the one state is the model's
choice, log 25. SET_CLOCK writes the minute count, restarts the minute and sets the flag; READ_CLOCK reports the clock
and changes nothing (R195); the byte of each of its two flags is the model's choice, log 15. -/
def Obligations.StatusAndClockAreReadAndSet : Prop :=
  (∀ s : State, s.free .registry = true → ∃ b, b.length = 11 ∧ s.Replies .readStatus .registry s ⟨.ok, b⟩ ∧
     b.getD 0 0#8 = (if s.clock.lastStart = .cold then 0#8 else 1#8) ∧
     b.getD 1 0#8 = BitVec.ofNat 8 (s.clock.isSet.toNat + 2 * (decide (s.dispatcher.state = .running)).toNat +
       4 * s.poller.overran.toNat) ∧
     b.getD 2 0#8 = BitVec.ofNat 8 (s.liveCount / 256) ∧ b.getD 3 0#8 = BitVec.ofNat 8 s.liveCount ∧
     b.getD 4 0#8 = BitVec.ofNat 8 (s.registry.overdueCount / 256) ∧
     b.getD 5 0#8 = BitVec.ofNat 8 s.registry.overdueCount ∧
     b.getD 6 0#8 = BitVec.ofNat 8 s.dispatcher.window.length ∧
     b.getD 7 0#8 = BitVec.ofNat 8 s.candidates.length ∧ b.getD 8 0#8 = BitVec.ofNat 8 s.relocations.length ∧
     b.getD 9 0#8 = BitVec.ofNat 8 s.discrepancies.length ∧
     b.getD 10 0#8 = BitVec.ofNat 8 s.poller.state.number) ∧
  (∀ (s : State) (m : Nat), s.free .registry = true →
     s.Replies (.setClock m) .registry
       { s with clock := { s.clock with minutes := m, second := 0, isSet := true } } ⟨.ok, []⟩ ∧
     s.Replies .readClock .registry s
       ⟨.ok, be 4 s.clock.minutes ++ [BitVec.ofNat 8 s.clock.isSet.toNat, BitVec.ofNat 8 s.clock.backupLoss.toNat]⟩)

/-! ## Wheel records -/

/-- The refusals of ADMIT, in the order of R6. An ADMIT that passes the tests of R6 creates the record R7 describes at
the lowest free index, at the generation that index holds; it joins the tag index and, when located, occupies its
slot. -/
def Obligations.AdmitIsRefusedInOrderOrCreates : Prop :=
  (∀ (s : State) (tag cls day w p : Nat) (l : LSlot) (lt lb : TimeField) (vt vb : TimeValue),
     s.free .registry = true → timeValue? lt = some vt → timeValue? lb = some vb →
     (s.clock.isSet = false → s.Replies (.admitWheel tag cls day l w lt lb) .registry s ⟨.clockUnset, []⟩) ∧
     (s.clock.isSet = true → tag = 0 ∨ tag = 2 ^ 48 - 1 ∨ 31 < cls ∨ vt = .never →
       s.Replies (.admitWheel tag cls day l w lt lb) .registry s ⟨.badField, []⟩) ∧
     (s.clock.isSet = true → tag ≠ 0 → tag ≠ 2 ^ 48 - 1 → cls ≤ 31 → vt ≠ .never →
       (s.registry.tagIndex.read? tag ≠ none →
         s.Replies (.admitWheel tag cls day l w lt lb) .registry s ⟨.duplicate, []⟩) ∧
       (s.registry.tagIndex.read? tag = none → s.lowestFree? = none →
         s.Replies (.admitWheel tag cls day l w lt lb) .registry s ⟨.full, []⟩) ∧
       (s.registry.tagIndex.read? tag = none → s.lowestFree? ≠ none → l.rack ≠ 0 →
         (s.physical? l = none →
           s.Replies (.admitWheel tag cls day l w lt lb) .registry s ⟨.slotUnusable, []⟩) ∧
         (s.physical? l = some p → (s.slot p).condition = .blocked →
           s.Replies (.admitWheel tag cls day l w lt lb) .registry s ⟨.slotUnusable, []⟩) ∧
         (s.physical? l = some p → (s.slot p).condition = .opened →
           (s.slot p).occupant ≠ none ∨ (s.slot p).reserved = true →
           s.Replies (.admitWheel tag cls day l w lt lb) .registry s ⟨.slotTaken, []⟩) ∧
         (s.physical? l = some p → (s.slot p).condition = .opened → (s.slot p).occupant = none →
           (s.slot p).reserved = false → (s.slot p).engaged = true →
           s.Replies (.admitWheel tag cls day l w lt lb) .registry s ⟨.busy, []⟩)))) ∧
  (∀ (s : State) (tag cls day w : Nat) (l : LSlot) (lt lb : TimeField) (vt vb : TimeValue),
     s.free .registry = true → s.registry.records.ordered = true →
     timeValue? lt = some vt → timeValue? lb = some vb → s.admitRefusal tag cls l (some vt) (some vb) = none →
     ∃ i t, i < 4096 ∧ s.record? i = none ∧ (∀ j, j < i → s.record? j ≠ none) ∧
       s.Replies (.admitWheel tag cls day l w lt lb) .registry t ⟨.ok, be 2 (s.generation i * 4096 + i)⟩ ∧
       t = { s with registry := t.registry, shelf := t.shelf } ∧
       t.record? i = some {
         tag := tag, cls := cls, makeDay := day, location := if l.rack = 0 then none else s.physical? l
         lastTurn := match vt with
           | .minute m => min s.clock.minutes m
           | _ => s.clock.minutes
         lastBrush := match vb with
           | .minute m => some (min s.clock.minutes m)
           | _ => none
         turnCount := 0, brushCount := 0
         intakeWeight := if w = 65535 then none else some w, lastWeight := if w = 65535 then none else some w
         admittedAt := s.clock.minutes, claim := .none, holds := ⟨false, false, false, false⟩
         overdue := false, relocationPending := false } ∧
       (∀ j, j ≠ i → t.record? j = s.record? j) ∧ t.registry.generations = s.registry.generations ∧
       t.registry.overdueCount = s.registry.overdueCount ∧
       (∀ g, t.registry.tagIndex.read? g = if g = tag then some i else s.registry.tagIndex.read? g) ∧
       (l.rack = 0 → t.shelf = s.shelf) ∧
       (∀ p, l.rack ≠ 0 → s.physical? l = some p → SlotBecomes s t p { s.slot p with occupant := some i }))

/-- LOOKUP_TAG, LOOKUP_SLOT and READ_RECORD answer from the registry and change nothing (R8, R9, R10). NEXT_RECORD
answers the live record with the lowest index above the one given, or the lowest of all for START, and changes
nothing; any other index is BAD_FIELD (R11). -/
def Obligations.RecordsAreFoundAndRead : Prop :=
  (∀ s : State, s.free .registry = true →
     (∀ tag i, tag ≠ 0 → tag ≠ 2 ^ 48 - 1 → s.registry.tagIndex.read? tag = some i →
       s.Replies (.lookupTag tag) .registry s ⟨.ok, be 2 (s.handleOf i)⟩) ∧
     (∀ tag, tag ≠ 0 → tag ≠ 2 ^ 48 - 1 → s.registry.tagIndex.read? tag = none →
       s.Replies (.lookupTag tag) .registry s ⟨.notFound, []⟩) ∧
     s.Replies (.lookupTag 0) .registry s ⟨.badField, []⟩ ∧
     s.Replies (.lookupTag (2 ^ 48 - 1)) .registry s ⟨.badField, []⟩ ∧
     (∀ l, l.rack = 0 → s.Replies (.lookupSlot l) .registry s ⟨.badField, []⟩) ∧
     (∀ l, l.rack ≠ 0 → s.physical? l = none → s.Replies (.lookupSlot l) .registry s ⟨.slotUnusable, []⟩) ∧
     (∀ l p, l.rack ≠ 0 → s.physical? l = some p → (s.slot p).occupant = none →
       s.Replies (.lookupSlot l) .registry s ⟨.notFound, []⟩) ∧
     (∀ l p i, l.rack ≠ 0 → s.physical? l = some p → (s.slot p).occupant = some i →
       s.Replies (.lookupSlot l) .registry s ⟨.ok, be 2 (s.handleOf i)⟩) ∧
     (∀ h i r, s.named? h = some i → s.record? i = some r →
       s.Replies (.readRecord h) .registry s ⟨.ok, s.encodeRecord i r⟩)) ∧
  (∀ (s : State) (after bound : Nat), s.free .registry = true → s.registry.records.ordered = true →
     (after < 4096 ∧ bound = after + 1) ∨ (after = 65535 ∧ bound = 0) →
     (∀ i r, bound ≤ i → s.record? i = some r → (∀ j, bound ≤ j → j < i → s.record? j = none) →
       s.Replies (.nextRecord after) .registry s ⟨.ok, s.encodeRecord i r⟩) ∧
     ((∀ j, bound ≤ j → s.record? j = none) → s.Replies (.nextRecord after) .registry s ⟨.notFound, []⟩)) ∧
  (∀ (s : State) (after : Nat), s.free .registry = true → 4096 ≤ after → after ≠ 65535 →
     s.Replies (.nextRecord after) .registry s ⟨.badField, []⟩)

/-- Each AMEND of a field other than the location writes that field of the one record and nothing else (R12 to R14).
The refusals of the two time forms of AMEND: an unsupplied time, and NEVER for last_turn, are BAD_FIELD; while the
clock is unset both forms are CLOCK_UNSET (R12, R13). That NEVER for last_turn is CLOCK_UNSET there and not BAD_FIELD
is the model's choice, log 36, and that a time field of no form of Table 10-3 is BAD_FIELD is its reading, log 16. -/
def Obligations.AmendWritesItsField : Prop :=
  (∀ (s : State) (h i : Nat) (r : WheelRecord), s.free .registry = true → s.named? h = some i →
     s.record? i = some r →
     (∀ c, c ≤ 31 → ∃ t, s.Replies (.amendClass h c) .registry t ⟨.ok, []⟩ ∧ t = { s with registry := t.registry } ∧
       RecordBecomes s t i { r with cls := c }) ∧
     (∀ c, 31 < c → s.Replies (.amendClass h c) .registry s ⟨.badField, []⟩) ∧
     (∀ d, ∃ t, s.Replies (.amendMakeDay h d) .registry t ⟨.ok, []⟩ ∧ t = { s with registry := t.registry } ∧
       RecordBecomes s t i { r with makeDay := d }) ∧
     (∀ m, s.clock.isSet = true → ∃ t, s.Replies (.amendLastTurn h ⟨1, m⟩) .registry t ⟨.ok, []⟩ ∧
       t = { s with registry := t.registry } ∧ RecordBecomes s t i { r with lastTurn := min s.clock.minutes m }) ∧
     (∀ m, s.clock.isSet = true → ∃ t, s.Replies (.amendLastBrush h ⟨1, m⟩) .registry t ⟨.ok, []⟩ ∧
       t = { s with registry := t.registry } ∧
       RecordBecomes s t i { r with lastBrush := some (min s.clock.minutes m) }) ∧
     (s.clock.isSet = true → ∃ t, s.Replies (.amendLastBrush h ⟨2, 0⟩) .registry t ⟨.ok, []⟩ ∧
       t = { s with registry := t.registry } ∧ RecordBecomes s t i { r with lastBrush := none }) ∧
     (∀ w, ∃ t, s.Replies (.amendIntakeWeight h w) .registry t ⟨.ok, []⟩ ∧ t = { s with registry := t.registry } ∧
       RecordBecomes s t i { r with intakeWeight := if w = 65535 then none else some w }) ∧
     (∀ w, ∃ t, s.Replies (.amendLastWeight h w) .registry t ⟨.ok, []⟩ ∧ t = { s with registry := t.registry } ∧
       RecordBecomes s t i { r with lastWeight := if w = 65535 then none else some w })) ∧
  (∀ (s : State) (h i : Nat) (r : WheelRecord), s.free .registry = true → s.named? h = some i →
     s.record? i = some r →
     s.Replies (.amendLastTurn h ⟨0, 0⟩) .registry s ⟨.badField, []⟩ ∧
     s.Replies (.amendLastBrush h ⟨0, 0⟩) .registry s ⟨.badField, []⟩ ∧
     (s.clock.isSet = true → s.Replies (.amendLastTurn h ⟨2, 0⟩) .registry s ⟨.badField, []⟩) ∧
     (∀ m, s.clock.isSet = false → s.Replies (.amendLastTurn h ⟨1, m⟩) .registry s ⟨.clockUnset, []⟩ ∧
       s.Replies (.amendLastBrush h ⟨1, m⟩) .registry s ⟨.clockUnset, []⟩) ∧
     (s.clock.isSet = false → s.Replies (.amendLastTurn h ⟨2, 0⟩) .registry s ⟨.clockUnset, []⟩ ∧
       s.Replies (.amendLastBrush h ⟨2, 0⟩) .registry s ⟨.clockUnset, []⟩) ∧
     (∀ f m, 2 < f ∨ (f ≠ 1 ∧ m ≠ 0) → s.Replies (.amendLastTurn h ⟨f, m⟩) .registry s ⟨.badField, []⟩ ∧
       s.Replies (.amendLastBrush h ⟨f, m⟩) .registry s ⟨.badField, []⟩))

/-- AMEND location moves the wheel in one step: the old slot empties, the new one takes it, MISSING and BLOCKED_SLOT
go, and so does its Candidate List entry; a claimed wheel is refused CLAIMED (R15, R72). That the entry goes at once,
as R15 and R72 say and R66's table does not, is the model's choice, log 37. -/
def Obligations.AmendLocationMovesTheWheel : Prop :=
  ∀ (s : State) (h i : Nat) (r : WheelRecord) (l : LSlot), s.free .registry = true → s.named? h = some i →
    s.record? i = some r →
    (r.claim ≠ .none → s.Replies (.amendLocation h l) .registry s ⟨.claimed, []⟩) ∧
    (∀ st, r.claim = .none → s.placeRefusal (some i) l = some st →
      s.Replies (.amendLocation h l) .registry s ⟨st, []⟩) ∧
    (r.claim = .none → s.placeRefusal (some i) l = none → ∃ t,
      s.Replies (.amendLocation h l) .registry t ⟨.ok, []⟩ ∧
      t = { s with registry := t.registry, shelf := t.shelf, candidates := t.candidates } ∧
      RecordBecomes s t i { r with
        location := if l.rack = 0 then none else s.physical? l
        holds := { r.holds with missing := false, blockedSlot := false } } ∧
      t.candidates = s.candidates.filter (fun c => decide (handleIndex c.handle ≠ i)) ∧
      t.shelf = { s.shelf with slots := t.shelf.slots } ∧
      ∀ p, t.slot p = { s.slot p with
        occupant := if l.rack ≠ 0 ∧ s.physical? l = some p then some i
          else if r.location = some p then none else (s.slot p).occupant })

/-- HOLD adds HOST, taking the Candidate List entry of a record that did not hold it; RELEASE removes the one stored
reason it names and changes only the record (R16, R17, R21). -/
def Obligations.HoldAndReleaseChangeTheHoldSet : Prop :=
  ∀ (s : State) (h i : Nat) (r : WheelRecord), s.free .registry = true → s.named? h = some i →
    s.record? i = some r →
    (∃ t, s.Replies (.hold h) .registry t ⟨.ok, []⟩ ∧
      t = { s with registry := t.registry, candidates := t.candidates } ∧
      RecordBecomes s t i { r with holds := { r.holds with host := true } } ∧
      t.candidates = if r.holds.host = true then s.candidates
        else s.candidates.filter fun c => decide (handleIndex c.handle ≠ i)) ∧
    (∀ n v, (n, v) ∈ [(0, { r.holds with host := false }), (1, { r.holds with missing := false }),
        (3, { r.holds with blockedSlot := false }), (4, { r.holds with unconfirmed := false })] →
      ∃ t, s.Replies (.release h n) .registry t ⟨.ok, []⟩ ∧ t = { s with registry := t.registry } ∧
        RecordBecomes s t i { r with holds := v }) ∧
    (∀ n, n = 2 ∨ 4 < n → s.Replies (.release h n) .registry s ⟨.badField, []⟩)

/-- RETIRE removes the wheel and every trace of it in one step, and its index joins the free set at the next
generation; a claimed wheel is refused CLAIMED (R18, R2, R3, R4, R23). ERASE_REGISTRY is refused BUSY unless dispatch
is PAUSED with an empty window; accepted, it clears what R19 lists and keeps each slot's condition and count, and
everything else. -/
def Obligations.RetireAndEraseRemoveEveryTrace : Prop :=
  (∀ (s : State) (h i : Nat) (r : WheelRecord), s.free .registry = true → s.named? h = some i →
     s.record? i = some r →
     (r.claim ≠ .none → s.Replies (.retire h) .registry s ⟨.claimed, []⟩) ∧
     (r.claim = .none → ∃ t, s.Replies (.retire h) .registry t ⟨.ok, []⟩ ∧
       t = { s with
         registry := t.registry, shelf := t.shelf, candidates := t.candidates, relocations := t.relocations
         discrepancies := t.discrepancies } ∧
       t.record? i = none ∧ (∀ j, j ≠ i → t.record? j = s.record? j) ∧
       t.generation i = (s.generation i + 1) % 16 ∧ (∀ j, j ≠ i → t.generation j = s.generation j) ∧
       (∀ g, t.registry.tagIndex.read? g = if g = r.tag then none else s.registry.tagIndex.read? g) ∧
       t.registry.overdueCount = (if r.overdue = true then s.registry.overdueCount - 1
         else s.registry.overdueCount) ∧
       t.candidates = s.candidates.filter (fun c => decide (handleIndex c.handle ≠ i)) ∧
       t.relocations = s.relocations.filter (fun q => decide (q.wheel ≠ h)) ∧
       t.shelf = { s.shelf with slots := t.shelf.slots } ∧
       (∀ p, t.slot p = { s.slot p with
         occupant := if r.location = some p then none else (s.slot p).occupant
         reserved := if (s.relocationOf? h).map (fun q => q.dest) = some p then false else (s.slot p).reserved }) ∧
       ∀ k, t.discrepancies.read? k = (s.discrepancies.read? k).map fun e => { e with
         expected := if e.expected = some h then none else e.expected
         seenRecord := if e.seenRecord = some h then none else e.seenRecord
         holds := e.holds.filter fun q => decide (q.1 ≠ h) })) ∧
  (∀ s : State, s.free .registry = true → s.tablesCanonical = true →
     (s.dispatcher.state = .running ∨ s.dispatcher.window ≠ [] →
       s.Replies .eraseRegistry .registry s ⟨.busy, []⟩) ∧
     (s.dispatcher.state = .paused → s.dispatcher.window = [] → ∃ t,
       s.Replies .eraseRegistry .registry t ⟨.ok, []⟩ ∧
       t = { s with
         registry := ⟨[], [], [], 0⟩, shelf := { s.shelf with slots := t.shelf.slots }
         candidates := [], relocations := [], discrepancies := [] } ∧
       ∀ p, t.slot p = ⟨none, false, false, (s.slot p).condition, (s.slot p).count, false, none⟩))

/-! ## Racks, slots and windows -/

/-- MAP_RACK is refused by the order of R27. An accepted MAP_RACK stores the rack record and answers it; each slot
that leaves the geometry is OPEN with count 0 and never verified, and every other slot keeps its record (R27, R28,
R29). -/
def Obligations.MapRackStoresTheRack : Prop :=
  (∀ (s : State) (p n c l : Nat), s.free .registry = true →
     (15 < p ∨ (n = 0 ∨ 16 < n) ∧ n ≠ 255 ∨ c = 0 ∨ 32 < c ∨ l = 0 ∨ 8 < l →
       s.Replies (.mapRack p n c l) .registry s ⟨.badField, []⟩) ∧
     (p ≤ 15 → 1 ≤ n → n ≤ 16 → 1 ≤ c → c ≤ 32 → 1 ≤ l → l ≤ 8 →
       (∃ q, q ≤ 15 ∧ q ≠ p ∧ (s.rackRecord q).logical = some n) →
       s.Replies (.mapRack p n c l) .registry s ⟨.duplicate, []⟩) ∧
     (∀ m q, p ≤ 15 → logicalField? n = some m → 1 ≤ c → c ≤ 32 → 1 ≤ l → l ≤ 8 →
       s.numberTaken p m = false → slotRack q = p → s.onMap q = true →
       (⟨m, c, l⟩ : RackRecord).maps q = false → s.slotInUse q = true →
       s.Replies (.mapRack p n c l) .registry s ⟨.rackInUse, []⟩)) ∧
  (∀ (s : State) (p n c l : Nat) (m : Option Nat), s.free .registry = true → s.tablesCanonical = true →
     p ≤ 15 → logicalField? n = some m → 1 ≤ c → c ≤ 32 → 1 ≤ l → l ≤ 8 → s.numberTaken p m = false →
     (∀ q, slotRack q = p → s.onMap q = true → (⟨m, c, l⟩ : RackRecord).maps q = false → s.slotInUse q = false) →
     ∃ t, s.Replies (.mapRack p n c l) .registry t ⟨.ok, encodeRack ⟨m, c, l⟩⟩ ∧
       t = { s with shelf := t.shelf } ∧ t.shelf.windows = s.shelf.windows ∧ t.rackRecord p = ⟨m, c, l⟩ ∧
       (∀ q, q ≠ p → t.rackRecord q = s.rackRecord q) ∧
       ∀ q, t.slot q = if slotRack q = p ∧ (s.rackRecord p).holds q = true ∧ ¬(slotColumn q < c ∧ slotLevel q < l)
         then { s.slot q with condition := .opened, count := 0, verified := none } else s.slot q)

/-- UNBLOCK returns a slot to service: OPEN, count 0, its occupant free of BLOCKED_SLOT (R36). READ_RACK, READ_SLOT
and READ_WINDOW report what is stored and change nothing (R30, R38, R39). The translation of a logical slot and its
reverse: what a logical slot names is named by it, and a slot on the map is found again by its logical name (R26). The
layout of the READ_SLOT reply is the model's where Table 10-3 leaves it open: the width of the count, log 14, and the
numbers of names, log 15. -/
def Obligations.SlotsAreReportedAndReturned : Prop :=
  (∀ (s : State) (l : LSlot) (p : Nat), s.free .registry = true →
     (l.rack = 0 → s.Replies (.unblock l) .registry s ⟨.badField, []⟩) ∧
     (l.rack ≠ 0 → s.physical? l = none → s.Replies (.unblock l) .registry s ⟨.slotUnusable, []⟩) ∧
     (l.rack ≠ 0 → s.physical? l = some p → ∃ t, s.Replies (.unblock l) .registry t ⟨.ok, []⟩ ∧
       t = { s with registry := t.registry, shelf := t.shelf } ∧
       SlotBecomes s t p { s.slot p with condition := .opened, count := 0 } ∧
       ((s.slot p).occupant = none → t.registry = s.registry) ∧
       ∀ i r, (s.slot p).occupant = some i → s.record? i = some r →
         RecordBecomes s t i { r with holds := { r.holds with blockedSlot := false } })) ∧
  (∀ s : State, s.free .registry = true →
     (∀ p, p ≤ 15 → s.Replies (.readRack p) .registry s ⟨.ok,
       be 1 ((s.rackRecord p).logical.getD 255) ++ be 1 (s.rackRecord p).columns ++ be 1 (s.rackRecord p).levels⟩) ∧
     (∀ p, 15 < p → s.Replies (.readRack p) .registry s ⟨.badField, []⟩) ∧
     (∀ l, l.rack = 0 → s.Replies (.readSlot l) .registry s ⟨.badField, []⟩) ∧
     (∀ l, l.rack ≠ 0 → s.physical? l = none → s.Replies (.readSlot l) .registry s ⟨.slotUnusable, []⟩) ∧
     (∀ l p, l.rack ≠ 0 → s.physical? l = some p → s.Replies (.readSlot l) .registry s ⟨.ok, s.encodeSlot p⟩) ∧
     (∀ n, n ≤ 11 → s.Replies (.readWindow n) .registry s ⟨.ok, encodeWindow (s.window n)⟩) ∧
     (∀ n, 11 < n → s.Replies (.readWindow n) .registry s ⟨.badField, []⟩)) ∧
  (∀ (s : State) (l : LSlot) (p : Nat), s.settingsLegal → s.physical? l = some p →
     s.logical p = l ∧ s.onMap p = true ∧ p < 4096 ∧ slotColumn p = l.column ∧ slotLevel p = l.level) ∧
  (∀ (s : State) (p : Nat), s.settingsLegal → p < 4096 → s.onMap p = true →
     s.physical? (s.logical p) = some p ∧
     (s.rackRecord (slotRack p)).logical = some (s.logical p).rack ∧ 1 ≤ (s.logical p).rack ∧ (s.logical p).rack ≤ 16)

/-- SET_WINDOW replaces one window, or is refused BAD_FIELD with no change (R39). The zone of a slot is that of the
lowest-numbered window that covers it, and 0 where none does (R40). -/
def Obligations.WindowsGiveTheZone : Prop :=
  (∀ (s : State) (n z fa la lo hi : Nat), s.free .registry = true →
     (11 < n ∨ (z = 0 ∨ 8 < z) ∧ z ≠ 255 ∨ 7 < fa ∨ 7 < la ∨ 7 < lo ∨ 7 < hi ∨ la < fa ∨ hi < lo →
       s.Replies (.setWindow n z fa la lo hi) .registry s ⟨.badField, []⟩) ∧
     (n ≤ 11 → (1 ≤ z ∧ z ≤ 8) ∨ z = 255 → fa ≤ la → la ≤ 7 → lo ≤ hi → hi ≤ 7 → ∃ t,
       s.Replies (.setWindow n z fa la lo hi) .registry t ⟨.ok, []⟩ ∧
       t = { s with shelf := { s.shelf with windows := t.shelf.windows } } ∧
       t.window n = ⟨if z = 255 then none else some z, fa, la, lo, hi⟩ ∧
       ∀ m, m ≠ n → t.window m = s.window m)) ∧
  (∀ (s : State) (p : Nat),
     ((∀ n, n < 12 → (s.window n).covers p = false) → s.zoneOf p = 0) ∧
     (∀ n z, n < 12 → (s.window n).zone = some z → (s.window n).firstAisle ≤ slotAisle p →
       slotAisle p ≤ (s.window n).lastAisle → (s.window n).lowLevel ≤ slotLevel p →
       slotLevel p ≤ (s.window n).highLevel → (∀ m, m < n → (s.window m).covers p = false) → s.zoneOf p = z))

/-! ## Classes, the interval arithmetic, the sweep -/

/-- SET_CLASS stores each field brought into its range and answers CLAMPED when some field was changed; READ_CLASS
reports the record; a class above 31 is BAD_FIELD (R44, R45). -/
def Obligations.ClassesAreStoredInRange : Prop :=
  ∀ (s : State) (k bt bb st g ca tl th bh w lt lb ol : Nat), s.free .registry = true →
    (31 < k → s.Replies (.setClass k bt bb st g ca tl th bh w lt lb ol) .registry s ⟨.badField, []⟩ ∧
      s.Replies (.readClass k) .registry s ⟨.badField, []⟩) ∧
    (k ≤ 31 → s.Replies (.readClass k) .registry s ⟨.ok, encodeClass (s.classRecord k)⟩ ∧
      ∃ t c, t = { s with classes := t.classes } ∧ t.classRecord k = c ∧
        (∀ j, j ≠ k → t.classRecord j = s.classRecord j) ∧
        s.Replies (.setClass k bt bb st g ca tl th bh w lt lb ol) .registry t
          ⟨if c = ⟨bt, bb, st, g, ca, tl, th, bh, w, lt, lb, ol⟩ then .ok else .clamped, encodeClass c⟩ ∧
        c = ⟨max 60 (min 43200 bt), if bb = 0 then 0 else max 60 (min 43200 bb), min 255 st, min 100 g,
          max 100 (min 400 ca), max 25 (min 400 tl), max 25 (min 400 th), max 25 (min 400 bh), max 1 (min 8 w),
          min 1440 lt, min 1440 lb, max 60 (min 10080 ol)⟩)

/-- Stages 1 to 5: the age and its multiplier, the band multipliers, and both intervals, formed exactly and brought
into 60..20160 (R49 to R52). Stages 6, 7 and 9: each lateness is now less the due time, clamped, a later time than now
read as now and a brush never done measured from admission; the score is the weight times the largest lateness of the
action set, with the bonus in the turner aisle (R47, R48, R53, R54, R56). Every lateness lies within ten thousand and
eighty minutes of now, and every score of a class and a bonus in range lies within −80640..84735 (R54, R56). -/
def Obligations.IntervalsAndScoresStayInRange : Prop :=
  (∀ (c : ClassRecord) (now day age : Nat) (band : Option Band),
     ageDays now day = (if day ≤ now / 1440 then now / 1440 - day else 0) ∧
     c.ageMultiplier age = (if c.stretch = 0 then 100 else min c.ageCap (100 + c.growth * (age / c.stretch))) ∧
     c.turnMultiplier band =
       (if band = some .low then c.turnLow else if band = some .high then c.turnHigh else 100) ∧
     c.turnInterval age band =
       max 60 (min 20160 (c.turnBase * c.ageMultiplier age * c.turnMultiplier band / 10000)) ∧
     c.brushInterval band = (if c.brushBase = 0 then none else some (max 60 (min 20160
       (c.brushBase * (if band = some .high then c.brushHigh else 100) / 100)))) ∧
     60 ≤ c.turnInterval age band ∧ c.turnInterval age band ≤ 20160) ∧
  (∀ (s : State) (r : WheelRecord) (p : Nat) (c : ClassRecord) (band : Option Band), c = s.classRecord r.cls →
     band = (if s.zoneOf p = 0 then none else some (s.zone (s.zoneOf p)).band) →
     s.turnLateness r p = max (-10080) (min 10080 ((s.clock.minutes : Int) - (min s.clock.minutes r.lastTurn +
       c.turnInterval (ageDays s.clock.minutes r.makeDay) band : Nat))) ∧
     (c.brushBase = 0 → s.brushLateness r p = none) ∧
     (∀ n, c.brushInterval band = some n → s.brushLateness r p = some (max (-10080) (min 10080
       ((s.clock.minutes : Int) - (min s.clock.minutes (r.lastBrush.getD r.admittedAt) + n : Nat))))) ∧
     (∀ (a : ActionSet) (l b : Int), b = (if slotAisle p = s.sweep.turnerAisle
         then (s.dispatcher.settings.aisleBonus : Int) else 0) →
       (a.turn = true → a.brush = false → s.score r p a = c.weight * s.turnLateness r p + b) ∧
       (s.brushLateness r p = some l →
         (a.turn = false → a.brush = true → s.score r p a = c.weight * l + b) ∧
         (a.turn = true → a.brush = true → s.score r p a = c.weight * max (s.turnLateness r p) l + b)))) ∧
  (∀ (s : State) (r : WheelRecord) (p : Nat) (a : ActionSet), s.settingsLegal →
     -10080 ≤ s.turnLateness r p ∧ s.turnLateness r p ≤ 10080 ∧
     (∀ x, s.brushLateness r p = some x → -10080 ≤ x ∧ x ≤ 10080) ∧
     -80640 ≤ s.score r p a ∧ s.score r p a ≤ 84735)

/-- Stage 8: turn and brush eligibility; brush suspension removes BRUSH and leaves TURN as it is (R55). The
computation gives no result while the clock is unset; an unlocated record is neither candidate nor overdue; a
candidate is dispatchable and wants something now: TURN, BRUSH or both (R47, R55, R57, R58). -/
def Obligations.TheComputationAnswersOneResult : Prop :=
  (∀ (s : State) (r : WheelRecord) (p : Nat),
     ((s.eligible r p).turn = true ↔ -((s.classRecord r.cls).turnLead : Int) ≤ s.turnLateness r p) ∧
     ((s.eligible r p).brush = true ↔ (s.classRecord r.cls).brushBase ≠ 0 ∧
       (∃ x, s.brushLateness r p = some x ∧ -((s.classRecord r.cls).brushLead : Int) ≤ x) ∧
       s.brushSuspended (s.zoneOf p) = false) ∧
     (s.eligible r p).scan = false ∧ (s.eligible r p).move = false) ∧
  (∀ (s : State) (i : Nat) (r : WheelRecord),
     (s.clock.isSet = false → s.interval i r = none) ∧
     (s.clock.isSet = true → r.location = none → s.interval i r = some ⟨none, false⟩) ∧
     (∀ p v, s.clock.isSet = true → r.location = some p → s.interval i r = some v →
       (∀ c, v.candidate = some c → s.dispatchable i r = true ∧ c.handle = s.handleOf i ∧
         c.actions = s.eligible r p ∧ (c.actions.turn = true ∨ c.actions.brush = true) ∧
         c.aisle = slotAisle p ∧ c.score = s.score r p c.actions) ∧
       (v.candidate = none → s.dispatchable i r = false ∨
         ((s.eligible r p).turn = false ∧ (s.eligible r p).brush = false)) ∧
       (v.overdue = true ↔ (s.held i r = true ∨ s.usable p = true) ∧
         ((s.classRecord r.cls).overdueLimit : Int) < s.turnLateness r p)))

/-- SWEEP_STEP visits the sixteen indexes from the cursor upward in order and advances the cursor by 16, after 4080 to
0 (R61); it writes the registry, the Candidate List, the attention set and the cursor alone (R62). While the clock-set
flag is clear a sweep step only advances the cursor (R64). A sweep visit writes a later time down to now, sets the
overdue flag from the computation with its count and latch, and offers or withdraws the record (R62, R63, R65). That
the sixteen visits are one event is the model's choice, log 42. -/
def Obligations.ASweepStepJudgesSixteenIndexes : Prop :=
  (∀ s : State, s.operating = true → ∃ t, exec .sweepStep s = .next t ∧
     t = { s with registry := t.registry, candidates := t.candidates, attention := t.attention, sweep := t.sweep } ∧
     t.sweep = ⟨(s.sweep.cursor + 16) % 4096, s.sweep.turnerAisle⟩ ∧
     t = { (List.range 16).foldl (fun u k => u.sweepVisit (s.sweep.cursor + k)) s with sweep := t.sweep } ∧
     (∀ i, s.record? i = none → t.record? i = none) ∧
     (∀ i, i < s.sweep.cursor ∨ s.sweep.cursor + 16 ≤ i → t.record? i = s.record? i) ∧
     (∀ i r, s.record? i = some r → ∃ r', t.record? i = some r' ∧
       r' = { r with lastTurn := r'.lastTurn, lastBrush := r'.lastBrush, overdue := r'.overdue })) ∧
  (∀ s : State, s.operating = true → s.clock.isSet = false →
     exec .sweepStep s = .next { s with sweep := ⟨(s.sweep.cursor + 16) % 4096, s.sweep.turnerAisle⟩ }) ∧
  (∀ (s : State) (i : Nat) (r r1 : WheelRecord), s.clock.isSet = true → s.record? i = some r →
     r1 = { r with
       lastTurn := min s.clock.minutes r.lastTurn, lastBrush := r.lastBrush.map fun m => min s.clock.minutes m } →
     ∃ v t, (s.setRecord i r1).interval i r1 = some v ∧ s.sweepVisit i = t ∧
       t = { s with registry := t.registry, candidates := t.candidates, attention := t.attention } ∧
       t.record? i = some { r1 with overdue := v.overdue } ∧ (∀ j, j ≠ i → t.record? j = s.record? j) ∧
       (r.overdue = false → v.overdue = true → t.registry.overdueCount = s.registry.overdueCount + 1 ∧
         t.attention.pending = s.attention.pending ||| 0x08#8) ∧
       (r.overdue = true → v.overdue = false → t.registry.overdueCount = s.registry.overdueCount - 1 ∧
         t.attention = s.attention) ∧
       (r.overdue = v.overdue → t.registry.overdueCount = s.registry.overdueCount ∧ t.attention = s.attention) ∧
       (v.candidate = none → t.candidates = s.candidates.filter fun c => decide (handleIndex c.handle ≠ i)) ∧
       (∀ c, v.candidate = some c → t.candidates = offerTo s.candidates c))

/-- The rank: a higher score, or an equal score and a lower index, ranks ahead (R68). An offer: a record with an entry
has it replaced and moved; a list of fewer than 32 takes a new entry; a full list takes one that ranks ahead of its
last entry, which is dropped, and discards any other (R69, R70). READ_CANDIDATES reports the count, the first rank and
up to fifteen entries from it, and changes nothing; a first outside 1..32 is BAD_FIELD (R75). -/
def Obligations.TheCandidateListKeepsTheBest : Prop :=
  (∀ a b : Candidate, a.ranksAhead b = true ↔
     b.score < a.score ∨ (a.score = b.score ∧ handleIndex a.handle < handleIndex b.handle)) ∧
  (∀ (l : List Candidate) (c : Candidate), l.Pairwise (fun a b => a.ranksAhead b = true) →
     (l.map fun d => handleIndex d.handle).Nodup → l.length ≤ 32 →
     ((∀ d ∈ l, handleIndex d.handle ≠ handleIndex c.handle) → l.length < 32 → offerTo l c = rankInsert c l) ∧
     ((∀ d ∈ l, handleIndex d.handle ≠ handleIndex c.handle) → l.length = 32 →
       (∀ e, l.getLast? = some e → c.ranksAhead e = true → offerTo l c = rankInsert c l.dropLast) ∧
       (∀ e, l.getLast? = some e → c.ranksAhead e = false → offerTo l c = l)) ∧
     ((∃ d ∈ l, handleIndex d.handle = handleIndex c.handle) →
       (offerTo l c).length = l.length ∧ c ∈ offerTo l c ∧
       ∀ d, handleIndex d.handle ≠ handleIndex c.handle → (d ∈ offerTo l c ↔ d ∈ l)) ∧
     (offerTo l c).length ≤ 32 ∧ (offerTo l c).Pairwise (fun a b => a.ranksAhead b = true)) ∧
  (∀ (s : State) (n : Nat), s.free .registry = true →
     (n = 0 ∨ 32 < n → s.Replies (.readCandidates n) .registry s ⟨.badField, []⟩) ∧
     (1 ≤ n → n ≤ 32 → s.Replies (.readCandidates n) .registry s ⟨.ok,
       be 1 s.candidates.length ++ be 1 n ++ ((s.candidates.drop (n - 1)).take 15).flatMap encodeCandidate⟩))

/-! ## Dispatch -/

/-- PAUSE and RESUME set the dispatch state and touch nothing else (R78). SET_DISPATCH stores the five settings, each
number brought into its range; READ_DISPATCH reports them (R79). -/
def Obligations.DispatchIsSetAndRead : Prop :=
  (∀ s : State, s.free .registry = true →
     s.Replies .pause .registry { s with dispatcher := { s.dispatcher with state := .paused } } ⟨.ok, []⟩ ∧
     s.Replies .resume .registry { s with dispatcher := { s.dispatcher with state := .running } } ⟨.ok, []⟩) ∧
  (∀ (s : State) (a o v b c : Nat), s.free .registry = true →
     s.Replies .readDispatch .registry s ⟨.ok, encodeDispatch s.dispatcher.settings⟩ ∧
     (1 < c → s.Replies (.setDispatch a o v b c) .registry s ⟨.badField, []⟩) ∧
     (c ≤ 1 → ∃ d : DispatchSettings,
       d = ⟨max 5 (min 120 a), max 30 (min 3600 o), max 10 (min 600 v), min 4095 b, decide (c = 1)⟩ ∧
       s.Replies (.setDispatch a o v b c) .registry { s with dispatcher := { s.dispatcher with settings := d } }
         ⟨if d = ⟨a, o, v, b, decide (c = 1)⟩ then .ok else .clamped, encodeDispatch d⟩))

/-- FETCH writes its aisle as the turner aisle first; while PAUSED it answers NO_WORK with reason PAUSED, and with
four orders outstanding WINDOW_FULL; a bad aisle is BAD_FIELD and changes nothing (R84, R67). A FETCH that may build
issues the order of the first source that yields work: the MOVE of the first relocation that is ready; else, the clock
being set, the batch of the best candidates, the failed entries pruned; else, with the census on, the SCAN batch,
whether the clock is set or not; and a FETCH that finds nothing says why (R73, R84 to R88, R120). What an issue does
is the next statement's. WORK is asserted exactly while the part works, dispatch is RUNNING, the window has room, and
some source holds work (R89). -/
def Obligations.FetchTakesTheFirstSourceThatYields : Prop :=
  (∀ (s : State) (a : Nat), s.free .turner = true →
     (8 ≤ a → a ≠ 15 → s.Replies (.fetch a) .turner s ⟨.badField, []⟩) ∧
     (a < 8 ∨ a = 15 → s.dispatcher.state = .paused →
       s.Replies (.fetch a) .turner { s with sweep := ⟨s.sweep.cursor, a⟩ } ⟨.noWork, [0x01#8]⟩) ∧
     (a < 8 ∨ a = 15 → s.dispatcher.state = .running → 4 ≤ s.dispatcher.window.length →
       s.Replies (.fetch a) .turner { s with sweep := ⟨s.sweep.cursor, a⟩ } ⟨.windowFull, []⟩)) ∧
  (∀ (s u w : State) (a : Nat), s.free .turner = true → a < 8 ∨ a = 15 → s.dispatcher.state = .running →
     s.dispatcher.window.length < 4 → u = { s with sweep := ⟨s.sweep.cursor, a⟩ } →
     w = (if s.clock.isSet = true
       then { u with candidates := u.candidates.filter fun c => (u.recompute c).isSome } else u) →
     (∀ v x, u.relocationWork? = some v → x = u.issue .move (slotAisle v.source) [v] →
       s.Replies (.fetch a) .turner x.1 x.2) ∧
     (∀ v rest x, u.relocationWork? = none → s.clock.isSet = true → u.candidateWork = v :: rest →
       x = w.issue .batch (slotAisle v.source) (v :: rest) → s.Replies (.fetch a) .turner x.1 x.2) ∧
     (u.relocationWork? = none → (s.clock.isSet = true → u.candidateWork = []) →
       (s.dispatcher.settings.census = true →
         (∀ p rest c x, w.censusTake = (p :: rest, c) →
           x = State.issue { w with census := c } .batch (slotAisle p) (sortVisits ((p :: rest).map w.scanVisit)) →
           s.Replies (.fetch a) .turner x.1 x.2) ∧
         (∀ c, w.censusTake = ([], c) → s.Replies (.fetch a) .turner { w with census := c }
           ⟨.noWork, [if s.clock.isSet = true then 0x03#8 else 0x02#8]⟩)) ∧
       (s.dispatcher.settings.census = false → s.Replies (.fetch a) .turner w
         ⟨.noWork, [if s.clock.isSet = true then 0x03#8 else 0x02#8]⟩))) ∧
  (∀ s : State, s.workAsserted = true ↔
     s.operating = true ∧ s.dispatcher.state = .running ∧ s.dispatcher.window.length < 4 ∧
     (s.candidates ≠ [] ∨ s.relocationWork?.isSome = true ∨
       (s.dispatcher.settings.census = true ∧ s.censusTried = true)))

/-- What the three sources yield. The relocation step: the MOVE visit of the first relocation in queue order that is
QUEUED, with its wheel dispatchable and its destination usable and not engaged (R85, R113). The candidate step: each
entry recomputed, the survivors in rank order of their recomputed scores, the lead and up to seven more of its aisle,
each with its record's location, tag and recomputed actions (R86). The census step: each slot with its occupant and
that occupant's tag, or 0, and no wheel (R87). The visits of a BATCH order stand in physical order of their sources
and are numbered 1 upward (R86, R87). -/
def Obligations.TheSourcesYieldTheirVisits : Prop :=
  (∀ s : State,
     (∀ q i r p, s.relocations.find? s.relocationReady = some q → s.named? q.wheel = some i → s.record? i = some r →
       r.location = some p → s.relocationWork? =
         some ⟨1, p, ActionSet.moveOnly, some q.wheel, some q.wheel, r.tag, some q.dest, none, .waiting⟩) ∧
     (s.relocations.find? s.relocationReady = none → s.relocationWork? = none) ∧
     (∀ q, s.relocationReady q = true ↔ q.state = .queued ∧ s.usable q.dest = true ∧ (s.slot q.dest).engaged = false ∧
       ∃ i r, s.named? q.wheel = some i ∧ s.record? i = some r ∧ s.dispatchable i r = true) ∧
     (∀ i r, s.dispatchable i r = true ↔ r.claim = .none ∧ s.held i r = false ∧
       ∃ p, r.location = some p ∧ s.usable p = true ∧ (s.slot p).engaged = false)) ∧
  (∀ s : State,
     (∀ c r v, s.record? (handleIndex c.handle) = some r → s.interval (handleIndex c.handle) r = some v →
       s.recompute c = v.candidate) ∧
     s.survivors.Perm (s.candidates.filterMap s.recompute) ∧
     (s.candidatesRanked → s.withinCapacity = true → s.survivors.Pairwise fun a b => a.ranksAhead b = true) ∧
     (s.survivors = [] → s.candidateWork = []) ∧
     (∀ lead rest, s.survivors = lead :: rest →
       s.chosen = (lead :: rest.filter fun c => decide (c.aisle = lead.aisle)).take 8) ∧
     s.candidateWork = sortVisits (s.chosen.filterMap s.workVisit?) ∧
     (∀ c r p, s.record? (handleIndex c.handle) = some r → r.location = some p → s.workVisit? c =
       some ⟨0, p, c.actions, some c.handle, some c.handle, r.tag, none, none, .waiting⟩)) ∧
  (∀ (s : State) (p : Nat),
     ((s.slot p).occupant = none →
       s.scanVisit p = ⟨0, p, ActionSet.scanOnly, none, none, 0, none, none, .waiting⟩) ∧
     (∀ i r, (s.slot p).occupant = some i → s.record? i = some r →
       s.scanVisit p = ⟨0, p, ActionSet.scanOnly, none, some (s.handleOf i), r.tag, none, none, .waiting⟩)) ∧
  (∀ l : List Visit, (sortVisits l).Pairwise (fun a b => a.source ≤ b.source) ∧
     (sortVisits l).map (fun v => v.number) = (List.range l.length).map (fun n => n + 1) ∧
     (sortVisits l).length = l.length ∧
     ∀ v, v ∈ sortVisits l → ∃ u ∈ l, v = { u with number := v.number })

/-- An issued order takes the next number, enters the window ISSUED with the accept allowance, and the reply is its
order frame; its wheels are CLAIMED and leave the Candidate List, its slots are engaged, and a MOVE's relocation is
ISSUED; no other record, slot, entry or relocation changes (R82, R83, R88, R114). A new order number lies in 1..255
and belongs to no outstanding order, and where the next number is free it is the one taken (R82). -/
def Obligations.IssuingAnOrderClaimsAndEngages : Prop :=
  (∀ (s t : State) (k : OrderKind) (a : Nat) (vs : List Visit) (o : Order), t = (s.issue k a vs).1 →
     o = (⟨s.nextNumber, k, a, .issued, s.dispatcher.settings.acceptAllowance, vs⟩ : Order) →
     (s.issue k a vs).2 = ⟨.ok, encodeOrder o⟩ ∧
     t = { s with
       registry := t.registry, shelf := t.shelf, candidates := t.candidates, relocations := t.relocations
       dispatcher := { s.dispatcher with window := s.dispatcher.window ++ [o], lastNumber := o.number } } ∧
     (∀ i, t.record? i = if (∃ v ∈ vs, v.wheel.map handleIndex = some i)
       then (s.record? i).map fun r => { r with claim := .claimed } else s.record? i) ∧
     t.registry = { s.registry with records := t.registry.records } ∧
     (∀ p, t.slot p = if (∃ v ∈ vs, p ∈ v.slots) then { s.slot p with engaged := true } else s.slot p) ∧
     t.shelf = { s.shelf with slots := t.shelf.slots } ∧
     t.candidates = (s.candidates.filter fun c =>
       decide (∀ v ∈ vs, v.wheel.map handleIndex ≠ some (handleIndex c.handle))) ∧
     t.relocations = (s.relocations.map fun q =>
       if ∃ v ∈ vs, v.wheel = some q.wheel ∧ v.dest ≠ none then { q with state := .issued } else q)) ∧
  (∀ s : State, s.dispatcher.window.length ≤ 4 →
     1 ≤ s.nextNumber ∧ s.nextNumber ≤ 255 ∧ (∀ o ∈ s.dispatcher.window, o.number ≠ s.nextNumber) ∧
     (∀ m, m = (if 255 ≤ s.dispatcher.lastNumber then 1 else s.dispatcher.lastNumber + 1) →
       (∀ o ∈ s.dispatcher.window, o.number ≠ m) → s.nextNumber = m))

/-- ACCEPT of an ISSUED order makes it ACCEPTED and loads its timer from the order allowance; of any other it is
SEQUENCE; of no order it is UNKNOWN_ORDER (R90). READ_ORDER and READ_ORDERS report the window in physical and in
logical terms and change nothing (R106, R107, R190); ALL lists the orders in the order of their issue, the model's
choice, log 20. -/
def Obligations.OrdersAreAcceptedAndRead : Prop :=
  (∀ (s : State) (n : Nat), s.free .turner = true →
     (s.order? n = none → s.Replies (.accept n) .turner s ⟨.unknownOrder, []⟩) ∧
     (∀ o, s.order? n = some o → o.state ≠ .issued → s.Replies (.accept n) .turner s ⟨.sequence, []⟩) ∧
     (∀ o, s.order? n = some o → o.state = .issued → ∃ t, s.Replies (.accept n) .turner t ⟨.ok, []⟩ ∧
       t = { s with dispatcher := { s.dispatcher with window := t.dispatcher.window } } ∧
       t.order? n = some { o with state := .accepted, timer := s.dispatcher.settings.orderAllowance } ∧
       ∀ m, m ≠ n → t.order? m = s.order? m)) ∧
  (∀ (s : State) (n : Nat), n ≠ 0 →
     (s.free .turner = true →
       (s.Replies (.readOrder 0) .turner s ⟨.ok,
         be 1 s.dispatcher.window.length ++ s.dispatcher.window.flatMap encodeOrderBrief⟩) ∧
       (∀ o, s.order? n = some o → s.Replies (.readOrder n) .turner s ⟨.ok,
         encodeOrder o ++ o.visits.flatMap encodeVisitState⟩) ∧
       (s.order? n = none → s.Replies (.readOrder n) .turner s ⟨.unknownOrder, []⟩)) ∧
     (s.free .registry = true →
       (s.Replies (.readOrders 0) .registry s ⟨.ok,
         be 1 s.dispatcher.window.length ++ s.dispatcher.window.flatMap encodeOrderSummary⟩) ∧
       (∀ o, s.order? n = some o → s.Replies (.readOrders n) .registry s ⟨.ok, s.encodeOrderFull o⟩) ∧
       (s.order? n = none → s.Replies (.readOrders n) .registry s ⟨.unknownOrder, []⟩)))

/-- What the end of an unended visit gives back: its wheel's claim returns to NONE, its slots are released, and a
MOVE's relocation returns to QUEUED (R94, R98, R99, R101, R102, R104, R114). CLOSE_ORDER ends every unended visit of
its order, a STARTED one besides with UNCONFIRMED, which is latched; an ended one is not changed; the order leaves the
window (R98, R102). An order expires when its timer stands at zero, with the effects of CLOSE_ORDER and ORDER_EXPIRED
latched; one whose timer has been loaded since does not (R83, R103). Of no order, CLOSE_ORDER is UNKNOWN_ORDER and
ORDER_EXPIRY has no effect (R102; log 6). -/
def Obligations.AClosedOrderEndsItsVisits : Prop :=
  (∀ (s t : State) (v : Visit), t = s.releaseVisit v →
     t = { s with registry := t.registry, shelf := t.shelf, relocations := t.relocations } ∧
     (∀ i, t.record? i = if v.wheel.map handleIndex = some i
       then (s.record? i).map fun r => { r with claim := .none } else s.record? i) ∧
     t.registry = { s.registry with records := t.registry.records } ∧
     (∀ p, t.slot p = if p ∈ v.slots then { s.slot p with engaged := false } else s.slot p) ∧
     t.shelf = { s.shelf with slots := t.shelf.slots } ∧
     t.relocations = (s.relocations.map fun q =>
       if v.wheel = some q.wheel ∧ v.dest ≠ none then { q with state := .queued } else q)) ∧
  (∀ (s : State) (v : Visit),
     (v.state = .waiting → s.closeVisit v = s.releaseVisit v) ∧
     (v.state.ended = true → s.closeVisit v = s) ∧
     (v.state = .started → v.wheel = none → s.closeVisit v = s.releaseVisit v) ∧
     (∀ h r t, v.state = .started → v.wheel = some h → s.record? (handleIndex h) = some r → t = s.closeVisit v →
       RecordBecomes s t (handleIndex h)
         { r with claim := .none, holds := { r.holds with unconfirmed := true } } ∧
       t.shelf = (s.releaseVisit v).shelf ∧ t.relocations = (s.releaseVisit v).relocations ∧
       t.attention = ⟨s.attention.pending ||| 0x80#8, s.attention.mask⟩)) ∧
  (∀ (s : State) (n : Nat) (o : Order), s.order? n = some o →
     (s.free .turner = true → s.Replies (.closeOrder n) .turner (s.closeOrder o) ⟨.ok, []⟩) ∧
     (s.operating = true → o.timer = 0 →
       exec (.orderExpiry n) s = .next ((s.closeOrder o).latch .orderExpired)) ∧
     (o.timer ≠ 0 → exec (.orderExpiry n) s = .next s) ∧
     (∃ t, t = s.closeOrder o ∧
       t = { s with
         registry := t.registry, shelf := t.shelf, relocations := t.relocations, candidates := t.candidates
         attention := t.attention, dispatcher := t.dispatcher } ∧
       t.dispatcher = { s.dispatcher with
         window := s.dispatcher.window.filter fun u => decide (u.number ≠ n) } ∧
       t.order? n = none ∧ t = (o.visits.foldl State.closeVisit s).dropOrder n)) ∧
  (∀ (s : State) (n : Nat), s.order? n = none →
     (s.free .turner = true → s.Replies (.closeOrder n) .turner s ⟨.unknownOrder, []⟩) ∧
     exec (.orderExpiry n) s = .next s)

/-- CANCEL_ORDERS removes each covered ISSUED order, ending its unended visits, makes each covered ACCEPTED one
CANCELLING, leaves the others, and answers both counts; a bad aisle is BAD_FIELD (R104). The second count takes in the
covered orders that were CANCELLING already: the model's choice, log 19; that each count takes one byte is presumed,
log 14. -/
def Obligations.CancelOrdersCoversAnAisle : Prop :=
  (∀ (s : State) (o : Order),
     s.withdrawVisits o = (o.visits.filter fun v => !v.state.ended).foldl State.releaseVisit s) ∧
  (∀ (s u : State) (a : Nat), s.free .registry = true →
     u = (s.dispatcher.window.filter fun o =>
       decide ((a = 255 ∨ o.aisle = a) ∧ o.state = .issued)).foldl State.withdrawVisits s →
     (8 ≤ a → a ≠ 255 → s.Replies (.cancelOrders a) .registry s ⟨.badField, []⟩) ∧
     (a < 8 ∨ a = 255 → s.Replies (.cancelOrders a) .registry
       { u with dispatcher := { s.dispatcher with
         window := (s.dispatcher.window.filter fun o =>
           decide (¬((a = 255 ∨ o.aisle = a) ∧ o.state = .issued))).map fun o =>
             if (a = 255 ∨ o.aisle = a) ∧ o.state = .accepted then { o with state := .cancelling } else o } }
       ⟨.ok, be 1 (s.dispatcher.window.filter fun o =>
           decide ((a = 255 ∨ o.aisle = a) ∧ o.state = .issued)).length ++
         be 1 (s.dispatcher.window.filter fun o =>
           decide ((a = 255 ∨ o.aisle = a) ∧ o.state ≠ .issued)).length⟩))

/-! ## Visits -/

/-- The refusals of VISIT_START, in the order of R91; none of them changes anything. On a CANCELLING order a
VISIT_START is answered CANCELLED and its visit withdrawn, the seen tag not compared: its wheel, its slots and a
MOVE's relocation are released as an ended visit's are (R91 test 7, R94, R105). The three checks of R92 on an ACCEPTED
order: a mismatch, a hold or an action set left empty stops the visit, which is withdrawn, its wheel, its slots and a
MOVE's relocation released (R92, R94). A visit that passes the three checks is answered PROCEED with its final action
set: it is STARTED, the wheel IN_HAND, the source count 0 and the timer loaded (R92, R93). -/
def Obligations.VisitStartIsRefusedCancelledOrChecked : Prop :=
  (∀ (s : State) (n v tag : Nat), s.free .turner = true →
     (s.order? n = none → s.Replies (.visitStart n v tag) .turner s ⟨.unknownOrder, []⟩) ∧
     (∀ o, s.order? n = some o →
       (o.visit? v = none ∨ tag = 2 ^ 48 - 1 → s.Replies (.visitStart n v tag) .turner s ⟨.badField, []⟩) ∧
       (∀ u, o.visit? v = some u → tag ≠ 2 ^ 48 - 1 →
         o.state = .issued ∨ u.state ≠ .waiting ∨ (∃ w ∈ o.visits, w.state = .started) ∨ u.actions.scan = true →
         s.Replies (.visitStart n v tag) .turner s ⟨.sequence, []⟩))) ∧
  (∀ (s : State) (n v tag : Nat) (o : Order) (u : Visit), s.free .turner = true → s.order? n = some o →
     o.visit? v = some u → startRefusal o (some u) tag = none → o.state = .cancelling →
     ∃ t, s.Replies (.visitStart n v tag) .turner t ⟨.cancelled, []⟩ ∧
       t = { s with
         registry := t.registry, shelf := t.shelf, relocations := t.relocations, dispatcher := t.dispatcher } ∧
       t.order? n = some { o with
         visits := o.visits.map fun w => if w.number = v then { w with state := .withdrawn } else w
         timer := s.dispatcher.settings.visitAllowance } ∧
       t.registry = (s.releaseVisit u).registry ∧ t.shelf = (s.releaseVisit u).shelf ∧
       t.relocations = (s.releaseVisit u).relocations) ∧
  (∀ (s s1 : State) (n v tag : Nat) (o : Order) (u : Visit) (ans : Comparison), s.free .turner = true →
     s.order? n = some o → o.visit? v = some u → startRefusal o (some u) tag = none → o.state = .accepted →
     s.compare u.source (.tag tag) = (s1, ans) →
     ans = .mismatch ∨ s1.wheelHeld u = true ∨ (s1.strikeBrush u).isEmpty = true →
     ∃ t, s.Replies (.visitStart n v tag) .turner t ⟨.stop, []⟩ ∧
       t = { s1 with
         registry := t.registry, shelf := t.shelf, relocations := t.relocations, dispatcher := t.dispatcher } ∧
       t.order? n = some { o with
         visits := o.visits.map fun w => if w.number = v then { w with state := .withdrawn } else w
         timer := s.dispatcher.settings.visitAllowance } ∧
       t.registry = (s1.releaseVisit u).registry ∧ t.shelf = (s1.releaseVisit u).shelf ∧
       t.relocations = (s1.releaseVisit u).relocations ∧
       (t.slot u.source).count = (s.slot u.source).count) ∧
  (∀ (s s1 : State) (n v tag : Nat) (o : Order) (u : Visit) (ans : Comparison) (a : ActionSet),
     s.free .turner = true → s.order? n = some o → o.visit? v = some u →
     startRefusal o (some u) tag = none → o.state = .accepted →
     s.compare u.source (.tag tag) = (s1, ans) → ans ≠ .mismatch → s1.wheelHeld u = false →
     a = { u.actions with brush := u.actions.brush && !s1.brushSuspended (s1.zoneOf u.source) } →
     a.isEmpty = false →
     ∃ t, s.Replies (.visitStart n v tag) .turner t ⟨.proceed, [BitVec.ofNat 8 a.number]⟩ ∧
       t = { s1 with registry := t.registry, shelf := t.shelf, dispatcher := t.dispatcher } ∧
       t.order? n = some { o with
         visits := o.visits.map fun w =>
           if w.number = v then { w with state := .started, proceeded := some a } else w
         timer := s.dispatcher.settings.visitAllowance } ∧
       SlotBecomes s1 t u.source { s1.slot u.source with count := 0 } ∧
       (∀ h r, u.wheel = some h → s1.record? (handleIndex h) = some r →
         RecordBecomes s1 t (handleIndex h) { r with claim := .inHand }))

/-- The refusals of VISIT_END by the tests of R95 in their order, for each of the five outcomes; none of them changes
anything. Every accepted VISIT_END has the effects of its outcome, then releases its wheel, its slots and a MOVE's
relocation, ends its visit DONE or SKIPPED, loads the timer from the visit allowance and answers OK (R95 to R101). A
field of actions with a bit above the fourth set is BAD_FIELD with the fields of test 2: the model's choice, log 17.
-/
def Obligations.EveryAcceptedVisitEndReleases : Prop :=
  (∀ (s : State) (n v a w tag : Nat) (e : VisitOutcome) (c : Instr), s.free .turner = true →
     (e, c) ∈ [(.done, .visitEndDone n v a w tag), (.aborted, .visitEndAborted n v a w tag),
       (.destUnreachable, .visitEndDestUnreachable n v a w tag), (.unreachable, .visitEndUnreachable n v a w tag),
       (.absent, .visitEndAbsent n v a w tag)] →
     (s.order? n = none → s.Replies c .turner s ⟨.unknownOrder, []⟩) ∧
     (∀ o, s.order? n = some o →
       (o.visit? v = none ∨ 16 ≤ a → s.Replies c .turner s ⟨.badField, []⟩) ∧
       (∀ u, o.visit? v = some u →
         (e = .done → u.actions.scan = true → tag = 2 ^ 48 - 1 → s.Replies c .turner s ⟨.badField, []⟩) ∧
         (a < 16 → ¬(e = .done ∧ u.actions.scan = true ∧ tag = 2 ^ 48 - 1) →
           (o.state = .issued → s.Replies c .turner s ⟨.sequence, []⟩) ∧
           (o.state ≠ .issued → ¬((u.state = .waiting ∧
               (e = .unreachable ∨ e = .absent ∨ (e = .done ∧ u.actions.scan = true))) ∨
             (u.state = .started ∧ (e = .done ∨ e = .aborted ∨ (e = .destUnreachable ∧ u.actions.move = true)))) →
             s.Replies c .turner s ⟨.sequence, []⟩) ∧
           (∀ x, o.state ≠ .issued → u.state = .started → e = .done → actionSet? a = some x →
             x.isEmpty = true ∨ x.within (u.proceeded.getD ActionSet.empty) = false →
             s.Replies c .turner s ⟨.badField, []⟩))))) ∧
  (∀ (s y z : State) (n v a w tag : Nat) (o : Order) (u : Visit) (e : VisitOutcome) (x : ActionSet) (c : Instr),
     s.free .turner = true → s.order? n = some o → o.visit? v = some u → endRefusal o (some u) e a tag = none →
     (e, c) ∈ [(.done, .visitEndDone n v a w tag), (.aborted, .visitEndAborted n v a w tag),
       (.destUnreachable, .visitEndDestUnreachable n v a w tag), (.unreachable, .visitEndUnreachable n v a w tag),
       (.absent, .visitEndAbsent n v a w tag)] →
     actionSet? a = some x →
     y = s.visitOutcome u e x (if w = 65535 then none else some w) tag → z = y.releaseVisit u →
     ∃ t, s.Replies c .turner t ⟨.ok, []⟩ ∧
       t = { z with dispatcher := { s.dispatcher with window := t.dispatcher.window } } ∧
       t.order? n = some { o with
         visits := o.visits.map fun q =>
           if q.number = v then { q with state := if e = .done then .done else .skipped } else q
         timer := s.dispatcher.settings.visitAllowance } ∧
       (∀ m, m ≠ n → t.order? m = s.order? m) ∧
       (∀ p ∈ u.slots, (t.slot p).engaged = false) ∧
       (∀ h r, u.wheel = some h → t.record? (handleIndex h) = some r → r.claim = .none) ∧
       t.clock = s.clock ∧ t.poller = s.poller ∧ t.zones = s.zones ∧ t.classes = s.classes ∧ t.sweep = s.sweep ∧
       t.census = s.census ∧ t.port = s.port) ∧
  (∀ (o : Order) (u : Visit) (e : VisitOutcome) (a tag : Nat), endRefusal o (some u) e a tag = none →
     actionSet? a ≠ none ∧ o.state ≠ .issued ∧ u.state.ended = false)

/-- DONE of a STARTED turn or brush: the times and counts of the actions done, a weight given, the overdue flag and
its count, and the claim; nothing else of the record, and no other record (R96). DONE of a STARTED MOVE: the source
empties, the wheel stands at the destination, whose count and reservation are cleared; the relocation leaves the
queue; BLOCKED_SLOT goes (R97). ABORTED of a STARTED visit: UNCONFIRMED joins the hold set and is latched, the
location stands, a MOVE's relocation returns to QUEUED, and nothing of the work is written (R98). -/
def Obligations.WorkAndMovesAreRecorded : Prop :=
  (∀ (s : State) (n v a w tag : Nat) (o : Order) (u : Visit) (h : Nat) (r : WheelRecord) (x : ActionSet),
     s.free .turner = true → s.order? n = some o → o.visit? v = some u →
     endRefusal o (some u) .done a tag = none → actionSet? a = some x → u.wheel = some h → u.dest = none →
     s.record? (handleIndex h) = some r →
     ∃ t r', s.Replies (.visitEndDone n v a w tag) .turner t ⟨.ok, []⟩ ∧
       t = { s with registry := t.registry, shelf := t.shelf, dispatcher := t.dispatcher } ∧
       t.record? (handleIndex h) = some r' ∧ (∀ j, j ≠ handleIndex h → t.record? j = s.record? j) ∧
       r' = { r with
         lastTurn := if x.turn = true then s.clock.minutes else r.lastTurn
         turnCount := if x.turn = true then min 65535 (r.turnCount + 1) else r.turnCount
         lastBrush := if x.brush = true then some s.clock.minutes else r.lastBrush
         brushCount := if x.brush = true then min 65535 (r.brushCount + 1) else r.brushCount
         lastWeight := if w = 65535 then r.lastWeight else some w
         intakeWeight := if w = 65535 ∨ r.intakeWeight ≠ none then r.intakeWeight else some w
         overdue := if x.turn = true then false else r.overdue
         claim := .none } ∧
       t.registry.overdueCount = (if x.turn = true ∧ r.overdue = true then s.registry.overdueCount - 1
         else s.registry.overdueCount)) ∧
  (∀ (s : State) (n v a w tag : Nat) (o : Order) (u : Visit) (h d : Nat) (r : WheelRecord) (q : Relocation),
     s.free .turner = true → s.order? n = some o → o.visit? v = some u →
     endRefusal o (some u) .done a tag = none → u.wheel = some h → u.dest = some d →
     s.record? (handleIndex h) = some r → r.location = some u.source → u.source ≠ d →
     s.relocationOf? h = some q → q.dest = d →
     ∃ t, s.Replies (.visitEndDone n v a w tag) .turner t ⟨.ok, []⟩ ∧
       t.record? (handleIndex h) = some { r with
         location := some d, claim := .none, relocationPending := false
         holds := { r.holds with blockedSlot := false }
         lastWeight := if w = 65535 then r.lastWeight else some w
         intakeWeight := if w = 65535 ∨ r.intakeWeight ≠ none then r.intakeWeight else some w } ∧
       t.slot u.source = { s.slot u.source with occupant := none, engaged := false } ∧
       t.slot d = { s.slot d with occupant := some (handleIndex h), reserved := false, engaged := false, count := 0 } ∧
       (∀ p, p ≠ u.source → p ≠ d → t.slot p = s.slot p) ∧
       (∀ j, j ≠ handleIndex h → t.record? j = s.record? j) ∧
       t.relocations = s.relocations.filter fun y => decide (y.wheel ≠ h)) ∧
  (∀ (s : State) (n v a w tag : Nat) (o : Order) (u : Visit) (h : Nat) (r : WheelRecord),
     s.free .turner = true → s.order? n = some o → o.visit? v = some u →
     endRefusal o (some u) .aborted a tag = none → u.wheel = some h → s.record? (handleIndex h) = some r →
     ∃ t, s.Replies (.visitEndAborted n v a w tag) .turner t ⟨.ok, []⟩ ∧
       t = { s with
         registry := t.registry, shelf := t.shelf, relocations := t.relocations, candidates := t.candidates
         attention := t.attention, dispatcher := t.dispatcher } ∧
       RecordBecomes s t (handleIndex h)
         { r with claim := .none, holds := { r.holds with unconfirmed := true } } ∧
       t.relocations = (s.relocations.map fun q =>
         if q.wheel = h ∧ u.dest ≠ none then { q with state := .queued } else q) ∧
       t.attention = ⟨s.attention.pending ||| 0x80#8, s.attention.mask⟩)

/-- An unreachable report raises a slot's count; at the third the slot is blocked, its occupant is held BLOCKED_SLOT
and leaves the Candidate List, and SLOT_BLOCKED is latched (R35). UNREACHABLE reports the visit's source and
DEST_UNREACHABLE a MOVE's destination; ABSENT hands the Reconciler the source with no wheel; and DONE of a SCAN hands
it the seen tag and sets the count to 0 (R98, R99, R100). -/
def Obligations.OutcomesReachTheirSlot : Prop :=
  (∀ (s : State) (p : Nat),
     ((s.slot p).count < 2 → s.unreachable p = s.updSlot p fun v => { v with count := v.count + 1 }) ∧
     (2 ≤ (s.slot p).count → ∃ t, s.unreachable p = t ∧
       SlotBecomes s t p { s.slot p with count := 3, condition := .blocked } ∧
       t.attention.pending = s.attention.pending ||| 0x20#8 ∧
       ((s.slot p).occupant = none → t.registry = s.registry ∧ t.candidates = s.candidates) ∧
       ∀ i r, (s.slot p).occupant = some i → s.record? i = some r → r.holds.blockedSlot = false →
         RecordBecomes s t i { r with holds := { r.holds with blockedSlot := true } } ∧
         t.candidates = s.candidates.filter fun c => decide (handleIndex c.handle ≠ i))) ∧
  (∀ (s : State) (v : Visit) (a : ActionSet) (w : Option Nat) (tag : Nat),
     s.visitOutcome v .unreachable a w tag = s.unreachable v.source ∧
     (∀ d, v.dest = some d → s.visitOutcome v .destUnreachable a w tag = s.unreachable d) ∧
     s.visitOutcome v .absent a w tag = (s.compare v.source .noWheel).1 ∧
     (v.wheel = none → ∃ t, s.visitOutcome v .done a w tag = t ∧ (t.slot v.source).count = 0 ∧
       t = ((s.compare v.source (.tag tag)).1).updSlot v.source fun x => { x with count := 0 }))

/-! ## Relocations and the census -/

/-- RELOCATE is refused by tests 2 to 8 of R111 in their order. An accepted RELOCATE joins the end of the queue
QUEUED, reserves its destination and marks the wheel; the reply carries its position (R112). UNRELOCATE takes a QUEUED
relocation out of the queue, with its reservation and its wheel's flag; an ISSUED one is BUSY, and none is NOT_FOUND;
READ_RELOCATIONS changes nothing (R115, R116, R117). The one-byte count at its head is presumed, log 14, and the
number of a relocation's state is log 15. -/
def Obligations.RelocationsJoinAndLeaveTheQueue : Prop :=
  (∀ (s : State) (h i : Nat) (r : WheelRecord) (l : LSlot), s.free .registry = true → s.named? h = some i →
     s.record? i = some r →
     (l.rack = 0 → s.Replies (.relocate h l) .registry s ⟨.badField, []⟩) ∧
     (l.rack ≠ 0 → s.held i r = true → s.Replies (.relocate h l) .registry s ⟨.busy, []⟩) ∧
     (l.rack ≠ 0 → s.held i r = false → r.relocationPending = true →
       s.Replies (.relocate h l) .registry s ⟨.duplicate, []⟩) ∧
     (l.rack ≠ 0 → s.held i r = false → r.relocationPending = false →
       (8 ≤ s.relocations.length → s.Replies (.relocate h l) .registry s ⟨.full, []⟩) ∧
       (s.relocations.length < 8 →
         (s.physical? l = none → s.Replies (.relocate h l) .registry s ⟨.slotUnusable, []⟩) ∧
         (∀ p, s.physical? l = some p →
           ((s.slot p).condition = .blocked → s.Replies (.relocate h l) .registry s ⟨.slotUnusable, []⟩) ∧
           ((s.slot p).condition = .opened →
             ((s.slot p).occupant ≠ none ∨ (s.slot p).reserved = true →
               s.Replies (.relocate h l) .registry s ⟨.slotTaken, []⟩) ∧
             ((s.slot p).occupant = none → (s.slot p).reserved = false → (s.slot p).engaged = true →
               s.Replies (.relocate h l) .registry s ⟨.busy, []⟩)))))) ∧
  (∀ (s : State) (h i p : Nat) (r : WheelRecord) (l : LSlot), s.free .registry = true → s.named? h = some i →
     s.record? i = some r → s.relocateRefusal i r l = none → s.physical? l = some p →
     ∃ t, s.Replies (.relocate h l) .registry t ⟨.ok, [BitVec.ofNat 8 (s.relocations.length + 1)]⟩ ∧
       t = { s with registry := t.registry, shelf := t.shelf, relocations := t.relocations } ∧
       t.relocations = s.relocations ++ [⟨h, p, .queued⟩] ∧
       SlotBecomes s t p { s.slot p with reserved := true } ∧
       RecordBecomes s t i { r with relocationPending := true }) ∧
  (∀ (s : State) (h i : Nat) (r : WheelRecord), s.free .registry = true → s.named? h = some i →
     s.record? i = some r →
     (s.relocationOf? h = none → s.Replies (.unrelocate h) .registry s ⟨.notFound, []⟩) ∧
     (∀ q, s.relocationOf? h = some q → q.state = .issued → s.Replies (.unrelocate h) .registry s ⟨.busy, []⟩) ∧
     (∀ q, s.relocationOf? h = some q → q.state = .queued → ∃ t, s.Replies (.unrelocate h) .registry t ⟨.ok, []⟩ ∧
       t = { s with registry := t.registry, shelf := t.shelf, relocations := t.relocations } ∧
       t.relocations = s.relocations.filter (fun x => decide (x.wheel ≠ h)) ∧
       SlotBecomes s t q.dest { s.slot q.dest with reserved := false } ∧
       RecordBecomes s t i { r with relocationPending := false })) ∧
  (∀ s : State, s.free .registry = true → ∃ b, s.Replies .readRelocations .registry s ⟨.ok, b⟩ ∧
     b.getD 0 0#8 = BitVec.ofNat 8 s.relocations.length ∧ b.length = 1 + 7 * s.relocations.length ∧
     ∀ k q, s.relocations[k]? = some q → (b.drop (1 + 7 * k)).take 7 = s.encodeRelocation (k + 1) q)

/-- The census: a batch is up to eight eligible slots of one rack, and one of no slot means that no step yields any
(R119, R120). The review step takes the first eight eligible flagged slots of the rack of the lowest one, and moves
nothing (R121). The directed step, where the review step yields nothing, drops each head entry whose walk collects
nothing, and takes the first eight eligible slots of the next from its walk position on; that entry's walk position
moves to the one after the last slot taken, or the entry leaves, where it has reached the end of its rack (R122). The
cursor step, where no entry yields a slot, takes the first eight eligible slots, from the first it meets from the
cursor on, of that slot's rack; the cursor moves to the position after the eighth, or to the next rack (R123). That
the position after a slot is the next in physical order, in the used geometry or not, is the model's reading, log 18.
CENSUS_RACK adds a rack at the end of the directed list by the tests of R124, and CENSUS_RACK(NONE) empties the list;
READ_CENSUS reports the setting, the cursor, the directed list with its walk positions and the two counts of review
flags, and changes nothing (R124, R125); its one-byte and two-byte counts are presumed, log 14. -/
def Obligations.TheCensusYieldsOneRackAtATime : Prop :=
  (∀ s : State,
     s.censusTake.1.length ≤ 8 ∧ (∀ p ∈ s.censusTake.1, s.scanEligible p = true) ∧
     (∀ p ∈ s.censusTake.1, ∀ q ∈ s.censusTake.1, slotRack p = slotRack q) ∧
     (∀ p, s.scanEligible p = true ↔ s.onMap p = true ∧ (s.slot p).condition = .opened ∧ (s.slot p).engaged = false) ∧
     (s.censusTake.1 = [] ↔ s.censusTried = false) ∧
     (s.tablesCanonical = true → s.flaggedSlots.Pairwise (fun p q => p < q) ∧
       ∀ p, p ∈ s.flaggedSlots ↔ (s.slot p).review = true)) ∧
  (∀ (s : State) (p : Nat) (rest : List Nat), s.flaggedSlots.filter s.scanEligible = p :: rest →
     s.censusTake = (((p :: rest).filter fun q => decide (slotRack q = slotRack p)).take 8, s.census)) ∧
  (∀ (s : State) (walk : DirectedRack → List Nat), s.flaggedSlots.filter s.scanEligible = [] →
     (∀ d, walk d = ((List.range' (d.rack * 256 + d.walk) (256 - d.walk)).filter s.scanEligible).take 8) →
     (∀ pre d rest last, s.census.directed = pre ++ d :: rest → (∀ e ∈ pre, walk e = []) →
       (walk d).getLast? = some last →
       (∀ r, r = s.rackRecord d.rack →
         ((walk d).length < 8 ∨ (r.columns - 1) * 8 + (r.levels - 1) < last % 256 + 1 →
           s.censusTake = (walk d, ⟨s.census.cursor, rest⟩)) ∧
         ((walk d).length = 8 → last % 256 + 1 ≤ (r.columns - 1) * 8 + (r.levels - 1) →
           s.censusTake = (walk d, ⟨s.census.cursor, ⟨d.rack, last % 256 + 1⟩ :: rest⟩)))) ∧
     ((∀ d ∈ s.census.directed, walk d = []) → s.census.cursor < 4096 →
       (∀ k p batch last, k < 4096 → p = (s.census.cursor + k) % 4096 → s.scanEligible p = true →
         (∀ j, j < k → s.scanEligible ((s.census.cursor + j) % 4096) = false) →
         batch = ((List.range' p (256 - p % 256)).filter s.scanEligible).take 8 → batch.getLast? = some last →
         s.censusTake = (batch, ⟨if batch.length = 8 then (last + 1) % 4096
           else (slotRack p + 1) * 256 % 4096, []⟩)) ∧
       ((∀ p, p < 4096 → s.scanEligible p = false) → s.censusTake = ([], ⟨s.census.cursor, []⟩)))) ∧
  (∀ (s : State) (n : Nat), s.free .registry = true →
     s.Replies .censusRackNone .registry { s with census := ⟨s.census.cursor, []⟩ } ⟨.ok, []⟩ ∧
     s.Replies (.censusRack 0) .registry { s with census := ⟨s.census.cursor, []⟩ } ⟨.ok, []⟩ ∧
     (16 < n → s.Replies (.censusRack n) .registry s ⟨.badField, []⟩) ∧
     (1 ≤ n → n ≤ 16 → s.rackNumbered? n = none → s.Replies (.censusRack n) .registry s ⟨.slotUnusable, []⟩) ∧
     (∀ p, 1 ≤ n → n ≤ 16 → s.rackNumbered? n = some p →
       ((∃ d ∈ s.census.directed, d.rack = p) → s.Replies (.censusRack n) .registry s ⟨.duplicate, []⟩) ∧
       ((∀ d ∈ s.census.directed, d.rack ≠ p) → 4 ≤ s.census.directed.length →
         s.Replies (.censusRack n) .registry s ⟨.full, []⟩) ∧
       ((∀ d ∈ s.census.directed, d.rack ≠ p) → s.census.directed.length < 4 →
         s.Replies (.censusRack n) .registry
           { s with census := ⟨s.census.cursor, s.census.directed ++ [⟨p, 0⟩]⟩ }
           ⟨.ok, [BitVec.ofNat 8 (s.census.directed.length + 1)]⟩))) ∧
  (∀ s : State, s.free .registry = true → s.Replies .readCensus .registry s ⟨.ok,
     [BitVec.ofNat 8 s.dispatcher.settings.census.toNat, BitVec.ofNat 8 (slotAisle s.census.cursor),
      BitVec.ofNat 8 (slotSide s.census.cursor), BitVec.ofNat 8 (slotColumn s.census.cursor),
      BitVec.ofNat 8 (slotLevel s.census.cursor), BitVec.ofNat 8 s.census.directed.length] ++
     (s.census.directed.flatMap fun d => [BitVec.ofNat 8 d.rack,
       BitVec.ofNat 8 ((s.rackRecord d.rack).logical.getD 255), BitVec.ofNat 8 (d.walk / 8),
       BitVec.ofNat 8 (d.walk % 8)]) ++
     be 2 s.flaggedSlots.length ++ be 2 (s.flaggedSlots.filter s.scanEligible).length⟩)

/-! ## Reconciling -/

/-- Table 7-1: what each report gives at an occupied slot and at an empty one (R128). A record has MISPLACED exactly
while some entry names it as the seen record (R22). -/
def Obligations.ReportsAreJudgedByTheMap : Prop :=
  (∀ (s : State) (p : Nat),
     (∀ i r, (s.slot p).occupant = some i → s.record? i = some r →
       s.findingAt p (.tag r.tag) = none ∧
       s.findingAt p .noWheel = some ⟨.missing, some (s.handleOf i), none, none⟩ ∧
       (r.tag ≠ 0 → s.findingAt p (.tag 0) = some ⟨.unreadable, some (s.handleOf i), some 0, none⟩) ∧
       (∀ t j, t ≠ 0 → t ≠ r.tag → s.registry.tagIndex.read? t = some j →
         s.findingAt p (.tag t) = some ⟨.misplaced, some (s.handleOf i), some t, some (s.handleOf j)⟩) ∧
       (∀ t, t ≠ 0 → t ≠ r.tag → s.registry.tagIndex.read? t = none →
         s.findingAt p (.tag t) = some ⟨.foreign, some (s.handleOf i), some t, none⟩)) ∧
     ((s.slot p).occupant = none →
       s.findingAt p (.tag 0) = none ∧ s.findingAt p .noWheel = none ∧
       (∀ t j, t ≠ 0 → s.registry.tagIndex.read? t = some j →
         s.findingAt p (.tag t) = some ⟨.misplaced, none, some t, some (s.handleOf j)⟩) ∧
       (∀ t, t ≠ 0 → s.registry.tagIndex.read? t = none →
         s.findingAt p (.tag t) = some ⟨.foreign, none, some t, none⟩))) ∧
  (∀ (s : State) (i : Nat) (r : WheelRecord),
     (s.misplaced i = true ↔ ∃ e ∈ s.discrepancies, e.2.seenRecord = some (s.handleOf i)) ∧
     (s.held i r = true ↔ r.holds.host = true ∨ r.holds.missing = true ∨ r.holds.blockedSlot = true ∨
       r.holds.unconfirmed = true ∨ s.misplaced i = true))

/-- A CONFIRM clears the review flag, stamps the slot, removes the slot's entry, and takes MISSING and UNCONFIRMED
from the occupant; it latches nothing (R129, R132). A finding writes its entry, at the slot's own position or at the
lowest free one, clears the review flag and latches DISCREPANCY; with the table full it writes none and sets the
review flag (R130, R132, R133, R134). The pairs an entry lists are those of R130's table; each MISSING of them stands
on its record, each MISPLACED is out of the Candidate List; and a MISSING of the entry replaced that the new one does
not renew, and that no entry lists, is released (R130, R133, R135), one that a full table placed too among them: the
model's choice, log 43. -/
def Obligations.ComparisonsConfirmOrEnterAFinding : Prop :=
  (∀ (s : State) (p : Nat) (rep : TagReport), s.findingAt p rep = none → ∃ t, s.compare p rep = (t, .confirm) ∧
     t.attention = s.attention ∧ t.candidates = s.candidates ∧
     SlotBecomes s t p { s.slot p with review := false, verified := some s.clock.minutes } ∧
     (∀ k e, s.entryAt? p = some (k, e) → t.discrepancies = s.discrepancies.clear k) ∧
     (s.entryAt? p = none → t.discrepancies = s.discrepancies) ∧
     ∀ i r', (s.slot p).occupant = some i → t.record? i = some r' →
       r'.holds.missing = false ∧ r'.holds.unconfirmed = false) ∧
  (∀ (s : State) (p : Nat) (rep : TagReport) (f : Finding), s.findingAt p rep = some f →
     ∃ t, s.compare p rep = (t, f.kind.answer) ∧ t.attention.pending = s.attention.pending ||| 0x10#8 ∧
       (∀ k old, s.entryAt? p = some (k, old) →
         t.discrepancies = s.discrepancies.write k (f.entry p s.clock.minutes (some old)) ∧
         (t.slot p).review = false) ∧
       (∀ k, s.entryAt? p = none → s.freePosition? = some k →
         t.discrepancies = s.discrepancies.write k (f.entry p s.clock.minutes none) ∧ (t.slot p).review = false) ∧
       (s.entryAt? p = none → s.freePosition? = none →
         t.discrepancies = s.discrepancies ∧ (t.slot p).review = true ∧
         (∀ h r, (h, HoldReason.missing) ∈ f.missingPairs none → t.record? (handleIndex h) = some r →
           r.holds.missing = true)) ∧
       (t.slot p).verified = (s.slot p).verified ∧ (t.slot p).occupant = (s.slot p).occupant ∧
       ∀ e : Discrepancy, s.entryAt? p ≠ none ∨ s.freePosition? ≠ none →
         e = f.entry p s.clock.minutes ((s.entryAt? p).map fun x => x.2) →
         (∀ h r, (h, HoldReason.missing) ∈ e.holds → t.record? (handleIndex h) = some r → r.holds.missing = true) ∧
         (∀ h, (h, HoldReason.misplaced) ∈ e.holds → ∀ c ∈ t.candidates, handleIndex c.handle ≠ handleIndex h) ∧
         (∀ k old h r, s.entryAt? p = some (k, old) → (h, HoldReason.missing) ∈ old.holds →
           (∀ x ∈ t.discrepancies, x.2.listsMissing h = false) →
           (∀ g, (g, HoldReason.missing) ∈ e.holds → handleIndex g ≠ handleIndex h) →
           t.record? (handleIndex h) = some r → r.holds.missing = false)) ∧
  (∀ (f : Finding) (p now : Nat) (old : Option Discrepancy) (missing : List (Nat × HoldReason)),
     f.entry p now old = ⟨p, f.kind, f.expected, f.seenTag, f.seenRecord, now, missing ++
       (f.seenRecord.map fun h => (h, HoldReason.misplaced)).toList⟩ ↔
     missing = match f.expected, f.kind with
       | none, _ => []
       | some h, .unreadable =>
         if old.any (fun e => e.holds.contains (h, HoldReason.missing)) = true then [(h, .missing)] else []
       | some h, _ => [(h, .missing)])

/-- READ_DISCREPANCY and its NEXT form report an entry in 32 bytes and change nothing (R137, R191). The three tests
every RESOLVE makes first (R138). DISMISS removes the entry and releases its holds, but for a MISSING that another
entry lists too; RESCAN sets the slot's review flag and leaves the entry (R139, R140, R135). That a MISSING a full
table placed on the same record is released too is the model's choice, log 43. -/
def Obligations.DiscrepanciesAreReadAndResolved : Prop :=
  (∀ (s : State) (k : Nat), s.free .registry = true → s.discrepancies.ordered = true →
     (15 < k → s.Replies (.readDiscrepancy k) .registry s ⟨.badField, []⟩) ∧
     (15 < k → k ≠ 255 → s.Replies (.readDiscrepancyNext k) .registry s ⟨.badField, []⟩) ∧
     (k ≤ 15 → s.discrepancies.read? k = none → s.Replies (.readDiscrepancy k) .registry s ⟨.notFound, []⟩) ∧
     (∀ e, k ≤ 15 → s.discrepancies.read? k = some e → ∃ b, b.length = 32 ∧
       s.Replies (.readDiscrepancy k) .registry s ⟨.ok, b⟩ ∧ b = s.encodeDiscrepancy k e) ∧
     (∀ j e bound, (k ≤ 15 ∧ bound = k + 1) ∨ (k = 255 ∧ bound = 0) → bound ≤ j →
       s.discrepancies.read? j = some e → (∀ m, bound ≤ m → m < j → s.discrepancies.read? m = none) →
       s.Replies (.readDiscrepancyNext k) .registry s ⟨.ok, s.encodeDiscrepancy j e⟩) ∧
     (∀ bound, (k ≤ 15 ∧ bound = k + 1) ∨ (k = 255 ∧ bound = 0) →
       (∀ m, bound ≤ m → s.discrepancies.read? m = none) →
       s.Replies (.readDiscrepancyNext k) .registry s ⟨.notFound, []⟩)) ∧
  (∀ (s : State) (l : LSlot) (c : Instr), s.free .registry = true →
     c ∈ [.resolveDismiss l, .resolveRescan l, .resolveAdopt l] →
     (l.rack = 0 → s.Replies c .registry s ⟨.badField, []⟩) ∧
     (l.rack ≠ 0 → s.physical? l = none → s.Replies c .registry s ⟨.slotUnusable, []⟩) ∧
     (∀ p, l.rack ≠ 0 → s.physical? l = some p → s.entryAt? p = none → s.Replies c .registry s ⟨.notFound, []⟩)) ∧
  (∀ (s : State) (l : LSlot) (p k : Nat) (e : Discrepancy), s.free .registry = true → l.rack ≠ 0 →
     s.physical? l = some p → s.entryAt? p = some (k, e) →
     (∃ t, s.Replies (.resolveDismiss l) .registry t ⟨.ok, []⟩ ∧
       t = { s with registry := t.registry, discrepancies := s.discrepancies.clear k } ∧
       t.registry = { s.registry with records := t.registry.records } ∧
       (∀ i r, s.record? i = some r → ∃ r', t.record? i = some r' ∧
         r' = { r with holds := { r.holds with missing := r'.holds.missing } } ∧
         (r'.holds.missing = true → r.holds.missing = true)) ∧
       (∀ h, (h, HoldReason.missing) ∈ e.holds →
         (∀ x ∈ s.discrepancies.clear k, x.2.listsMissing h = false) →
         ∀ r', t.record? (handleIndex h) = some r' → r'.holds.missing = false) ∧
       (∀ h r r', (∃ x ∈ s.discrepancies.clear k, x.2.listsMissing h = true) →
         (∀ g, (g, HoldReason.missing) ∈ e.holds → handleIndex g = handleIndex h → g = h) →
         s.record? (handleIndex h) = some r → t.record? (handleIndex h) = some r' →
         r'.holds.missing = r.holds.missing)) ∧
     (∃ t, s.Replies (.resolveRescan l) .registry t ⟨.ok, []⟩ ∧ t = { s with shelf := t.shelf } ∧
       SlotBecomes s t p { s.slot p with review := true }))

/-- The refusals of ADOPT by the tests of R141 in their order; one that passes them is carried out, and its entry
leaves the table. ADOPT of a MISSING or FOREIGN entry unlocates the expected occupant, which keeps its MISSING (R142).
ADOPT of a MISPLACED entry unlocates the expected occupant too and seats the seen record in the slot, free of MISSING,
UNCONFIRMED and BLOCKED_SLOT; the slot it left empties; and a relocation of it to this slot is complete, while any
other stays (R142, R143, R115). -/
def Obligations.AdoptTakesTheReportAsTrue : Prop :=
  (∀ (s : State) (l : LSlot) (p k : Nat) (e : Discrepancy), s.free .registry = true → l.rack ≠ 0 →
     s.physical? l = some p → s.entryAt? p = some (k, e) →
     (e.kind = .unreadable → s.Replies (.resolveAdopt l) .registry s ⟨.badField, []⟩) ∧
     (∀ i, e.kind ≠ .unreadable → (s.slot p).occupant = some i → e.expected ≠ some (s.handleOf i) →
       s.Replies (.resolveAdopt l) .registry s ⟨.sequence, []⟩) ∧
     (e.kind ≠ .unreadable → s.unseats p e = false →
       (¬(e.kind = .misplaced ∧ e.seenRecord ≠ none) → (s.slot p).engaged = true →
         s.Replies (.resolveAdopt l) .registry s ⟨.busy, []⟩) ∧
       (∀ h r, e.kind = .misplaced → e.seenRecord = some h → s.record? (handleIndex h) = some r →
         (r.claim ≠ .none → s.Replies (.resolveAdopt l) .registry s ⟨.claimed, []⟩) ∧
         (r.claim = .none →
           ((s.slot p).engaged = true ∨ (∃ q, r.location = some q ∧ (s.slot q).engaged = true) →
             s.Replies (.resolveAdopt l) .registry s ⟨.busy, []⟩) ∧
           ((s.slot p).engaged = false → (∀ q, r.location = some q → (s.slot q).engaged = false) →
             (s.slot p).reserved = true → (∃ q ∈ s.relocations, q.dest = p ∧ q.wheel ≠ h) →
             s.Replies (.resolveAdopt l) .registry s ⟨.slotTaken, []⟩)))) ∧
     (s.adoptRefusal p e = none → ∃ t, s.Replies (.resolveAdopt l) .registry t ⟨.ok, []⟩ ∧
       t = { s with
         registry := t.registry, shelf := t.shelf, candidates := t.candidates, relocations := t.relocations
         discrepancies := s.discrepancies.clear k })) ∧
  (∀ (s : State) (l : LSlot) (p k i : Nat) (e : Discrepancy) (r : WheelRecord), s.free .registry = true →
     l.rack ≠ 0 → s.physical? l = some p → s.entryAt? p = some (k, e) → s.adoptRefusal p e = none →
     e.kind = .missing ∨ e.kind = .foreign → (s.slot p).occupant = some i → s.record? i = some r →
     r.location = some p →
     ∃ t, s.Replies (.resolveAdopt l) .registry t ⟨.ok, []⟩ ∧ RecordBecomes s t i { r with location := none } ∧
       SlotBecomes s t p { s.slot p with occupant := none } ∧ t.relocations = s.relocations) ∧
  (∀ (s : State) (l : LSlot) (p k h : Nat) (e : Discrepancy) (r : WheelRecord), s.free .registry = true →
     l.rack ≠ 0 → s.physical? l = some p → s.entryAt? p = some (k, e) → s.adoptRefusal p e = none →
     e.kind = .misplaced → e.seenRecord = some h → s.record? (handleIndex h) = some r →
     (∀ i, (s.slot p).occupant = some i → i ≠ handleIndex h ∧ ∃ x, s.record? i = some x ∧ x.location = some p) →
     ∃ t r', s.Replies (.resolveAdopt l) .registry t ⟨.ok, []⟩ ∧ t.record? (handleIndex h) = some r' ∧
       r' = { r with
         location := some p, relocationPending := r'.relocationPending
         holds := { r.holds with missing := false, unconfirmed := false, blockedSlot := false } } ∧
       (t.slot p).occupant = some (handleIndex h) ∧
       (∀ q, r.location = some q → q ≠ p → (t.slot q).occupant = none) ∧
       (∀ i x, (s.slot p).occupant = some i → s.record? i = some x →
         t.record? i = some { x with location := none }) ∧
       (∀ j, j ≠ handleIndex h → (s.slot p).occupant ≠ some j → t.record? j = s.record? j) ∧
       (∀ q, s.relocationOf? h = some q → q.dest = p →
         t.relocations = (s.relocations.filter fun x => decide (x.wheel ≠ h)) ∧ (t.slot p).reserved = false ∧
         r'.relocationPending = false) ∧
       ((∀ q, s.relocationOf? h = some q → q.dest ≠ p) →
         t.relocations = s.relocations ∧ (t.slot p).reserved = (s.slot p).reserved ∧
         r'.relocationPending = r.relocationPending))

/-! ## Polling rounds -/

/-- ROUND_BOUNDARY reloads the timer; in WAITING it makes the staged records active, forgets the fresh readings and
begins a round; in a round it only marks the round overran; while the timer is stopped it has no effect (R150, R151,
R163). MEASURE in BROADCASTING on a bus the part may take sends the general-call byte, and 3Dh where a node
acknowledges, and starts the conversion wait; the end of the wait gives the turn to the first configured entry (R151,
R152, R153). In any other state neither has an effect, nor has MEASURE while a read is held with the clock low (R184):
that is the model's reading, log 8. That CONVERSION_WAIT_END acts whatever the count reads is its choice, log 6, and
so is a MEASURE given whole by its row, log 9; the bytes driven are its own field, log 33. That ROUND_BOUNDARY acts
whatever its count reads is log 6, and that it begins the round on a BUSY bus too is the model's choice, log 39. Where
no entry is configured, the end of the wait evaluates the round at once: the model's choice, log 40. -/
def Obligations.RoundsBeginAndLeadToReading : Prop :=
  (∀ s : State, s.operating = true → s.tablesCanonical = true →
     (s.poller.roundTimer = none → exec .roundBoundary s = .next s) ∧
     (s.poller.state = .waiting → s.poller.roundTimer ≠ none → ∃ t, exec .roundBoundary s = .next t ∧
       t = { s with poller := t.poller, zones := t.zones } ∧
       t.poller = { s.poller with
         sensors := t.poller.sensors, roundTimer := some s.poller.settings.period, state := .broadcasting
         retries := 0, begun := false, discard := false, boundaryFell := false } ∧
       (∀ e, t.sensor e = { s.sensor e with fresh := none }) ∧
       ∀ z, t.zone z = { s.zone z with active := (s.zone z).staged.getD (s.zone z).active, staged := none }) ∧
     (s.poller.state ≠ .stopped → s.poller.state ≠ .waiting → s.poller.roundTimer ≠ none →
       exec .roundBoundary s = .next { s with poller := { s.poller with
         roundTimer := some s.poller.settings.period, overran := true, boundaryFell := true } })) ∧
  (∀ s : State, s.operating = true →
     (∀ a, s.poller.state = .broadcasting → s.canTransact = true → exec (.measure a) s = .next { s with poller :=
       { s.poller with
         state := .converting, waitLeft := s.poller.settings.wait, begun := false, discard := false, retries := 0
         bus := .idle, awaitingIdle := false, lossRole := .none
         driven := if a = true then [0x00#8, 0x3D#8] else [0x00#8] } }) ∧
     (∀ a, s.poller.state ≠ .broadcasting ∨ s.canTransact = false → exec (.measure a) s = .next s) ∧
     (s.canTransact = true ↔ s.port.held = none ∧
       (s.poller.begun = true ∨ (s.poller.bus = .idle ∧ s.poller.lossRole = .none))) ∧
     (∀ k, s.poller.state = .converting → k < 16 → s.configured k = true → (∀ j, j < k → s.configured j = false) →
       exec .conversionWaitEnd s = .next { s with poller :=
         { s.poller with waitLeft := 0, state := .reading, turn := k } }) ∧
     (s.poller.state = .converting → (∀ j, j < 16 → s.configured j = false) → exec .conversionWaitEnd s =
       .next (State.evaluateRound { s with poller := { s.poller with waitLeft := 0 } })) ∧
     (s.poller.state ≠ .converting → exec .conversionWaitEnd s = .next s))

/-- A read that is taken writes its entry by the acknowledge, the check and the flags, moves its state by the table of
R154, latches SENSOR where FAILED is entered or left, and passes the turn to the next configured entry; a read whose
entry was changed is discarded, and was driven at the address the entry held when it began (R153, R154). A read of an
entry at one of the part's own addresses ends NO_ACK whatever stands on the bus, and no byte is driven there (R178):
the model's reading, log 26. That a read can be given whole by its row, begun or not, is the model's choice, log 9,
and the bytes driven are its own field, log 33. Out of its turn, or while the part cannot transact, SENSOR_READ has no
effect (R157, R184; log 8). The state of an entry after a read that is not GOOD, and the limits of a stored reading
(R153, R154). -/
def Obligations.ASensorReadWritesItsEntry : Prop :=
  (∀ (s : State) (answer : Option (List Byte)) (e : SensorEntry) (k : Nat), s.operating = true →
     s.poller.state = .reading → s.canTransact = true → e = s.sensor s.poller.turn →
     s.poller.turn < k → k < 16 → s.configured k = true →
     (∀ j, s.poller.turn < j → j < k → s.configured j = false) →
     ∃ t, exec (.sensorRead answer) s = .next t ∧ t = { s with poller := t.poller, attention := t.attention } ∧
       t.poller.state = .reading ∧ t.poller.turn = k ∧ t.poller.retries = 0 ∧ t.poller.bus = .idle ∧
       t.poller.driven = (if s.ownAddress s.readAddress = true then []
         else [BitVec.ofNat 8 (2 * s.readAddress + 1)]) ∧
       t.poller.settings = s.poller.settings ∧ t.poller.roundTimer = s.poller.roundTimer ∧
       (∀ j, j ≠ s.poller.turn → t.sensor j = s.sensor j) ∧
       (s.poller.discard = true → t.sensor s.poller.turn = e ∧ t.attention = s.attention) ∧
       (s.poller.discard = false → s.ownAddress e.address = true → t.sensor s.poller.turn =
         { e with outcome := .noAck, state := e.state.after false, fresh := none }) ∧
       (s.poller.discard = false → t.attention = ⟨
         (if (e.state = .failed ↔ (t.sensor s.poller.turn).state = .failed) then s.attention.pending
          else s.attention.pending ||| 0x04#8), s.attention.mask⟩) ∧
       (s.poller.discard = false → s.ownAddress e.address = false →
         (answer = none → t.sensor s.poller.turn =
           { e with outcome := .noAck, state := e.state.after false, fresh := none }) ∧
         (∀ b, answer = some b → byteSum b ≠ 0#8 → t.sensor s.poller.turn =
           { e with outcome := .badCheck, state := e.state.after false, fresh := none }) ∧
         (∀ b, answer = some b → byteSum b = 0#8 → b.getD 4 0#8 ≠ 0#8 → t.sensor s.poller.turn =
           { e with outcome := .flagged, state := e.state.after false, reading := some (readingOf b), fresh := none }) ∧
         (∀ b, answer = some b → byteSum b = 0#8 → b.getD 4 0#8 = 0#8 → t.sensor s.poller.turn =
           { e with
             outcome := .good, state := .ok, reading := some (readingOf b)
             fresh := some ((readingOf b).humidity, (readingOf b).temperature) }))) ∧
  (∀ s : State, s.operating = true →
     (s.poller.begun = true → s.readAddress = s.poller.target) ∧
     (s.poller.begun = false → s.readAddress = (s.sensor s.poller.turn).address) ∧
     ∀ answer, s.poller.state ≠ .reading ∨ s.canTransact = false → exec (.sensorRead answer) s = .next s) ∧
  (SensorState.after .unpolled false = .missed1 ∧ SensorState.after .ok false = .missed1 ∧
   SensorState.after .missed1 false = .missed2 ∧ SensorState.after .missed2 false = .missed3 ∧
   SensorState.after .missed3 false = .failed ∧ SensorState.after .failed false = .failed ∧
   (∀ st : SensorState, st.after true = .ok) ∧
   (∀ h1 h0 t1 t0 f c : Byte,
     (readingOf [h1, h0, t1, t0, f, c]).humidity = min 1000 (h1.toNat * 256 + h0.toNat) ∧
     (readingOf [h1, h0, t1, t0, f, c]).temperature = max (-400) (min 600 (t1 ++ t0).toInt) ∧
     (readingOf [h1, h0, t1, t0, f, c]).flags = f))

/-- The read of the last configured entry ends the round: all eight zones are judged in one event, every configured
entry's count of rounds is updated, the overran flag is settled, SENSOR and ALARM are latched where some zone calls
for them, and the poller waits for the next boundary, or, where it may run no more, stops with its timer stopped and
every staged record made active (R149, R150, R153, R155, R163, R165, R168, R174). The three cases of a zone at the
handover: a fresh reading gives a new value, band and alarm; none, with an entry that is not failed, changes only the
counts and leaves BLIND; else the zone is BLIND with its band UNKNOWN (R165, R166, R167, R168). The rounded mean is
the nearest whole number, an exact half going to the higher (R166). That a round whose last entry was made unused in
the middle of its read is judged so too is the model's choice, log 40, and that an alarm which clears at once latches
ALARM is its reading, log 21; a read given whole by its row is log 9, and the bytes driven are its own field, log 33.
-/
def Obligations.TheLastReadJudgesEveryZone : Prop :=
  (∀ (s u : State) (answer : Option (List Byte)), s.operating = true →
     s.poller.state = .reading → s.canTransact = true → (∀ j, s.poller.turn < j → j < 16 → s.configured j = false) →
     u = (if s.poller.discard = true then s else s.takeRead s.poller.turn answer) →
     ∃ b, exec (.sensorRead answer) s = .next (State.evaluateRound { u with poller := { u.poller with
       begun := false, discard := false, retries := 0, bus := .idle, awaitingIdle := false, lossRole := .none
       driven := b } })) ∧
  (∀ s t : State, s.tablesCanonical = true → t = s.evaluateRound →
     t = { s with poller := t.poller, zones := t.zones, attention := t.attention } ∧
     t.poller.retries = 0 ∧ t.poller.overran = (s.poller.overran && s.poller.boundaryFell) ∧
     t.poller.settings = s.poller.settings ∧
     (s.runCondition = true → t.poller.state = .waiting ∧ t.poller.roundTimer = s.poller.roundTimer ∧
       (∀ z, 1 ≤ z → z ≤ 8 → t.zone z = (s.zone z).judge (s.zoneInputs z)) ∧
       ∀ z, z = 0 ∨ 8 < z → t.zone z = s.zone z) ∧
     (s.runCondition = false → t.poller.state = .stopped ∧ t.poller.roundTimer = none ∧
       (∀ z y, 1 ≤ z → z ≤ 8 → y = (s.zone z).judge (s.zoneInputs z) →
         t.zone z = { y with active := y.staged.getD y.active, staged := none }) ∧
       ∀ z, z = 0 ∨ 8 < z →
         t.zone z = { s.zone z with active := (s.zone z).staged.getD (s.zone z).active, staged := none }) ∧
     t.attention = ⟨s.attention.pending |||
       (if ∃ z ∈ zoneNumbers, (s.zone z).blind ≠ ((s.zone z).judge (s.zoneInputs z)).blind
         then 0x04#8 else 0x00#8) |||
       (if ∃ z ∈ zoneNumbers, alarmLatches (s.zone z).alarm ((s.zone z).judge (s.zoneInputs z)).alarm = true
         then 0x02#8 else 0x00#8), s.attention.mask⟩ ∧
     (∀ e, s.configured e = false → t.sensor e = s.sensor e) ∧
     ∀ e, s.configured e = true → t.sensor e = { s.sensor e with
       rounds := if (s.sensor e).fresh ≠ none then some 0 else (s.sensor e).rounds.map fun n => min 255 (n + 1)
       fresh := none }) ∧
  (∀ (z : Zone) (l : List ZoneInput) (a f : Nat) (fresh : List (Nat × Int)),
     a = l.length → f = (l.filter fun e : ZoneInput => e.failed).length → fresh = l.filterMap (fun e => e.fresh) →
     (fresh ≠ [] → ∃ v, v = (roundedMean ((fresh.map fun r => (r.1 : Int)).sum) fresh.length).toNat ∧
       z.judge l = { z with
         assigned := a, failed := f, used := fresh.length, blind := false, value := some v
         temperature := some (roundedMean ((fresh.map fun r => r.2).sum) fresh.length)
         band := judgeBand z.active z.band v, alarm := judgeAlarm z.active z.alarm v }) ∧
     (fresh = [] → f < a → z.judge l = { z with assigned := a, failed := f, blind := false }) ∧
     (fresh = [] → f = a → z.judge l = { z with assigned := a, failed := f, blind := true, band := .unknown })) ∧
  (∀ (sum : Int) (n : Nat), 0 < n →
     2 * (n : Int) * roundedMean sum n ≤ 2 * sum + n ∧ 2 * sum + n < 2 * (n : Int) * (roundedMean sum n + 1))

/-- An arbitration loss leaves the bus to its winner, the part serving it where the winner addresses the part, and is
retried; the loss of a transaction already retried eight times abandons the round, which may stop the poller, or
passes the turn, after entry 15 to the evaluation; a lost read whose entry was made unused passes the turn at once, as
a new transaction (R149, R153, R156, R158, R159). That a loss leaves nothing to discard while the retry count stands
is the model's choice, log 38, and so is the evaluation of a round with no entry left, log 40. In the first byte the
lower value wins, so a MEASURE is never lost there, and a read only to a lower byte than its own; a loss that cannot
be has no effect. The loss's operands and the role after it are the model's choice, log 10. The bus condition: a start
makes it BUSY, a stop makes it IDLE and ends what a loss left, and 1 ms of quiet makes it IDLE only before the first
stop (R157, R158). The part's own start, where it needs the bus and the bus is IDLE, begins its transaction and keeps
the address held then (R153): the model's choice, log 9. -/
def Obligations.LossesAreRetriedAndTheBusFollowed : Prop :=
  (∀ (s : State) (f : Bool) (w : Byte) (p : Poller), s.operating = true → s.transacting = true →
     s.canTransact = true →
     p = { s.poller with begun := false, discard := false, bus := .busy, lossRole := s.roleAfterLoss f w } →
     (s.roleAfterLoss false w = .offBus ∧
       (∀ q, s.portAt? (w.toNat / 2) = some q → s.roleAfterLoss true w = .serving q) ∧
       (s.portAt? (w.toNat / 2) = none → s.roleAfterLoss true w = .offBus)) ∧
     (s.poller.state = .broadcasting → s.canLose true w = false ∧ s.canLose false w = true) ∧
     (s.poller.state = .reading → s.ownAddress s.readAddress = true → s.canLose f w = false) ∧
     (s.poller.state = .reading → s.ownAddress s.readAddress = false →
       s.canLose false w = true ∧ (s.canLose true w = true ↔ w.toNat < 2 * s.readAddress + 1)) ∧
     (s.canLose f w = false → exec (.arbitrationLoss f w) s = .next s) ∧
     (s.canLose f w = true →
       (s.poller.retries < 8 → s.poller.state = .broadcasting ∨ s.configured s.poller.turn = true →
         exec (.arbitrationLoss f w) s = .next { s with poller := { p with retries := s.poller.retries + 1 } }) ∧
       (s.poller.retries < 8 → s.poller.state = .reading → s.configured s.poller.turn = false →
         (∀ k, s.poller.turn < k → k < 16 → s.configured k = true →
           (∀ j, s.poller.turn < j → j < k → s.configured j = false) →
           exec (.arbitrationLoss f w) s = .next { s with poller := { p with turn := k, retries := 0 } }) ∧
         ((∀ j, s.poller.turn < j → j < 16 → s.configured j = false) →
           exec (.arbitrationLoss f w) s =
             .next (State.evaluateRound { s with poller := { p with retries := 0 } }))) ∧
       (8 ≤ s.poller.retries → s.poller.state = .broadcasting → s.runCondition = true →
         exec (.arbitrationLoss f w) s = .next { s with poller := { p with
           state := .waiting, retries := 0, overran := s.poller.overran && s.poller.boundaryFell } }) ∧
       (8 ≤ s.poller.retries → s.poller.state = .broadcasting → s.runCondition = false → s.tablesCanonical = true →
         ∃ t, exec (.arbitrationLoss f w) s = .next t ∧ t = { s with zones := t.zones, poller := { p with
           state := .stopped, roundTimer := none, retries := 0
           overran := s.poller.overran && s.poller.boundaryFell } } ∧
         ∀ z, t.zone z = { s.zone z with active := (s.zone z).staged.getD (s.zone z).active, staged := none }) ∧
       (∀ k, 8 ≤ s.poller.retries → s.poller.state = .reading → s.poller.turn < k → k < 16 → s.configured k = true →
         (∀ j, s.poller.turn < j → j < k → s.configured j = false) →
         exec (.arbitrationLoss f w) s = .next { s with poller := { p with turn := k, retries := 0 } }) ∧
       (8 ≤ s.poller.retries → s.poller.state = .reading →
         (∀ j, s.poller.turn < j → j < 16 → s.configured j = false) →
         exec (.arbitrationLoss f w) s = .next (State.evaluateRound { s with poller := { p with retries := 0 } })))) ∧
  (∀ s : State, s.operating = true →
     exec (.busStartCondition false) s = .next { s with poller := { s.poller with bus := .busy } } ∧
     (s.transacting = true → s.poller.begun = false → s.canTransact = true → s.firstByte? ≠ none →
       exec (.busStartCondition true) s = .next { s with poller := { s.poller with
         bus := .busy, begun := true
         target := if s.poller.state = .broadcasting then 0 else (s.sensor s.poller.turn).address } }) ∧
     (s.transacting = false ∨ s.poller.begun = true ∨ s.canTransact = false ∨ s.firstByte? = none →
       exec (.busStartCondition true) s = .next s) ∧
     exec .busStopCondition s = .next { s with poller := { s.poller with
       bus := .idle, awaitingIdle := false, lossRole := .none } } ∧
     (s.poller.awaitingIdle = true → exec .busIdleTimeout s = .next { s with poller := { s.poller with
       bus := .idle, awaitingIdle := false, lossRole := .none } }) ∧
     (s.poller.awaitingIdle = false → exec .busIdleTimeout s = .next s))

/-- The refusals of SET_SENSOR, in the order of R146; READ_SENSOR and READ_POLL report and change nothing (R146, R147,
R148). An accepted SET_SENSOR writes its entry UNPOLLED and leaves the others; a stopped poller that may now run
starts, and a waiting one that may not stops, its staged records made active; an entry in the middle of its read has
that read discarded; one made unused at its turn, before its read began, is passed over, after the last to the
evaluation (R146, R149, R153, R156, R163; log 40; between a loss and its retry the model's choice, log 38). SET_POLL
stores the run setting and each number brought into its range; the poller starts from STOPPED and stops from WAITING
by the run condition, and a round in progress runs on (R148, R149, R163). RUN 0 and STOP 1 and the byte of the overran
flag are log 15, the zone 0 of an unused entry is log 34, and the widths of READ_SENSOR's fields that Table 10-3
leaves open are log 14. -/
def Obligations.SensorsAndPollAreSetAndRead : Prop :=
  (∀ (s : State) (n a z : Nat), s.free .registry = true →
     (16 ≤ n ∨ (a ≠ 0 ∧ (a < 8 ∨ 119 < a ∨ s.ownAddress a = true ∨ z = 0 ∨ 8 < z)) →
       s.Replies (.setSensor n a z) .registry s ⟨.badField, []⟩) ∧
     (n < 16 → 8 ≤ a → a ≤ 119 → s.ownAddress a = false → 1 ≤ z → z ≤ 8 →
       (∃ e, e < 16 ∧ e ≠ n ∧ (s.sensor e).address = a) →
       s.Replies (.setSensor n a z) .registry s ⟨.duplicate, []⟩) ∧
     (n < 16 → s.Replies (.readSensor n) .registry s ⟨.ok, encodeSensor (s.sensor n)⟩) ∧
     (16 ≤ n → s.Replies (.readSensor n) .registry s ⟨.badField, []⟩) ∧
     s.Replies .readPoll .registry s ⟨.ok, encodePollSettings s.poller.settings ++
       [BitVec.ofNat 8 s.poller.state.number, BitVec.ofNat 8 s.poller.overran.toNat,
        BitVec.ofNat 8 s.configuredCount]⟩) ∧
  (∀ (s : State) (n a z : Nat), s.free .registry = true → s.sensorRefusal n a z = none → ∃ t,
     s.Replies (.setSensor n a z) .registry t ⟨.ok, []⟩ ∧
     t = { s with poller := t.poller, zones := t.zones, attention := t.attention } ∧
     t.poller.settings = s.poller.settings ∧
     (s.poller.state ≠ .reading ∨ s.poller.begun = true ∨ s.poller.turn ≠ n ∨ a ≠ 0 →
       s.poller.state ≠ .reading ∨ s.poller.begun = true ∨ s.configured s.poller.turn = true →
       t.sensor n = SensorEntry.unpolled a (if a = 0 then 0 else z) ∧ (∀ e, e ≠ n → t.sensor e = s.sensor e) ∧
       t.attention = s.attention ∧
       (∀ d, d = (s.poller.discard ||
           (s.poller.begun && decide (s.poller.state = .reading) && decide (s.poller.turn = n))) →
         (s.poller.state = .stopped → t.runCondition = true → t.zones = s.zones ∧
           t.poller = { s.poller with
             sensors := t.poller.sensors, discard := d, state := .waiting, roundTimer := some 0 }) ∧
         (s.poller.state = .waiting → t.runCondition = false →
           t.poller = { s.poller with
             sensors := t.poller.sensors, discard := d, state := .stopped, roundTimer := none } ∧
           (s.tablesCanonical = true → ∀ y, t.zone y =
             { s.zone y with active := (s.zone y).staged.getD (s.zone y).active, staged := none })) ∧
         ((s.poller.state = .stopped ∧ t.runCondition = false) ∨
             (s.poller.state = .waiting ∧ t.runCondition = true) ∨
             (s.poller.state ≠ .stopped ∧ s.poller.state ≠ .waiting) → t.zones = s.zones ∧
           t.poller = { s.poller with sensors := t.poller.sensors, discard := d }))) ∧
     (s.poller.state = .reading → s.poller.begun = false → s.poller.turn = n → a = 0 →
       (∀ k, n < k → k < 16 → s.configured k = true → (∀ j, n < j → j < k → s.configured j = false) →
         t = { s with poller := { s.poller with sensors := t.poller.sensors, turn := k, retries := 0 } } ∧
         t.sensor n = SensorEntry.unpolled 0 0 ∧ ∀ e, e ≠ n → t.sensor e = s.sensor e) ∧
       ((∀ j, n < j → j < 16 → s.configured j = false) →
         t = State.evaluateRound { s.setSensorEntry n (SensorEntry.unpolled 0 0) with
           poller := { (s.setSensorEntry n (SensorEntry.unpolled 0 0)).poller with retries := 0 } }))) ∧
  (∀ (s : State) (r per w : Nat), s.free .registry = true → s.tablesCanonical = true →
     (1 < r → s.Replies (.setPoll r per w) .registry s ⟨.badField, []⟩) ∧
     (r ≤ 1 → ∃ (t : State) (c : PollSettings),
       c = ⟨if r = 0 then .run else .stop, max 10 (min 600 per), max 20 (min 2000 w)⟩ ∧
       s.Replies (.setPoll r per w) .registry t
         ⟨if c.period = per ∧ c.wait = w then .ok else .clamped, encodePollSettings c⟩ ∧
       t = { s with poller := t.poller, zones := t.zones } ∧
       (∀ b, b = (decide (r = 0) && decide (s.configuredCount ≠ 0)) →
         (s.poller.state = .stopped → b = true → t.zones = s.zones ∧
           t.poller = { s.poller with settings := c, state := .waiting, roundTimer := some 0 }) ∧
         (s.poller.state = .waiting → b = false →
           t.poller = { s.poller with settings := c, state := .stopped, roundTimer := none } ∧
           ∀ z, t.zone z = { s.zone z with active := (s.zone z).staged.getD (s.zone z).active, staged := none }) ∧
         ((s.poller.state = .stopped ∧ b = false) ∨ (s.poller.state = .waiting ∧ b = true) ∨
             (s.poller.state ≠ .stopped ∧ s.poller.state ≠ .waiting) →
           t.zones = s.zones ∧ t.poller = { s.poller with settings := c }))))

/-! ## Zones -/

/-- SET_ZONE stores a record of the zone, each field brought into its range: active while the poller is STOPPED and
staged otherwise; a zone outside 1..8 or thresholds out of order are BAD_FIELD (R161, R162). READ_ZONE reports a zone
in 43 bytes and changes nothing; ACK_ALARM acknowledges a RAISED alarm, or one SETTLING from RAISED, and is
NOTHING_TO_ACK for any other (R164, R173). Which counts of READ_ZONE take one byte is log 14, and the numbers of its
bands and alarms and the byte of its BLIND flag log 15. -/
def Obligations.ZonesAreSetReadAndAcknowledged : Prop :=
  (∀ (s : State) (z bl bh hy al ah dr dc g : Nat) (c : ZoneSettings), s.free .registry = true →
     c = ⟨min 1000 bl, min 1000 bh, min 100 hy, min 1000 al, min 1000 ah, max 1 (min 15 dr), max 1 (min 15 dc),
       min 3 g⟩ →
     (z = 0 ∨ 8 < z ∨ c.bandLo < c.alarmLo ∨ c.bandHi < c.bandLo ∨ c.alarmHi < c.bandHi →
       s.Replies (.setZone z bl bh hy al ah dr dc g) .registry s ⟨.badField, []⟩) ∧
     (1 ≤ z → z ≤ 8 → c.alarmLo ≤ c.bandLo → c.bandLo ≤ c.bandHi → c.bandHi ≤ c.alarmHi →
       ∃ t, t = { s with zones := t.zones } ∧ (∀ y, y ≠ z → t.zone y = s.zone y) ∧
         (s.poller.state = .stopped → t.zone z = { s.zone z with active := c } ∧
           s.Replies (.setZone z bl bh hy al ah dr dc g) .registry t ⟨.ok, encodeZoneSettings c⟩) ∧
         (s.poller.state ≠ .stopped → t.zone z = { s.zone z with staged := some c } ∧
           s.Replies (.setZone z bl bh hy al ah dr dc g) .registry t ⟨.staged, encodeZoneSettings c⟩))) ∧
  (∀ (s : State) (z : Nat), s.free .registry = true →
     (z = 0 ∨ 8 < z → s.Replies (.readZone z) .registry s ⟨.badField, []⟩ ∧
       s.Replies (.ackAlarm z) .registry s ⟨.badField, []⟩) ∧
     (1 ≤ z → z ≤ 8 →
       (s.Replies (.readZone z) .registry s ⟨.ok, s.encodeZone z⟩ ∧ (s.encodeZone z).length = 43) ∧
       (∀ a b, ((∃ d, a = Alarm.raised d ∧ b = .acknowledged d) ∨
           ∃ d n, a = Alarm.settling d n false ∧ b = .settling d n true) → (s.zone z).alarm = a →
         ∃ t, s.Replies (.ackAlarm z) .registry t ⟨.ok, []⟩ ∧ t = { s with zones := t.zones } ∧
           t.zone z = { s.zone z with alarm := b } ∧ ∀ y, y ≠ z → t.zone y = s.zone y) ∧
       (((s.zone z).alarm = .clear ∨ (∃ d n, (s.zone z).alarm = .pending d n) ∨
           (∃ d, (s.zone z).alarm = .acknowledged d) ∨ ∃ d n, (s.zone z).alarm = .settling d n true) →
         s.Replies (.ackAlarm z) .registry s ⟨.nothingToAck, []⟩)))

/-- The band table: each crossing, with the hysteresis a band is left by (R169). The alarm's moves at an evaluation,
for both directions (R170, R171, R172). ALARM is latched by every entry into RAISED and by the end of an alarm that
stood (one that clears at once with a dwell_clear of 1 among them: the model's reading, log 21), SENSOR by every
change of BLIND, and the ALARM line stands while some alarm is RAISED (R168, R174). A zone is brush-suspended while
its alarm stands HIGH, or while one of its gang's does; zone 0 never is (R175). -/
def Obligations.BandsAndAlarmsFollowTheirTables : Prop :=
  (∀ (c : ZoneSettings) (v : Nat) (b : Band), c.inOrder = true →
     (b ≠ .high → c.bandHi < v → judgeBand c b v = .high) ∧
     (b ≠ .low → v < c.bandLo → judgeBand c b v = .low) ∧
     (b = .unknown ∨ b = .inBand → c.bandLo ≤ v → v ≤ c.bandHi → judgeBand c b v = .inBand) ∧
     (b = .high → c.bandLo ≤ v → v + c.hysteresis ≤ c.bandHi → judgeBand c b v = .inBand) ∧
     (b = .high → c.bandLo ≤ v → c.bandHi < v + c.hysteresis → judgeBand c b v = .high) ∧
     (b = .low → v ≤ c.bandHi → c.bandLo + c.hysteresis ≤ v → judgeBand c b v = .inBand) ∧
     (b = .low → v ≤ c.bandHi → v < c.bandLo + c.hysteresis → judgeBand c b v = .low)) ∧
  (∀ (c : ZoneSettings) (v n : Nat) (k : Bool), c.inOrder = true → v ≤ 1000 →
     (c.alarmHi < v →
       judgeAlarm c .clear v = (if c.dwellRaise ≤ 1 then .raised .high else .pending .high 1) ∧
       judgeAlarm c (.pending .high n) v = (if c.dwellRaise ≤ n + 1 then .raised .high else .pending .high (n + 1)) ∧
       judgeAlarm c (.raised .high) v = .raised .high ∧ judgeAlarm c (.acknowledged .high) v = .acknowledged .high ∧
       judgeAlarm c (.settling .high n k) v = (if k = true then .acknowledged .high else .raised .high) ∧
       judgeAlarm c (.pending .low n) v = .raised .high ∧ judgeAlarm c (.raised .low) v = .raised .high ∧
       judgeAlarm c (.acknowledged .low) v = .raised .high ∧ judgeAlarm c (.settling .low n k) v = .raised .high) ∧
     (c.alarmLo ≤ v → v ≤ c.alarmHi → judgeAlarm c .clear v = .clear) ∧
     (c.alarmLo ≤ v → v + c.hysteresis ≤ c.alarmHi →
       judgeAlarm c (.pending .high n) v = .clear ∧
       judgeAlarm c (.raised .high) v = (if c.dwellClear ≤ 1 then .clear else .settling .high 1 false) ∧
       judgeAlarm c (.acknowledged .high) v = (if c.dwellClear ≤ 1 then .clear else .settling .high 1 true) ∧
       judgeAlarm c (.settling .high n k) v =
         (if c.dwellClear ≤ n + 1 then .clear else .settling .high (n + 1) k)) ∧
     (c.alarmLo ≤ v → v ≤ c.alarmHi → c.alarmHi < v + c.hysteresis →
       judgeAlarm c (.pending .high n) v = (if c.dwellRaise ≤ n + 1 then .raised .high else .pending .high (n + 1)) ∧
       judgeAlarm c (.raised .high) v = .raised .high ∧ judgeAlarm c (.acknowledged .high) v = .acknowledged .high ∧
       judgeAlarm c (.settling .high n k) v = .settling .high n k) ∧
     (v < c.alarmLo →
       judgeAlarm c .clear v = (if c.dwellRaise ≤ 1 then .raised .low else .pending .low 1) ∧
       judgeAlarm c (.pending .low n) v = (if c.dwellRaise ≤ n + 1 then .raised .low else .pending .low (n + 1)) ∧
       judgeAlarm c (.raised .low) v = .raised .low ∧ judgeAlarm c (.acknowledged .low) v = .acknowledged .low ∧
       judgeAlarm c (.settling .low n k) v = (if k = true then .acknowledged .low else .raised .low) ∧
       judgeAlarm c (.pending .high n) v = .raised .low ∧ judgeAlarm c (.raised .high) v = .raised .low ∧
       judgeAlarm c (.acknowledged .high) v = .raised .low ∧ judgeAlarm c (.settling .high n k) v = .raised .low) ∧
     (v ≤ c.alarmHi → c.alarmLo + c.hysteresis ≤ v →
       judgeAlarm c (.pending .low n) v = .clear ∧
       judgeAlarm c (.raised .low) v = (if c.dwellClear ≤ 1 then .clear else .settling .low 1 false) ∧
       judgeAlarm c (.acknowledged .low) v = (if c.dwellClear ≤ 1 then .clear else .settling .low 1 true) ∧
       judgeAlarm c (.settling .low n k) v =
         (if c.dwellClear ≤ n + 1 then .clear else .settling .low (n + 1) k)) ∧
     (c.alarmLo ≤ v → v ≤ c.alarmHi → v < c.alarmLo + c.hysteresis →
       judgeAlarm c (.pending .low n) v = (if c.dwellRaise ≤ n + 1 then .raised .low else .pending .low (n + 1)) ∧
       judgeAlarm c (.raised .low) v = .raised .low ∧ judgeAlarm c (.acknowledged .low) v = .acknowledged .low ∧
       judgeAlarm c (.settling .low n k) v = .settling .low n k)) ∧
  (∀ (s : State) (z : Nat) (b t : Zone), b = s.zone z → t = b.judge (s.zoneInputs z) →
     (s.judgeZone z).zone z = t ∧
     (s.judgeZone z).attention.pending = s.attention.pending |||
       (if b.blind = t.blind then 0x00#8 else 0x04#8) |||
       (if alarmLatches b.alarm t.alarm = true then 0x02#8 else 0x00#8) ∧
     (∀ x y : Alarm, alarmLatches x y = true ↔ (∃ d, y = .raised d ∧ x ≠ .raised d) ∨
       (y = .clear ∧ x ≠ .clear ∧ ∀ d n, x ≠ .pending d n)) ∧
     (s.alarmAsserted = true ↔ s.operating = true ∧ ∃ y d, 1 ≤ y ∧ y ≤ 8 ∧ (s.zone y).alarm = .raised d)) ∧
  (∀ (s : State) (z : Nat), s.brushSuspended 0 = false ∧
     (1 ≤ z → z ≤ 8 → (s.brushSuspended z = true ↔ (s.zone z).alarm.suspends = true ∨
       ((s.zone z).active.gang ≠ 0 ∧ ∃ y, 1 ≤ y ∧ y ≤ 8 ∧ y ≠ z ∧ (s.zone y).active.gang = (s.zone z).active.gang ∧
         (s.zone y).alarm.suspends = true))) ∧
     (∀ a : Alarm, a.suspends = true ↔ a = .raised .high ∨ a = .acknowledged .high ∨ ∃ n k, a = .settling .high n k))
end

