-- ==== Sys2Proof/Laws/State.lean ====
section
/-! SUPPORT. For each update of the state, the fields it leaves alone: one conjunct per field, each a simp lemma. -/

namespace Sys2Proof.Machine

@[simp] theorem State.setRecord_fields (s : State) (i : Nat) (r : WheelRecord) :
    (s.setRecord i r).shelf = s.shelf ∧ (s.setRecord i r).classes = s.classes ∧ (s.setRecord i r).sweep = s.sweep ∧
    (s.setRecord i r).candidates = s.candidates ∧ (s.setRecord i r).dispatcher = s.dispatcher ∧
    (s.setRecord i r).relocations = s.relocations ∧ (s.setRecord i r).census = s.census ∧
    (s.setRecord i r).discrepancies = s.discrepancies ∧ (s.setRecord i r).poller = s.poller ∧
    (s.setRecord i r).zones = s.zones ∧ (s.setRecord i r).port = s.port ∧ (s.setRecord i r).attention = s.attention ∧
    (s.setRecord i r).clock = s.clock ∧ (s.setRecord i r).supply = s.supply ∧ (s.setRecord i r).pending = s.pending := by
  refine ⟨?_, ?_, ?_, ?_, ?_, ?_, ?_, ?_, ?_, ?_, ?_, ?_, ?_, ?_, ?_⟩ <;> rfl

@[simp] theorem State.updRecord_fields (s : State) (i : Nat) (f : WheelRecord → WheelRecord) :
    (s.updRecord i f).shelf = s.shelf ∧ (s.updRecord i f).classes = s.classes ∧ (s.updRecord i f).sweep = s.sweep ∧
    (s.updRecord i f).candidates = s.candidates ∧ (s.updRecord i f).dispatcher = s.dispatcher ∧
    (s.updRecord i f).relocations = s.relocations ∧ (s.updRecord i f).census = s.census ∧
    (s.updRecord i f).discrepancies = s.discrepancies ∧ (s.updRecord i f).poller = s.poller ∧
    (s.updRecord i f).zones = s.zones ∧ (s.updRecord i f).port = s.port ∧ (s.updRecord i f).attention = s.attention ∧
    (s.updRecord i f).clock = s.clock ∧ (s.updRecord i f).supply = s.supply ∧ (s.updRecord i f).pending = s.pending := by
  unfold State.updRecord
  refine ⟨?_, ?_, ?_, ?_, ?_, ?_, ?_, ?_, ?_, ?_, ?_, ?_, ?_, ?_, ?_⟩ <;> (repeat' split) <;> simp

@[simp] theorem State.updSlot_fields (s : State) (p : Nat) (f : SlotRecord → SlotRecord) :
    (s.updSlot p f).registry = s.registry ∧ (s.updSlot p f).classes = s.classes ∧ (s.updSlot p f).sweep = s.sweep ∧
    (s.updSlot p f).candidates = s.candidates ∧ (s.updSlot p f).dispatcher = s.dispatcher ∧
    (s.updSlot p f).relocations = s.relocations ∧ (s.updSlot p f).census = s.census ∧
    (s.updSlot p f).discrepancies = s.discrepancies ∧ (s.updSlot p f).poller = s.poller ∧
    (s.updSlot p f).zones = s.zones ∧ (s.updSlot p f).port = s.port ∧ (s.updSlot p f).attention = s.attention ∧
    (s.updSlot p f).clock = s.clock ∧ (s.updSlot p f).supply = s.supply ∧ (s.updSlot p f).pending = s.pending := by
  refine ⟨?_, ?_, ?_, ?_, ?_, ?_, ?_, ?_, ?_, ?_, ?_, ?_, ?_, ?_, ?_⟩ <;> rfl

@[simp] theorem State.setZone_fields (s : State) (z : Nat) (v : Zone) :
    (s.setZone z v).registry = s.registry ∧ (s.setZone z v).shelf = s.shelf ∧ (s.setZone z v).classes = s.classes ∧
    (s.setZone z v).sweep = s.sweep ∧ (s.setZone z v).candidates = s.candidates ∧
    (s.setZone z v).dispatcher = s.dispatcher ∧ (s.setZone z v).relocations = s.relocations ∧
    (s.setZone z v).census = s.census ∧ (s.setZone z v).discrepancies = s.discrepancies ∧
    (s.setZone z v).poller = s.poller ∧ (s.setZone z v).port = s.port ∧ (s.setZone z v).attention = s.attention ∧
    (s.setZone z v).clock = s.clock ∧ (s.setZone z v).supply = s.supply ∧ (s.setZone z v).pending = s.pending := by
  refine ⟨?_, ?_, ?_, ?_, ?_, ?_, ?_, ?_, ?_, ?_, ?_, ?_, ?_, ?_, ?_⟩ <;> rfl

@[simp] theorem State.setSensorEntry_fields (s : State) (e : Nat) (v : SensorEntry) :
    (s.setSensorEntry e v).registry = s.registry ∧ (s.setSensorEntry e v).shelf = s.shelf ∧
    (s.setSensorEntry e v).classes = s.classes ∧ (s.setSensorEntry e v).sweep = s.sweep ∧
    (s.setSensorEntry e v).candidates = s.candidates ∧ (s.setSensorEntry e v).dispatcher = s.dispatcher ∧
    (s.setSensorEntry e v).relocations = s.relocations ∧ (s.setSensorEntry e v).census = s.census ∧
    (s.setSensorEntry e v).discrepancies = s.discrepancies ∧ (s.setSensorEntry e v).zones = s.zones ∧
    (s.setSensorEntry e v).port = s.port ∧ (s.setSensorEntry e v).attention = s.attention ∧
    (s.setSensorEntry e v).clock = s.clock ∧ (s.setSensorEntry e v).supply = s.supply ∧
    (s.setSensorEntry e v).pending = s.pending := by
  refine ⟨?_, ?_, ?_, ?_, ?_, ?_, ?_, ?_, ?_, ?_, ?_, ?_, ?_, ?_, ?_⟩ <;> rfl

@[simp] theorem State.latch_fields (s : State) (k : AttentionKind) :
    (s.latch k).registry = s.registry ∧ (s.latch k).shelf = s.shelf ∧ (s.latch k).classes = s.classes ∧
    (s.latch k).sweep = s.sweep ∧ (s.latch k).candidates = s.candidates ∧ (s.latch k).dispatcher = s.dispatcher ∧
    (s.latch k).relocations = s.relocations ∧ (s.latch k).census = s.census ∧
    (s.latch k).discrepancies = s.discrepancies ∧ (s.latch k).poller = s.poller ∧ (s.latch k).zones = s.zones ∧
    (s.latch k).port = s.port ∧ (s.latch k).clock = s.clock ∧ (s.latch k).supply = s.supply ∧
    (s.latch k).pending = s.pending := by
  refine ⟨?_, ?_, ?_, ?_, ?_, ?_, ?_, ?_, ?_, ?_, ?_, ?_, ?_, ?_, ?_⟩ <;> rfl

@[simp] theorem State.dropCandidate_fields (s : State) (i : Nat) :
    (s.dropCandidate i).registry = s.registry ∧ (s.dropCandidate i).shelf = s.shelf ∧
    (s.dropCandidate i).classes = s.classes ∧ (s.dropCandidate i).sweep = s.sweep ∧
    (s.dropCandidate i).dispatcher = s.dispatcher ∧ (s.dropCandidate i).relocations = s.relocations ∧
    (s.dropCandidate i).census = s.census ∧ (s.dropCandidate i).discrepancies = s.discrepancies ∧
    (s.dropCandidate i).poller = s.poller ∧ (s.dropCandidate i).zones = s.zones ∧ (s.dropCandidate i).port = s.port ∧
    (s.dropCandidate i).attention = s.attention ∧ (s.dropCandidate i).clock = s.clock ∧
    (s.dropCandidate i).supply = s.supply ∧ (s.dropCandidate i).pending = s.pending := by
  refine ⟨?_, ?_, ?_, ?_, ?_, ?_, ?_, ?_, ?_, ?_, ?_, ?_, ?_, ?_, ?_⟩ <;> rfl

@[simp] theorem State.addHold_fields (s : State) (i : Nat) (h : HoldReason) :
    (s.addHold i h).shelf = s.shelf ∧ (s.addHold i h).classes = s.classes ∧ (s.addHold i h).sweep = s.sweep ∧
    (s.addHold i h).dispatcher = s.dispatcher ∧ (s.addHold i h).relocations = s.relocations ∧
    (s.addHold i h).census = s.census ∧ (s.addHold i h).discrepancies = s.discrepancies ∧
    (s.addHold i h).poller = s.poller ∧ (s.addHold i h).zones = s.zones ∧ (s.addHold i h).port = s.port ∧
    (s.addHold i h).attention = s.attention ∧ (s.addHold i h).clock = s.clock ∧ (s.addHold i h).supply = s.supply ∧
    (s.addHold i h).pending = s.pending := by
  unfold State.addHold
  refine ⟨?_, ?_, ?_, ?_, ?_, ?_, ?_, ?_, ?_, ?_, ?_, ?_, ?_, ?_⟩ <;> (repeat' split) <;> simp

@[simp] theorem State.removeHold_fields (s : State) (i : Nat) (h : HoldReason) :
    (s.removeHold i h).shelf = s.shelf ∧ (s.removeHold i h).classes = s.classes ∧
    (s.removeHold i h).sweep = s.sweep ∧ (s.removeHold i h).candidates = s.candidates ∧
    (s.removeHold i h).dispatcher = s.dispatcher ∧ (s.removeHold i h).relocations = s.relocations ∧
    (s.removeHold i h).census = s.census ∧ (s.removeHold i h).discrepancies = s.discrepancies ∧
    (s.removeHold i h).poller = s.poller ∧ (s.removeHold i h).zones = s.zones ∧ (s.removeHold i h).port = s.port ∧
    (s.removeHold i h).attention = s.attention ∧ (s.removeHold i h).clock = s.clock ∧
    (s.removeHold i h).supply = s.supply ∧ (s.removeHold i h).pending = s.pending := by
  unfold State.removeHold
  refine ⟨?_, ?_, ?_, ?_, ?_, ?_, ?_, ?_, ?_, ?_, ?_, ?_, ?_, ?_, ?_⟩ <;> simp

@[simp] theorem State.setClaim_fields (s : State) (i : Nat) (c : Claim) :
    (s.setClaim i c).shelf = s.shelf ∧ (s.setClaim i c).classes = s.classes ∧ (s.setClaim i c).sweep = s.sweep ∧
    (s.setClaim i c).candidates = s.candidates ∧ (s.setClaim i c).dispatcher = s.dispatcher ∧
    (s.setClaim i c).relocations = s.relocations ∧ (s.setClaim i c).census = s.census ∧
    (s.setClaim i c).discrepancies = s.discrepancies ∧ (s.setClaim i c).poller = s.poller ∧
    (s.setClaim i c).zones = s.zones ∧ (s.setClaim i c).port = s.port ∧ (s.setClaim i c).attention = s.attention ∧
    (s.setClaim i c).clock = s.clock ∧ (s.setClaim i c).supply = s.supply ∧ (s.setClaim i c).pending = s.pending := by
  unfold State.setClaim
  refine ⟨?_, ?_, ?_, ?_, ?_, ?_, ?_, ?_, ?_, ?_, ?_, ?_, ?_, ?_, ?_⟩ <;> simp

@[simp] theorem State.setOverdue_fields (s : State) (i : Nat) (b : Bool) :
    (s.setOverdue i b).shelf = s.shelf ∧ (s.setOverdue i b).classes = s.classes ∧
    (s.setOverdue i b).sweep = s.sweep ∧ (s.setOverdue i b).candidates = s.candidates ∧
    (s.setOverdue i b).dispatcher = s.dispatcher ∧ (s.setOverdue i b).relocations = s.relocations ∧
    (s.setOverdue i b).census = s.census ∧ (s.setOverdue i b).discrepancies = s.discrepancies ∧
    (s.setOverdue i b).poller = s.poller ∧ (s.setOverdue i b).zones = s.zones ∧ (s.setOverdue i b).port = s.port ∧
    (s.setOverdue i b).clock = s.clock ∧ (s.setOverdue i b).supply = s.supply ∧
    (s.setOverdue i b).pending = s.pending := by
  unfold State.setOverdue
  refine ⟨?_, ?_, ?_, ?_, ?_, ?_, ?_, ?_, ?_, ?_, ?_, ?_, ?_, ?_⟩ <;> (repeat' split) <;> simp

@[simp] theorem State.unlocate_fields (s : State) (i : Nat) :
    (s.unlocate i).classes = s.classes ∧ (s.unlocate i).sweep = s.sweep ∧ (s.unlocate i).candidates = s.candidates ∧
    (s.unlocate i).dispatcher = s.dispatcher ∧ (s.unlocate i).relocations = s.relocations ∧
    (s.unlocate i).census = s.census ∧ (s.unlocate i).discrepancies = s.discrepancies ∧
    (s.unlocate i).poller = s.poller ∧ (s.unlocate i).zones = s.zones ∧ (s.unlocate i).port = s.port ∧
    (s.unlocate i).attention = s.attention ∧ (s.unlocate i).clock = s.clock ∧ (s.unlocate i).supply = s.supply ∧
    (s.unlocate i).pending = s.pending := by
  unfold State.unlocate
  refine ⟨?_, ?_, ?_, ?_, ?_, ?_, ?_, ?_, ?_, ?_, ?_, ?_, ?_, ?_⟩ <;> (repeat' split) <;> simp

@[simp] theorem State.locate_fields (s : State) (i p : Nat) :
    (s.locate i p).classes = s.classes ∧ (s.locate i p).sweep = s.sweep ∧ (s.locate i p).candidates = s.candidates ∧
    (s.locate i p).dispatcher = s.dispatcher ∧ (s.locate i p).relocations = s.relocations ∧
    (s.locate i p).census = s.census ∧ (s.locate i p).discrepancies = s.discrepancies ∧
    (s.locate i p).poller = s.poller ∧ (s.locate i p).zones = s.zones ∧ (s.locate i p).port = s.port ∧
    (s.locate i p).attention = s.attention ∧ (s.locate i p).clock = s.clock ∧ (s.locate i p).supply = s.supply ∧
    (s.locate i p).pending = s.pending := by
  unfold State.locate
  refine ⟨?_, ?_, ?_, ?_, ?_, ?_, ?_, ?_, ?_, ?_, ?_, ?_, ?_, ?_⟩ <;> simp

@[simp] theorem State.locateAt_fields (s : State) (i : Nat) (p : Option Nat) :
    (s.locateAt i p).classes = s.classes ∧ (s.locateAt i p).sweep = s.sweep ∧
    (s.locateAt i p).candidates = s.candidates ∧ (s.locateAt i p).dispatcher = s.dispatcher ∧
    (s.locateAt i p).relocations = s.relocations ∧ (s.locateAt i p).census = s.census ∧
    (s.locateAt i p).discrepancies = s.discrepancies ∧ (s.locateAt i p).poller = s.poller ∧
    (s.locateAt i p).zones = s.zones ∧ (s.locateAt i p).port = s.port ∧ (s.locateAt i p).attention = s.attention ∧
    (s.locateAt i p).clock = s.clock ∧ (s.locateAt i p).supply = s.supply ∧ (s.locateAt i p).pending = s.pending := by
  unfold State.locateAt
  refine ⟨?_, ?_, ?_, ?_, ?_, ?_, ?_, ?_, ?_, ?_, ?_, ?_, ?_, ?_⟩ <;> (repeat' split) <;> simp

@[simp] theorem State.moveRecord_fields (s : State) (i : Nat) (p : Option Nat) :
    (s.moveRecord i p).classes = s.classes ∧ (s.moveRecord i p).sweep = s.sweep ∧
    (s.moveRecord i p).dispatcher = s.dispatcher ∧ (s.moveRecord i p).relocations = s.relocations ∧
    (s.moveRecord i p).census = s.census ∧ (s.moveRecord i p).discrepancies = s.discrepancies ∧
    (s.moveRecord i p).poller = s.poller ∧ (s.moveRecord i p).zones = s.zones ∧ (s.moveRecord i p).port = s.port ∧
    (s.moveRecord i p).attention = s.attention ∧ (s.moveRecord i p).clock = s.clock ∧
    (s.moveRecord i p).supply = s.supply ∧ (s.moveRecord i p).pending = s.pending := by
  unfold State.moveRecord
  refine ⟨?_, ?_, ?_, ?_, ?_, ?_, ?_, ?_, ?_, ?_, ?_, ?_, ?_⟩ <;> simp

@[simp] theorem State.reach_fields (s : State) (p : Nat) :
    (s.reach p).registry = s.registry ∧ (s.reach p).classes = s.classes ∧ (s.reach p).sweep = s.sweep ∧
    (s.reach p).candidates = s.candidates ∧ (s.reach p).dispatcher = s.dispatcher ∧
    (s.reach p).relocations = s.relocations ∧ (s.reach p).census = s.census ∧
    (s.reach p).discrepancies = s.discrepancies ∧ (s.reach p).poller = s.poller ∧ (s.reach p).zones = s.zones ∧
    (s.reach p).port = s.port ∧ (s.reach p).attention = s.attention ∧ (s.reach p).clock = s.clock ∧
    (s.reach p).supply = s.supply ∧ (s.reach p).pending = s.pending := by
  refine ⟨?_, ?_, ?_, ?_, ?_, ?_, ?_, ?_, ?_, ?_, ?_, ?_, ?_, ?_, ?_⟩ <;> rfl

@[simp] theorem State.unreachable_fields (s : State) (p : Nat) :
    (s.unreachable p).classes = s.classes ∧ (s.unreachable p).sweep = s.sweep ∧
    (s.unreachable p).dispatcher = s.dispatcher ∧ (s.unreachable p).relocations = s.relocations ∧
    (s.unreachable p).census = s.census ∧ (s.unreachable p).discrepancies = s.discrepancies ∧
    (s.unreachable p).poller = s.poller ∧ (s.unreachable p).zones = s.zones ∧ (s.unreachable p).port = s.port ∧
    (s.unreachable p).clock = s.clock ∧ (s.unreachable p).supply = s.supply ∧ (s.unreachable p).pending = s.pending := by
  unfold State.unreachable
  dsimp only
  refine ⟨?_, ?_, ?_, ?_, ?_, ?_, ?_, ?_, ?_, ?_, ?_, ?_⟩ <;> (repeat' split) <;> simp

@[simp] theorem State.endRelocation_fields (s : State) (h : Nat) :
    (s.endRelocation h).classes = s.classes ∧ (s.endRelocation h).sweep = s.sweep ∧
    (s.endRelocation h).candidates = s.candidates ∧ (s.endRelocation h).dispatcher = s.dispatcher ∧
    (s.endRelocation h).census = s.census ∧ (s.endRelocation h).discrepancies = s.discrepancies ∧
    (s.endRelocation h).poller = s.poller ∧ (s.endRelocation h).zones = s.zones ∧ (s.endRelocation h).port = s.port ∧
    (s.endRelocation h).attention = s.attention ∧ (s.endRelocation h).clock = s.clock ∧
    (s.endRelocation h).supply = s.supply ∧ (s.endRelocation h).pending = s.pending := by
  unfold State.endRelocation
  dsimp only
  refine ⟨?_, ?_, ?_, ?_, ?_, ?_, ?_, ?_, ?_, ?_, ?_, ?_, ?_⟩ <;> (repeat' split) <;> simp

@[simp] theorem State.setRelocation_fields (s : State) (h : Nat) (st : RelocationState) :
    (s.setRelocation h st).registry = s.registry ∧ (s.setRelocation h st).shelf = s.shelf ∧
    (s.setRelocation h st).classes = s.classes ∧ (s.setRelocation h st).sweep = s.sweep ∧
    (s.setRelocation h st).candidates = s.candidates ∧ (s.setRelocation h st).dispatcher = s.dispatcher ∧
    (s.setRelocation h st).census = s.census ∧ (s.setRelocation h st).discrepancies = s.discrepancies ∧
    (s.setRelocation h st).poller = s.poller ∧ (s.setRelocation h st).zones = s.zones ∧
    (s.setRelocation h st).port = s.port ∧ (s.setRelocation h st).attention = s.attention ∧
    (s.setRelocation h st).clock = s.clock ∧ (s.setRelocation h st).supply = s.supply ∧
    (s.setRelocation h st).pending = s.pending := by
  refine ⟨?_, ?_, ?_, ?_, ?_, ?_, ?_, ?_, ?_, ?_, ?_, ?_, ?_, ?_, ?_⟩ <;> rfl

@[simp] theorem State.setPort_fields (s : State) (p : PortId) (st : PortState) :
    (s.setPort p st).registry = s.registry ∧ (s.setPort p st).shelf = s.shelf ∧
    (s.setPort p st).classes = s.classes ∧ (s.setPort p st).sweep = s.sweep ∧
    (s.setPort p st).candidates = s.candidates ∧ (s.setPort p st).dispatcher = s.dispatcher ∧
    (s.setPort p st).relocations = s.relocations ∧ (s.setPort p st).census = s.census ∧
    (s.setPort p st).discrepancies = s.discrepancies ∧ (s.setPort p st).poller = s.poller ∧
    (s.setPort p st).zones = s.zones ∧ (s.setPort p st).attention = s.attention ∧ (s.setPort p st).clock = s.clock ∧
    (s.setPort p st).supply = s.supply ∧ (s.setPort p st).pending = s.pending := by
  unfold State.setPort
  refine ⟨?_, ?_, ?_, ?_, ?_, ?_, ?_, ?_, ?_, ?_, ?_, ?_, ?_, ?_, ?_⟩ <;> (repeat' split) <;> simp

@[simp] theorem State.offer_fields (s : State) (c : Candidate) :
    (s.offer c).registry = s.registry ∧ (s.offer c).shelf = s.shelf ∧ (s.offer c).classes = s.classes ∧
    (s.offer c).sweep = s.sweep ∧ (s.offer c).dispatcher = s.dispatcher ∧ (s.offer c).relocations = s.relocations ∧
    (s.offer c).census = s.census ∧ (s.offer c).discrepancies = s.discrepancies ∧ (s.offer c).poller = s.poller ∧
    (s.offer c).zones = s.zones ∧ (s.offer c).port = s.port ∧ (s.offer c).attention = s.attention ∧
    (s.offer c).clock = s.clock ∧ (s.offer c).supply = s.supply ∧ (s.offer c).pending = s.pending := by
  refine ⟨?_, ?_, ?_, ?_, ?_, ?_, ?_, ?_, ?_, ?_, ?_, ?_, ?_, ?_, ?_⟩ <;> rfl

@[simp] theorem State.pruneCandidates_fields (s : State) :
    (s.pruneCandidates).registry = s.registry ∧ (s.pruneCandidates).shelf = s.shelf ∧
    (s.pruneCandidates).classes = s.classes ∧ (s.pruneCandidates).sweep = s.sweep ∧
    (s.pruneCandidates).dispatcher = s.dispatcher ∧ (s.pruneCandidates).relocations = s.relocations ∧
    (s.pruneCandidates).census = s.census ∧ (s.pruneCandidates).discrepancies = s.discrepancies ∧
    (s.pruneCandidates).poller = s.poller ∧ (s.pruneCandidates).zones = s.zones ∧ (s.pruneCandidates).port = s.port ∧
    (s.pruneCandidates).attention = s.attention ∧ (s.pruneCandidates).clock = s.clock ∧
    (s.pruneCandidates).supply = s.supply ∧ (s.pruneCandidates).pending = s.pending := by
  refine ⟨?_, ?_, ?_, ?_, ?_, ?_, ?_, ?_, ?_, ?_, ?_, ?_, ?_, ?_, ?_⟩ <;> rfl

@[simp] theorem State.clearEntry_fields (s : State) (k : Nat) :
    (s.clearEntry k).registry = s.registry ∧ (s.clearEntry k).shelf = s.shelf ∧
    (s.clearEntry k).classes = s.classes ∧ (s.clearEntry k).sweep = s.sweep ∧
    (s.clearEntry k).candidates = s.candidates ∧ (s.clearEntry k).dispatcher = s.dispatcher ∧
    (s.clearEntry k).relocations = s.relocations ∧ (s.clearEntry k).census = s.census ∧
    (s.clearEntry k).poller = s.poller ∧ (s.clearEntry k).zones = s.zones ∧ (s.clearEntry k).port = s.port ∧
    (s.clearEntry k).attention = s.attention ∧ (s.clearEntry k).clock = s.clock ∧
    (s.clearEntry k).supply = s.supply ∧ (s.clearEntry k).pending = s.pending := by
  refine ⟨?_, ?_, ?_, ?_, ?_, ?_, ?_, ?_, ?_, ?_, ?_, ?_, ?_, ?_, ?_⟩ <;> rfl

@[simp] theorem State.updOrder_fields (s : State) (n : Nat) (f : Order → Order) :
    (s.updOrder n f).registry = s.registry ∧ (s.updOrder n f).shelf = s.shelf ∧
    (s.updOrder n f).classes = s.classes ∧ (s.updOrder n f).sweep = s.sweep ∧
    (s.updOrder n f).candidates = s.candidates ∧ (s.updOrder n f).relocations = s.relocations ∧
    (s.updOrder n f).census = s.census ∧ (s.updOrder n f).discrepancies = s.discrepancies ∧
    (s.updOrder n f).poller = s.poller ∧ (s.updOrder n f).zones = s.zones ∧ (s.updOrder n f).port = s.port ∧
    (s.updOrder n f).attention = s.attention ∧ (s.updOrder n f).clock = s.clock ∧
    (s.updOrder n f).supply = s.supply ∧ (s.updOrder n f).pending = s.pending := by
  refine ⟨?_, ?_, ?_, ?_, ?_, ?_, ?_, ?_, ?_, ?_, ?_, ?_, ?_, ?_, ?_⟩ <;> rfl

@[simp] theorem State.dropOrder_fields (s : State) (n : Nat) :
    (s.dropOrder n).registry = s.registry ∧ (s.dropOrder n).shelf = s.shelf ∧ (s.dropOrder n).classes = s.classes ∧
    (s.dropOrder n).sweep = s.sweep ∧ (s.dropOrder n).candidates = s.candidates ∧
    (s.dropOrder n).relocations = s.relocations ∧ (s.dropOrder n).census = s.census ∧
    (s.dropOrder n).discrepancies = s.discrepancies ∧ (s.dropOrder n).poller = s.poller ∧
    (s.dropOrder n).zones = s.zones ∧ (s.dropOrder n).port = s.port ∧ (s.dropOrder n).attention = s.attention ∧
    (s.dropOrder n).clock = s.clock ∧ (s.dropOrder n).supply = s.supply ∧ (s.dropOrder n).pending = s.pending := by
  refine ⟨?_, ?_, ?_, ?_, ?_, ?_, ?_, ?_, ?_, ?_, ?_, ?_, ?_, ?_, ?_⟩ <;> rfl

@[simp] theorem State.loadTimer_fields (s : State) (n seconds : Nat) :
    (s.loadTimer n seconds).registry = s.registry ∧ (s.loadTimer n seconds).shelf = s.shelf ∧
    (s.loadTimer n seconds).classes = s.classes ∧ (s.loadTimer n seconds).sweep = s.sweep ∧
    (s.loadTimer n seconds).candidates = s.candidates ∧ (s.loadTimer n seconds).relocations = s.relocations ∧
    (s.loadTimer n seconds).census = s.census ∧ (s.loadTimer n seconds).discrepancies = s.discrepancies ∧
    (s.loadTimer n seconds).poller = s.poller ∧ (s.loadTimer n seconds).zones = s.zones ∧
    (s.loadTimer n seconds).port = s.port ∧ (s.loadTimer n seconds).attention = s.attention ∧
    (s.loadTimer n seconds).clock = s.clock ∧ (s.loadTimer n seconds).supply = s.supply ∧
    (s.loadTimer n seconds).pending = s.pending := by
  refine ⟨?_, ?_, ?_, ?_, ?_, ?_, ?_, ?_, ?_, ?_, ?_, ?_, ?_, ?_, ?_⟩ <;> rfl

@[simp] theorem State.setVisitState_fields (s : State) (n v : Nat) (st : VisitState) :
    (s.setVisitState n v st).registry = s.registry ∧ (s.setVisitState n v st).shelf = s.shelf ∧
    (s.setVisitState n v st).classes = s.classes ∧ (s.setVisitState n v st).sweep = s.sweep ∧
    (s.setVisitState n v st).candidates = s.candidates ∧ (s.setVisitState n v st).relocations = s.relocations ∧
    (s.setVisitState n v st).census = s.census ∧ (s.setVisitState n v st).discrepancies = s.discrepancies ∧
    (s.setVisitState n v st).poller = s.poller ∧ (s.setVisitState n v st).zones = s.zones ∧
    (s.setVisitState n v st).port = s.port ∧ (s.setVisitState n v st).attention = s.attention ∧
    (s.setVisitState n v st).clock = s.clock ∧ (s.setVisitState n v st).supply = s.supply ∧
    (s.setVisitState n v st).pending = s.pending := by
  refine ⟨?_, ?_, ?_, ?_, ?_, ?_, ?_, ?_, ?_, ?_, ?_, ?_, ?_, ?_, ?_⟩ <;> rfl

@[simp] theorem State.setDispatchState_fields (s : State) (d : DispatchState) :
    (s.setDispatchState d).registry = s.registry ∧ (s.setDispatchState d).shelf = s.shelf ∧
    (s.setDispatchState d).classes = s.classes ∧ (s.setDispatchState d).sweep = s.sweep ∧
    (s.setDispatchState d).candidates = s.candidates ∧ (s.setDispatchState d).relocations = s.relocations ∧
    (s.setDispatchState d).census = s.census ∧ (s.setDispatchState d).discrepancies = s.discrepancies ∧
    (s.setDispatchState d).poller = s.poller ∧ (s.setDispatchState d).zones = s.zones ∧
    (s.setDispatchState d).port = s.port ∧ (s.setDispatchState d).attention = s.attention ∧
    (s.setDispatchState d).clock = s.clock ∧ (s.setDispatchState d).supply = s.supply ∧
    (s.setDispatchState d).pending = s.pending := by
  refine ⟨?_, ?_, ?_, ?_, ?_, ?_, ?_, ?_, ?_, ?_, ?_, ?_, ?_, ?_, ?_⟩ <;> rfl

@[simp] theorem State.emptyDirected_fields (s : State) :
    (s.emptyDirected).registry = s.registry ∧ (s.emptyDirected).shelf = s.shelf ∧
    (s.emptyDirected).classes = s.classes ∧ (s.emptyDirected).sweep = s.sweep ∧
    (s.emptyDirected).candidates = s.candidates ∧ (s.emptyDirected).dispatcher = s.dispatcher ∧
    (s.emptyDirected).relocations = s.relocations ∧ (s.emptyDirected).discrepancies = s.discrepancies ∧
    (s.emptyDirected).poller = s.poller ∧ (s.emptyDirected).zones = s.zones ∧ (s.emptyDirected).port = s.port ∧
    (s.emptyDirected).attention = s.attention ∧ (s.emptyDirected).clock = s.clock ∧
    (s.emptyDirected).supply = s.supply ∧ (s.emptyDirected).pending = s.pending := by
  refine ⟨?_, ?_, ?_, ?_, ?_, ?_, ?_, ?_, ?_, ?_, ?_, ?_, ?_, ?_, ?_⟩ <;> rfl

@[simp] theorem State.setEngaged_fields (s : State) (p : Nat) (b : Bool) :
    (s.setEngaged p b).registry = s.registry ∧ (s.setEngaged p b).classes = s.classes ∧
    (s.setEngaged p b).sweep = s.sweep ∧ (s.setEngaged p b).candidates = s.candidates ∧
    (s.setEngaged p b).dispatcher = s.dispatcher ∧ (s.setEngaged p b).relocations = s.relocations ∧
    (s.setEngaged p b).census = s.census ∧ (s.setEngaged p b).discrepancies = s.discrepancies ∧
    (s.setEngaged p b).poller = s.poller ∧ (s.setEngaged p b).zones = s.zones ∧ (s.setEngaged p b).port = s.port ∧
    (s.setEngaged p b).attention = s.attention ∧ (s.setEngaged p b).clock = s.clock ∧
    (s.setEngaged p b).supply = s.supply ∧ (s.setEngaged p b).pending = s.pending := by
  refine ⟨?_, ?_, ?_, ?_, ?_, ?_, ?_, ?_, ?_, ?_, ?_, ?_, ?_, ?_, ?_⟩ <;> rfl

@[simp] theorem State.setDestEngaged_fields (s : State) (d : Option Nat) (b : Bool) :
    (s.setDestEngaged d b).registry = s.registry ∧ (s.setDestEngaged d b).classes = s.classes ∧
    (s.setDestEngaged d b).sweep = s.sweep ∧ (s.setDestEngaged d b).candidates = s.candidates ∧
    (s.setDestEngaged d b).dispatcher = s.dispatcher ∧ (s.setDestEngaged d b).relocations = s.relocations ∧
    (s.setDestEngaged d b).census = s.census ∧ (s.setDestEngaged d b).discrepancies = s.discrepancies ∧
    (s.setDestEngaged d b).poller = s.poller ∧ (s.setDestEngaged d b).zones = s.zones ∧
    (s.setDestEngaged d b).port = s.port ∧ (s.setDestEngaged d b).attention = s.attention ∧
    (s.setDestEngaged d b).clock = s.clock ∧ (s.setDestEngaged d b).supply = s.supply ∧
    (s.setDestEngaged d b).pending = s.pending := by
  unfold State.setDestEngaged
  refine ⟨?_, ?_, ?_, ?_, ?_, ?_, ?_, ?_, ?_, ?_, ?_, ?_, ?_, ?_, ?_⟩ <;> (repeat' split) <;> simp

@[simp] theorem State.engageVisit_fields (s : State) (v : Visit) :
    (s.engageVisit v).classes = s.classes ∧ (s.engageVisit v).sweep = s.sweep ∧
    (s.engageVisit v).dispatcher = s.dispatcher ∧ (s.engageVisit v).census = s.census ∧
    (s.engageVisit v).discrepancies = s.discrepancies ∧ (s.engageVisit v).poller = s.poller ∧
    (s.engageVisit v).zones = s.zones ∧ (s.engageVisit v).port = s.port ∧ (s.engageVisit v).attention = s.attention ∧
    (s.engageVisit v).clock = s.clock ∧ (s.engageVisit v).supply = s.supply ∧ (s.engageVisit v).pending = s.pending := by
  unfold State.engageVisit
  dsimp only
  refine ⟨?_, ?_, ?_, ?_, ?_, ?_, ?_, ?_, ?_, ?_, ?_, ?_⟩ <;> (repeat' split) <;> simp

@[simp] theorem State.releaseVisit_fields (s : State) (v : Visit) :
    (s.releaseVisit v).classes = s.classes ∧ (s.releaseVisit v).sweep = s.sweep ∧
    (s.releaseVisit v).candidates = s.candidates ∧ (s.releaseVisit v).dispatcher = s.dispatcher ∧
    (s.releaseVisit v).census = s.census ∧ (s.releaseVisit v).discrepancies = s.discrepancies ∧
    (s.releaseVisit v).poller = s.poller ∧ (s.releaseVisit v).zones = s.zones ∧ (s.releaseVisit v).port = s.port ∧
    (s.releaseVisit v).attention = s.attention ∧ (s.releaseVisit v).clock = s.clock ∧
    (s.releaseVisit v).supply = s.supply ∧ (s.releaseVisit v).pending = s.pending := by
  unfold State.releaseVisit
  dsimp only
  refine ⟨?_, ?_, ?_, ?_, ?_, ?_, ?_, ?_, ?_, ?_, ?_, ?_, ?_⟩ <;> (repeat' split) <;> simp

@[simp] theorem State.doubtVisit_fields (s : State) (v : Visit) :
    (s.doubtVisit v).shelf = s.shelf ∧ (s.doubtVisit v).classes = s.classes ∧ (s.doubtVisit v).sweep = s.sweep ∧
    (s.doubtVisit v).dispatcher = s.dispatcher ∧ (s.doubtVisit v).relocations = s.relocations ∧
    (s.doubtVisit v).census = s.census ∧ (s.doubtVisit v).discrepancies = s.discrepancies ∧
    (s.doubtVisit v).poller = s.poller ∧ (s.doubtVisit v).zones = s.zones ∧ (s.doubtVisit v).port = s.port ∧
    (s.doubtVisit v).clock = s.clock ∧ (s.doubtVisit v).supply = s.supply ∧ (s.doubtVisit v).pending = s.pending := by
  unfold State.doubtVisit
  refine ⟨?_, ?_, ?_, ?_, ?_, ?_, ?_, ?_, ?_, ?_, ?_, ?_, ?_⟩ <;> (repeat' split) <;> simp

@[simp] theorem State.releasePair_fields (s : State) (q : Nat × HoldReason) :
    (s.releasePair q).shelf = s.shelf ∧ (s.releasePair q).classes = s.classes ∧ (s.releasePair q).sweep = s.sweep ∧
    (s.releasePair q).candidates = s.candidates ∧ (s.releasePair q).dispatcher = s.dispatcher ∧
    (s.releasePair q).relocations = s.relocations ∧ (s.releasePair q).census = s.census ∧
    (s.releasePair q).discrepancies = s.discrepancies ∧ (s.releasePair q).poller = s.poller ∧
    (s.releasePair q).zones = s.zones ∧ (s.releasePair q).port = s.port ∧ (s.releasePair q).attention = s.attention ∧
    (s.releasePair q).clock = s.clock ∧ (s.releasePair q).supply = s.supply ∧ (s.releasePair q).pending = s.pending := by
  unfold State.releasePair
  refine ⟨?_, ?_, ?_, ?_, ?_, ?_, ?_, ?_, ?_, ?_, ?_, ?_, ?_, ?_, ?_⟩ <;> (repeat' split) <;> simp

@[simp] theorem State.placePair_fields (s : State) (q : Nat × HoldReason) :
    (s.placePair q).shelf = s.shelf ∧ (s.placePair q).classes = s.classes ∧ (s.placePair q).sweep = s.sweep ∧
    (s.placePair q).dispatcher = s.dispatcher ∧ (s.placePair q).relocations = s.relocations ∧
    (s.placePair q).census = s.census ∧ (s.placePair q).discrepancies = s.discrepancies ∧
    (s.placePair q).poller = s.poller ∧ (s.placePair q).zones = s.zones ∧ (s.placePair q).port = s.port ∧
    (s.placePair q).attention = s.attention ∧ (s.placePair q).clock = s.clock ∧ (s.placePair q).supply = s.supply ∧
    (s.placePair q).pending = s.pending := by
  unfold State.placePair
  refine ⟨?_, ?_, ?_, ?_, ?_, ?_, ?_, ?_, ?_, ?_, ?_, ?_, ?_, ?_⟩ <;> (repeat' split) <;> simp

@[simp] theorem State.activateStaged_fields (s : State) :
    (s.activateStaged).registry = s.registry ∧ (s.activateStaged).shelf = s.shelf ∧
    (s.activateStaged).classes = s.classes ∧ (s.activateStaged).sweep = s.sweep ∧
    (s.activateStaged).candidates = s.candidates ∧ (s.activateStaged).dispatcher = s.dispatcher ∧
    (s.activateStaged).relocations = s.relocations ∧ (s.activateStaged).census = s.census ∧
    (s.activateStaged).discrepancies = s.discrepancies ∧ (s.activateStaged).poller = s.poller ∧
    (s.activateStaged).port = s.port ∧ (s.activateStaged).attention = s.attention ∧
    (s.activateStaged).clock = s.clock ∧ (s.activateStaged).supply = s.supply ∧
    (s.activateStaged).pending = s.pending := by
  refine ⟨?_, ?_, ?_, ?_, ?_, ?_, ?_, ?_, ?_, ?_, ?_, ?_, ?_, ?_, ?_⟩ <;> rfl

@[simp] theorem State.startPoller_fields (s : State) :
    (s.startPoller).registry = s.registry ∧ (s.startPoller).shelf = s.shelf ∧ (s.startPoller).classes = s.classes ∧
    (s.startPoller).sweep = s.sweep ∧ (s.startPoller).candidates = s.candidates ∧
    (s.startPoller).dispatcher = s.dispatcher ∧ (s.startPoller).relocations = s.relocations ∧
    (s.startPoller).census = s.census ∧ (s.startPoller).discrepancies = s.discrepancies ∧
    (s.startPoller).zones = s.zones ∧ (s.startPoller).port = s.port ∧ (s.startPoller).attention = s.attention ∧
    (s.startPoller).clock = s.clock ∧ (s.startPoller).supply = s.supply ∧ (s.startPoller).pending = s.pending := by
  refine ⟨?_, ?_, ?_, ?_, ?_, ?_, ?_, ?_, ?_, ?_, ?_, ?_, ?_, ?_, ?_⟩ <;> rfl

@[simp] theorem State.stopPoller_fields (s : State) :
    (s.stopPoller).registry = s.registry ∧ (s.stopPoller).shelf = s.shelf ∧ (s.stopPoller).classes = s.classes ∧
    (s.stopPoller).sweep = s.sweep ∧ (s.stopPoller).candidates = s.candidates ∧
    (s.stopPoller).dispatcher = s.dispatcher ∧ (s.stopPoller).relocations = s.relocations ∧
    (s.stopPoller).census = s.census ∧ (s.stopPoller).discrepancies = s.discrepancies ∧
    (s.stopPoller).port = s.port ∧ (s.stopPoller).attention = s.attention ∧ (s.stopPoller).clock = s.clock ∧
    (s.stopPoller).supply = s.supply ∧ (s.stopPoller).pending = s.pending := by
  refine ⟨?_, ?_, ?_, ?_, ?_, ?_, ?_, ?_, ?_, ?_, ?_, ?_, ?_, ?_⟩ <;> rfl

@[simp] theorem State.endTransaction_fields (s : State) (d : List Byte) :
    (s.endTransaction d).registry = s.registry ∧ (s.endTransaction d).shelf = s.shelf ∧
    (s.endTransaction d).classes = s.classes ∧ (s.endTransaction d).sweep = s.sweep ∧
    (s.endTransaction d).candidates = s.candidates ∧ (s.endTransaction d).dispatcher = s.dispatcher ∧
    (s.endTransaction d).relocations = s.relocations ∧ (s.endTransaction d).census = s.census ∧
    (s.endTransaction d).discrepancies = s.discrepancies ∧ (s.endTransaction d).zones = s.zones ∧
    (s.endTransaction d).port = s.port ∧ (s.endTransaction d).attention = s.attention ∧
    (s.endTransaction d).clock = s.clock ∧ (s.endTransaction d).supply = s.supply ∧
    (s.endTransaction d).pending = s.pending := by
  refine ⟨?_, ?_, ?_, ?_, ?_, ?_, ?_, ?_, ?_, ?_, ?_, ?_, ?_, ?_, ?_⟩ <;> rfl

@[simp] theorem State.countRounds_fields (s : State) :
    (s.countRounds).registry = s.registry ∧ (s.countRounds).shelf = s.shelf ∧ (s.countRounds).classes = s.classes ∧
    (s.countRounds).sweep = s.sweep ∧ (s.countRounds).candidates = s.candidates ∧
    (s.countRounds).dispatcher = s.dispatcher ∧ (s.countRounds).relocations = s.relocations ∧
    (s.countRounds).census = s.census ∧ (s.countRounds).discrepancies = s.discrepancies ∧
    (s.countRounds).zones = s.zones ∧ (s.countRounds).port = s.port ∧ (s.countRounds).attention = s.attention ∧
    (s.countRounds).clock = s.clock ∧ (s.countRounds).supply = s.supply ∧ (s.countRounds).pending = s.pending := by
  refine ⟨?_, ?_, ?_, ?_, ?_, ?_, ?_, ?_, ?_, ?_, ?_, ?_, ?_, ?_, ?_⟩ <;> rfl

@[simp] theorem State.unblockSlot_fields (s : State) (p : Nat) :
    (s.unblockSlot p).classes = s.classes ∧ (s.unblockSlot p).sweep = s.sweep ∧
    (s.unblockSlot p).candidates = s.candidates ∧ (s.unblockSlot p).dispatcher = s.dispatcher ∧
    (s.unblockSlot p).relocations = s.relocations ∧ (s.unblockSlot p).census = s.census ∧
    (s.unblockSlot p).discrepancies = s.discrepancies ∧ (s.unblockSlot p).poller = s.poller ∧
    (s.unblockSlot p).zones = s.zones ∧ (s.unblockSlot p).port = s.port ∧ (s.unblockSlot p).attention = s.attention ∧
    (s.unblockSlot p).clock = s.clock ∧ (s.unblockSlot p).supply = s.supply ∧ (s.unblockSlot p).pending = s.pending := by
  unfold State.unblockSlot
  dsimp only
  refine ⟨?_, ?_, ?_, ?_, ?_, ?_, ?_, ?_, ?_, ?_, ?_, ?_, ?_, ?_⟩ <;> (repeat' split) <;> simp

@[simp] theorem State.judgeZone_fields (s : State) (z : Nat) :
    (s.judgeZone z).registry = s.registry ∧ (s.judgeZone z).shelf = s.shelf ∧ (s.judgeZone z).classes = s.classes ∧
    (s.judgeZone z).sweep = s.sweep ∧ (s.judgeZone z).candidates = s.candidates ∧
    (s.judgeZone z).dispatcher = s.dispatcher ∧ (s.judgeZone z).relocations = s.relocations ∧
    (s.judgeZone z).census = s.census ∧ (s.judgeZone z).discrepancies = s.discrepancies ∧
    (s.judgeZone z).poller = s.poller ∧ (s.judgeZone z).port = s.port ∧ (s.judgeZone z).clock = s.clock ∧
    (s.judgeZone z).supply = s.supply ∧ (s.judgeZone z).pending = s.pending := by
  unfold State.judgeZone
  dsimp only
  refine ⟨?_, ?_, ?_, ?_, ?_, ?_, ?_, ?_, ?_, ?_, ?_, ?_, ?_, ?_⟩ <;> (repeat' split) <;> simp

@[simp] theorem State.acks_fields (s : State) (n : Nat) :
    (s.acks n).registry = s.registry ∧ (s.acks n).shelf = s.shelf ∧ (s.acks n).classes = s.classes ∧
    (s.acks n).sweep = s.sweep ∧ (s.acks n).candidates = s.candidates ∧ (s.acks n).dispatcher = s.dispatcher ∧
    (s.acks n).relocations = s.relocations ∧ (s.acks n).census = s.census ∧
    (s.acks n).discrepancies = s.discrepancies ∧ (s.acks n).poller = s.poller ∧ (s.acks n).zones = s.zones ∧
    (s.acks n).attention = s.attention ∧ (s.acks n).clock = s.clock ∧ (s.acks n).supply = s.supply ∧
    (s.acks n).pending = s.pending := by
  refine ⟨?_, ?_, ?_, ?_, ?_, ?_, ?_, ?_, ?_, ?_, ?_, ?_, ?_, ?_, ?_⟩ <;> rfl

@[simp] theorem State.strapped_fields (s : State) (a b : Bool) :
    (s.strapped a b).registry = s.registry ∧ (s.strapped a b).shelf = s.shelf ∧
    (s.strapped a b).classes = s.classes ∧ (s.strapped a b).sweep = s.sweep ∧
    (s.strapped a b).candidates = s.candidates ∧ (s.strapped a b).dispatcher = s.dispatcher ∧
    (s.strapped a b).relocations = s.relocations ∧ (s.strapped a b).census = s.census ∧
    (s.strapped a b).discrepancies = s.discrepancies ∧ (s.strapped a b).poller = s.poller ∧
    (s.strapped a b).zones = s.zones ∧ (s.strapped a b).port = s.port ∧ (s.strapped a b).attention = s.attention ∧
    (s.strapped a b).clock = s.clock ∧ (s.strapped a b).pending = s.pending := by
  refine ⟨?_, ?_, ?_, ?_, ?_, ?_, ?_, ?_, ?_, ?_, ?_, ?_, ?_, ?_, ?_⟩ <;> rfl

@[simp] theorem State.sendBare_fields (s : State) (st : Status) (n : Nat) :
    (s.sendBare st n).registry = s.registry ∧ (s.sendBare st n).shelf = s.shelf ∧
    (s.sendBare st n).classes = s.classes ∧ (s.sendBare st n).sweep = s.sweep ∧
    (s.sendBare st n).candidates = s.candidates ∧ (s.sendBare st n).dispatcher = s.dispatcher ∧
    (s.sendBare st n).relocations = s.relocations ∧ (s.sendBare st n).census = s.census ∧
    (s.sendBare st n).discrepancies = s.discrepancies ∧ (s.sendBare st n).poller = s.poller ∧
    (s.sendBare st n).zones = s.zones ∧ (s.sendBare st n).attention = s.attention ∧
    (s.sendBare st n).clock = s.clock ∧ (s.sendBare st n).supply = s.supply ∧
    (s.sendBare st n).pending = s.pending := by
  refine ⟨?_, ?_, ?_, ?_, ?_, ?_, ?_, ?_, ?_, ?_, ?_, ?_, ?_, ?_, ?_⟩ <;> rfl

@[simp] theorem State.busIdle_fields (s : State) :
    (s.busIdle).registry = s.registry ∧ (s.busIdle).shelf = s.shelf ∧ (s.busIdle).classes = s.classes ∧
    (s.busIdle).sweep = s.sweep ∧ (s.busIdle).candidates = s.candidates ∧ (s.busIdle).dispatcher = s.dispatcher ∧
    (s.busIdle).relocations = s.relocations ∧ (s.busIdle).census = s.census ∧
    (s.busIdle).discrepancies = s.discrepancies ∧ (s.busIdle).zones = s.zones ∧ (s.busIdle).port = s.port ∧
    (s.busIdle).attention = s.attention ∧ (s.busIdle).clock = s.clock ∧ (s.busIdle).supply = s.supply ∧
    (s.busIdle).pending = s.pending := by
  refine ⟨?_, ?_, ?_, ?_, ?_, ?_, ?_, ?_, ?_, ?_, ?_, ?_, ?_, ?_, ?_⟩ <;> rfl

@[simp] theorem State.takeSlot_fields (s : State) (p : PortId) :
    (s.takeSlot p).registry = s.registry ∧ (s.takeSlot p).shelf = s.shelf ∧ (s.takeSlot p).classes = s.classes ∧
    (s.takeSlot p).sweep = s.sweep ∧ (s.takeSlot p).candidates = s.candidates ∧
    (s.takeSlot p).dispatcher = s.dispatcher ∧ (s.takeSlot p).relocations = s.relocations ∧
    (s.takeSlot p).census = s.census ∧ (s.takeSlot p).discrepancies = s.discrepancies ∧
    (s.takeSlot p).poller = s.poller ∧ (s.takeSlot p).zones = s.zones ∧ (s.takeSlot p).attention = s.attention ∧
    (s.takeSlot p).clock = s.clock ∧ (s.takeSlot p).supply = s.supply ∧ (s.takeSlot p).pending = s.pending := by
  unfold State.takeSlot
  refine ⟨?_, ?_, ?_, ?_, ?_, ?_, ?_, ?_, ?_, ?_, ?_, ?_, ?_, ?_, ?_⟩ <;> simp

@[simp] theorem State.discardKept_fields (s : State) (p : PortId) :
    (s.discardKept p).registry = s.registry ∧ (s.discardKept p).shelf = s.shelf ∧
    (s.discardKept p).classes = s.classes ∧ (s.discardKept p).sweep = s.sweep ∧
    (s.discardKept p).candidates = s.candidates ∧ (s.discardKept p).dispatcher = s.dispatcher ∧
    (s.discardKept p).relocations = s.relocations ∧ (s.discardKept p).census = s.census ∧
    (s.discardKept p).discrepancies = s.discrepancies ∧ (s.discardKept p).poller = s.poller ∧
    (s.discardKept p).zones = s.zones ∧ (s.discardKept p).attention = s.attention ∧
    (s.discardKept p).clock = s.clock ∧ (s.discardKept p).supply = s.supply ∧
    (s.discardKept p).pending = s.pending := by
  unfold State.discardKept
  refine ⟨?_, ?_, ?_, ?_, ?_, ?_, ?_, ?_, ?_, ?_, ?_, ?_, ?_, ?_, ?_⟩ <;> split <;> simp

end Sys2Proof.Machine
end

