-- ==== Sys2Proof/Laws/Table.lean ====
section
/-! SUPPORT. What the table operations do, said once: what each number reads as afterwards, and that each keeps the
canonical form. -/

namespace Sys2Proof.Machine

variable {α : Type}

/-! ## Reading after a change -/

@[simp] theorem Table.read?_nil (i : Nat) : Table.read? ([] : Table α) i = none := rfl

@[simp] theorem Table.read?_cons (k : Nat) (v : α) (t : Table α) (i : Nat) :
    Table.read? ((k, v) :: t) i = if k = i then some v else Table.read? t i := rfl

theorem Table.read?_write (t : Table α) (i j : Nat) (a : α) :
    (t.write i a).read? j = if j = i then some a else t.read? j := by
  induction t with
  | nil => simp only [Table.write, Table.read?_cons, Table.read?_nil, eq_comm]
  | cons e rest ih =>
    obtain ⟨k, v⟩ := e
    simp only [Table.write]
    split
    · simp only [Table.read?_cons]
      grind
    · split
      · simp only [Table.read?_cons]
        grind
      · simp only [Table.read?_cons, ih]
        grind

@[simp] theorem Table.read?_write_self (t : Table α) (i : Nat) (a : α) : (t.write i a).read? i = some a := by
  simp [Table.read?_write]

theorem Table.read?_write_ne (t : Table α) {i j : Nat} (a : α) (h : j ≠ i) : (t.write i a).read? j = t.read? j := by
  simp [Table.read?_write, h]

theorem Table.read?_clear (t : Table α) (i j : Nat) :
    (t.clear i).read? j = if j = i then none else t.read? j := by
  induction t with
  | nil => simp [Table.clear]
  | cons e rest ih =>
    obtain ⟨k, v⟩ := e
    simp only [Table.clear]
    split <;> simp only [Table.read?_cons, ih] <;> grind

@[simp] theorem Table.read?_clear_self (t : Table α) (i : Nat) : (t.clear i).read? i = none := by
  simp [Table.read?_clear]

theorem Table.readD_writeD [DecidableEq α] (t : Table α) (d a : α) (i j : Nat) :
    (t.writeD d i a).readD d j = if j = i then a else t.readD d j := by
  unfold Table.writeD Table.readD
  split
  · simp only [Table.read?_clear]
    grind
  · simp only [Table.read?_write]
    grind

@[simp] theorem Table.readD_writeD_self [DecidableEq α] (t : Table α) (d a : α) (i : Nat) :
    (t.writeD d i a).readD d i = a := by
  simp [Table.readD_writeD]

theorem Table.readD_writeD_ne [DecidableEq α] (t : Table α) (d a : α) {i j : Nat} (h : j ≠ i) :
    (t.writeD d i a).readD d j = t.readD d j := by
  simp [Table.readD_writeD, h]

theorem Table.read?_mapValues (t : Table α) (f : Nat → α → α) (i : Nat) :
    (t.mapValues f).read? i = (t.read? i).map (f i) := by
  induction t with
  | nil => rfl
  | cons e rest ih =>
    obtain ⟨k, v⟩ := e
    simp only [Table.mapValues, List.map_cons, Table.read?_cons] at ih ⊢
    split
    · simp_all
    · exact ih

/-! ## The keys of a table -/

/-- Every number listed in the table is at least `n`. -/
def Table.atLeast (n : Nat) (t : Table α) : Prop := ∀ e ∈ t, n ≤ e.1

theorem Table.ordered_cons (k : Nat) (v : α) (t : Table α) :
    Table.ordered ((k, v) :: t) = true ↔ Table.atLeast (k + 1) t ∧ Table.ordered t = true := by
  induction t generalizing k v with
  | nil => simp [Table.ordered, Table.atLeast]
  | cons e rest ih =>
    obtain ⟨j, b⟩ := e
    have h := ih j b
    simp only [Table.ordered, Bool.and_eq_true, decide_eq_true_eq, h, Table.atLeast, List.mem_cons,
      forall_eq_or_imp]
    constructor
    · rintro ⟨hk, hr, ho⟩
      exact ⟨⟨hk, fun e he => by have := hr e he; omega⟩, hr, ho⟩
    · rintro ⟨⟨hk, _⟩, hr, ho⟩
      exact ⟨hk, hr, ho⟩

theorem Table.mem_write {t : Table α} {i : Nat} {a : α} {e : Nat × α} (h : e ∈ t.write i a) :
    e = (i, a) ∨ e ∈ t := by
  induction t with
  | nil => simpa [Table.write] using h
  | cons x rest ih =>
    obtain ⟨k, v⟩ := x
    simp only [Table.write] at h
    split at h
    · simpa using h
    · split at h
      · rcases List.mem_cons.1 h with h | h
        · exact .inl h
        · exact .inr (List.mem_cons_of_mem _ h)
      · rcases List.mem_cons.1 h with h | h
        · exact .inr (h ▸ List.mem_cons_self ..)
        · rcases ih h with h | h
          · exact .inl h
          · exact .inr (List.mem_cons_of_mem _ h)

theorem Table.mem_clear {t : Table α} {i : Nat} {e : Nat × α} (h : e ∈ t.clear i) : e ∈ t := by
  induction t with
  | nil => simp [Table.clear] at h
  | cons x rest ih =>
    obtain ⟨k, v⟩ := x
    simp only [Table.clear] at h
    split at h
    · exact List.mem_cons_of_mem _ (ih h)
    · rcases List.mem_cons.1 h with h | h
      · exact h ▸ List.mem_cons_self ..
      · exact List.mem_cons_of_mem _ (ih h)

/-! ## The canonical form is kept -/

theorem Table.ordered_write (t : Table α) (i : Nat) (a : α) (h : t.ordered = true) : (t.write i a).ordered = true := by
  induction t with
  | nil => rfl
  | cons e rest ih =>
    obtain ⟨k, v⟩ := e
    obtain ⟨hk, ho⟩ := (Table.ordered_cons k v rest).1 h
    simp only [Table.write]
    split
    · rename_i hik
      refine (Table.ordered_cons i a _).2 ⟨?_, h⟩
      intro e he
      rcases List.mem_cons.1 he with rfl | he
      · exact hik
      · have := hk e he
        omega
    · split
      · rename_i hik
        subst hik
        exact (Table.ordered_cons i a rest).2 ⟨hk, ho⟩
      · refine (Table.ordered_cons k v _).2 ⟨?_, ih ho⟩
        intro e he
        rcases Table.mem_write he with rfl | he
        · show k + 1 ≤ i
          omega
        · exact hk e he

theorem Table.ordered_clear (t : Table α) (i : Nat) (h : t.ordered = true) : (t.clear i).ordered = true := by
  induction t with
  | nil => rfl
  | cons e rest ih =>
    obtain ⟨k, v⟩ := e
    obtain ⟨hk, ho⟩ := (Table.ordered_cons k v rest).1 h
    simp only [Table.clear]
    split
    · exact ih ho
    · exact (Table.ordered_cons k v _).2 ⟨fun e he => hk e (Table.mem_clear he), ih ho⟩

theorem Table.ordered_mapValues (t : Table α) (f : Nat → α → α) (h : t.ordered = true) :
    (t.mapValues f).ordered = true := by
  induction t with
  | nil => rfl
  | cons e rest ih =>
    obtain ⟨k, v⟩ := e
    obtain ⟨hk, ho⟩ := (Table.ordered_cons k v rest).1 h
    refine (Table.ordered_cons k (f k v) _).2 ⟨?_, ih ho⟩
    intro e he
    obtain ⟨x, hx, rfl⟩ := List.mem_map.1 he
    exact hk x hx

theorem Table.ordered_filter (t : Table α) (p : Nat × α → Bool) (h : t.ordered = true) :
    Table.ordered (List.filter p t) = true := by
  induction t with
  | nil => rfl
  | cons e rest ih =>
    obtain ⟨k, v⟩ := e
    obtain ⟨hk, ho⟩ := (Table.ordered_cons k v rest).1 h
    by_cases hp : p (k, v)
    · rw [List.filter_cons_of_pos hp]
      exact (Table.ordered_cons k v _).2 ⟨fun e he => hk e (List.mem_of_mem_filter he), ih ho⟩
    · rw [List.filter_cons_of_neg hp]
      exact ih ho

theorem Table.canonical_writeD [DecidableEq α] (t : Table α) (d : Nat → α) (i : Nat) (a : α)
    (h : t.canonical d = true) : (t.writeD (d i) i a).canonical d = true := by
  simp only [Table.canonical, Table.noDefault, Bool.and_eq_true, List.all_eq_true, decide_eq_true_eq] at h ⊢
  obtain ⟨ho, hd⟩ := h
  unfold Table.writeD
  split
  · exact ⟨Table.ordered_clear t i ho, fun e he => hd e (Table.mem_clear he)⟩
  · rename_i ha
    refine ⟨Table.ordered_write t i a ho, fun e he => ?_⟩
    rcases Table.mem_write he with rfl | he
    · exact ha
    · exact hd e he

theorem Table.canonical_mapD [DecidableEq α] (t : Table α) (d : Nat → α) (f : Nat → α → α)
    (h : t.ordered = true) : (t.mapD d f).canonical d = true := by
  simp only [Table.canonical, Table.noDefault, Bool.and_eq_true, List.all_eq_true, decide_eq_true_eq]
  refine ⟨Table.ordered_filter _ _ (Table.ordered_mapValues t f h), fun e he => ?_⟩
  simpa using List.of_mem_filter he

theorem Table.ordered_of_canonical [DecidableEq α] {t : Table α} {d : Nat → α} (h : t.canonical d = true) :
    t.ordered = true := by
  simp only [Table.canonical, Bool.and_eq_true] at h
  exact h.1

/-- What a number reads as after every listed value was changed by a function that leaves the default alone. -/
theorem Table.readD_mapD [DecidableEq α] (t : Table α) (d : Nat → α) (f : Nat → α → α) (i : Nat)
    (h : t.ordered = true) (hf : f i (d i) = d i) : (t.mapD d f).readD (d i) i = f i (t.readD (d i) i) := by
  unfold Table.readD
  induction t with
  | nil => simp [Table.mapD, Table.mapValues, hf]
  | cons e rest ih =>
    obtain ⟨k, v⟩ := e
    obtain ⟨hk, ho⟩ := (Table.ordered_cons k v rest).1 h
    have ih := ih ho
    have hmap : Table.mapD ((k, v) :: rest) d f =
        if f k v ≠ d k then (k, f k v) :: Table.mapD rest d f else Table.mapD rest d f := by
      simp only [Table.mapD, Table.mapValues, List.map_cons, List.filter_cons]
      split <;> simp_all
    rw [hmap]
    by_cases hki : k = i
    · subst hki
      split
      · simp
      · rename_i hd
        have hnone : ∀ (u : Table α), Table.atLeast (k + 1) u → Table.read? u k = none := by
          intro u hu
          induction u with
          | nil => rfl
          | cons x xs ihx =>
            obtain ⟨j, b⟩ := x
            have hj := hu (j, b) (List.mem_cons_self ..)
            have hne : j ≠ k := by simp only at hj; omega
            simp only [Table.read?_cons, hne, if_false]
            exact ihx fun e he => hu e (List.mem_cons_of_mem _ he)
        have hrest : Table.read? (Table.mapD rest d f) k = none := by
          refine hnone _ fun e he => ?_
          obtain ⟨x, hx, rfl⟩ := List.mem_map.1 (List.mem_of_mem_filter he)
          exact hk x hx
        simp only [hrest, Table.read?_cons, if_true, Option.getD_none, Option.getD_some]
        simpa using (not_not.1 hd).symm
    · split <;> simp only [Table.read?_cons, hki, if_false] <;> exact ih

end Sys2Proof.Machine
end

