-- ==== Sys2Proof/Laws/Views.lean ====
section
/-! SUPPORT. For each update of the state, the tables of the registry and the shelf map it leaves alone, and the
readers it leaves alone (a record, a generation, a handle, a slot, a zone, a sensor entry, an order). -/

namespace Sys2Proof.Machine

@[simp] theorem State.setRecord_tables (s : State) (i : Nat) (r : WheelRecord) :
    (s.setRecord i r).registry.generations = s.registry.generations ∧
    (s.setRecord i r).registry.tagIndex = s.registry.tagIndex ∧
    (s.setRecord i r).registry.overdueCount = s.registry.overdueCount := by
  refine ⟨?_, ?_, ?_⟩ <;> rfl

@[simp] theorem State.setRecord_views (s : State) (i : Nat) (r : WheelRecord) (x : Nat) :
    (s.setRecord i r).generation x = s.generation x ∧ (s.setRecord i r).handleOf x = s.handleOf x ∧
    (s.setRecord i r).rackRecord x = s.rackRecord x ∧ (s.setRecord i r).window x = s.window x ∧
    (s.setRecord i r).slot x = s.slot x ∧ (s.setRecord i r).zone x = s.zone x ∧
    (s.setRecord i r).sensor x = s.sensor x ∧ (s.setRecord i r).order? x = s.order? x := by
  refine ⟨?_, ?_, ?_, ?_, ?_, ?_, ?_, ?_⟩ <;> rfl

@[simp] theorem State.updRecord_tables (s : State) (i : Nat) (f : WheelRecord → WheelRecord) :
    (s.updRecord i f).registry.generations = s.registry.generations ∧
    (s.updRecord i f).registry.tagIndex = s.registry.tagIndex ∧
    (s.updRecord i f).registry.overdueCount = s.registry.overdueCount := by
  unfold State.updRecord
  refine ⟨?_, ?_, ?_⟩ <;> (repeat' split) <;> simp

@[simp] theorem State.updRecord_views (s : State) (i : Nat) (f : WheelRecord → WheelRecord) (x : Nat) :
    (s.updRecord i f).generation x = s.generation x ∧ (s.updRecord i f).handleOf x = s.handleOf x ∧
    (s.updRecord i f).rackRecord x = s.rackRecord x ∧ (s.updRecord i f).window x = s.window x ∧
    (s.updRecord i f).slot x = s.slot x ∧ (s.updRecord i f).zone x = s.zone x ∧
    (s.updRecord i f).sensor x = s.sensor x ∧ (s.updRecord i f).order? x = s.order? x := by
  unfold State.updRecord
  refine ⟨?_, ?_, ?_, ?_, ?_, ?_, ?_, ?_⟩ <;> (repeat' split) <;> simp [State.generation, State.handleOf, State.rackRecord, State.window,
    State.slot, State.zone, State.sensor, State.order?]

@[simp] theorem State.updSlot_tables (s : State) (p : Nat) (f : SlotRecord → SlotRecord) :
    (s.updSlot p f).shelf.racks = s.shelf.racks ∧ (s.updSlot p f).shelf.windows = s.shelf.windows := by
  refine ⟨?_, ?_⟩ <;> rfl

@[simp] theorem State.updSlot_views (s : State) (p : Nat) (f : SlotRecord → SlotRecord) (x : Nat) :
    (s.updSlot p f).generation x = s.generation x ∧ (s.updSlot p f).handleOf x = s.handleOf x ∧
    (s.updSlot p f).rackRecord x = s.rackRecord x ∧ (s.updSlot p f).window x = s.window x ∧
    (s.updSlot p f).record? x = s.record? x ∧ (s.updSlot p f).zone x = s.zone x ∧
    (s.updSlot p f).sensor x = s.sensor x ∧ (s.updSlot p f).order? x = s.order? x := by
  refine ⟨?_, ?_, ?_, ?_, ?_, ?_, ?_, ?_⟩ <;> rfl

@[simp] theorem State.setZone_views (s : State) (z : Nat) (v : Zone) (x : Nat) :
    (s.setZone z v).generation x = s.generation x ∧ (s.setZone z v).handleOf x = s.handleOf x ∧
    (s.setZone z v).rackRecord x = s.rackRecord x ∧ (s.setZone z v).window x = s.window x ∧
    (s.setZone z v).record? x = s.record? x ∧ (s.setZone z v).slot x = s.slot x ∧
    (s.setZone z v).sensor x = s.sensor x ∧ (s.setZone z v).order? x = s.order? x := by
  refine ⟨?_, ?_, ?_, ?_, ?_, ?_, ?_, ?_⟩ <;> rfl

@[simp] theorem State.setSensorEntry_views (s : State) (e : Nat) (v : SensorEntry) (x : Nat) :
    (s.setSensorEntry e v).generation x = s.generation x ∧ (s.setSensorEntry e v).handleOf x = s.handleOf x ∧
    (s.setSensorEntry e v).rackRecord x = s.rackRecord x ∧ (s.setSensorEntry e v).window x = s.window x ∧
    (s.setSensorEntry e v).record? x = s.record? x ∧ (s.setSensorEntry e v).slot x = s.slot x ∧
    (s.setSensorEntry e v).zone x = s.zone x ∧ (s.setSensorEntry e v).order? x = s.order? x := by
  refine ⟨?_, ?_, ?_, ?_, ?_, ?_, ?_, ?_⟩ <;> rfl

@[simp] theorem State.latch_views (s : State) (k : AttentionKind) (x : Nat) :
    (s.latch k).generation x = s.generation x ∧ (s.latch k).handleOf x = s.handleOf x ∧
    (s.latch k).rackRecord x = s.rackRecord x ∧ (s.latch k).window x = s.window x ∧
    (s.latch k).record? x = s.record? x ∧ (s.latch k).slot x = s.slot x ∧ (s.latch k).zone x = s.zone x ∧
    (s.latch k).sensor x = s.sensor x ∧ (s.latch k).order? x = s.order? x := by
  refine ⟨?_, ?_, ?_, ?_, ?_, ?_, ?_, ?_, ?_⟩ <;> rfl

@[simp] theorem State.dropCandidate_views (s : State) (i : Nat) (x : Nat) :
    (s.dropCandidate i).generation x = s.generation x ∧ (s.dropCandidate i).handleOf x = s.handleOf x ∧
    (s.dropCandidate i).rackRecord x = s.rackRecord x ∧ (s.dropCandidate i).window x = s.window x ∧
    (s.dropCandidate i).record? x = s.record? x ∧ (s.dropCandidate i).slot x = s.slot x ∧
    (s.dropCandidate i).zone x = s.zone x ∧ (s.dropCandidate i).sensor x = s.sensor x ∧
    (s.dropCandidate i).order? x = s.order? x := by
  refine ⟨?_, ?_, ?_, ?_, ?_, ?_, ?_, ?_, ?_⟩ <;> rfl

@[simp] theorem State.addHold_tables (s : State) (i : Nat) (h : HoldReason) :
    (s.addHold i h).registry.generations = s.registry.generations ∧
    (s.addHold i h).registry.tagIndex = s.registry.tagIndex ∧
    (s.addHold i h).registry.overdueCount = s.registry.overdueCount := by
  unfold State.addHold
  refine ⟨?_, ?_, ?_⟩ <;> (repeat' split) <;> simp

@[simp] theorem State.addHold_views (s : State) (i : Nat) (h : HoldReason) (x : Nat) :
    (s.addHold i h).generation x = s.generation x ∧ (s.addHold i h).handleOf x = s.handleOf x ∧
    (s.addHold i h).rackRecord x = s.rackRecord x ∧ (s.addHold i h).window x = s.window x ∧
    (s.addHold i h).slot x = s.slot x ∧ (s.addHold i h).zone x = s.zone x ∧ (s.addHold i h).sensor x = s.sensor x ∧
    (s.addHold i h).order? x = s.order? x := by
  unfold State.addHold
  refine ⟨?_, ?_, ?_, ?_, ?_, ?_, ?_, ?_⟩ <;> (repeat' split) <;> simp [State.generation, State.handleOf, State.rackRecord, State.window,
    State.slot, State.zone, State.sensor, State.order?]

@[simp] theorem State.removeHold_tables (s : State) (i : Nat) (h : HoldReason) :
    (s.removeHold i h).registry.generations = s.registry.generations ∧
    (s.removeHold i h).registry.tagIndex = s.registry.tagIndex ∧
    (s.removeHold i h).registry.overdueCount = s.registry.overdueCount := by
  unfold State.removeHold
  refine ⟨?_, ?_, ?_⟩ <;> simp

@[simp] theorem State.removeHold_views (s : State) (i : Nat) (h : HoldReason) (x : Nat) :
    (s.removeHold i h).generation x = s.generation x ∧ (s.removeHold i h).handleOf x = s.handleOf x ∧
    (s.removeHold i h).rackRecord x = s.rackRecord x ∧ (s.removeHold i h).window x = s.window x ∧
    (s.removeHold i h).slot x = s.slot x ∧ (s.removeHold i h).zone x = s.zone x ∧
    (s.removeHold i h).sensor x = s.sensor x ∧ (s.removeHold i h).order? x = s.order? x := by
  unfold State.removeHold
  refine ⟨?_, ?_, ?_, ?_, ?_, ?_, ?_, ?_⟩ <;> simp [State.generation, State.handleOf, State.rackRecord, State.window,
    State.slot, State.zone, State.sensor, State.order?]

@[simp] theorem State.setClaim_tables (s : State) (i : Nat) (c : Claim) :
    (s.setClaim i c).registry.generations = s.registry.generations ∧
    (s.setClaim i c).registry.tagIndex = s.registry.tagIndex ∧
    (s.setClaim i c).registry.overdueCount = s.registry.overdueCount := by
  unfold State.setClaim
  refine ⟨?_, ?_, ?_⟩ <;> simp

@[simp] theorem State.setClaim_views (s : State) (i : Nat) (c : Claim) (x : Nat) :
    (s.setClaim i c).generation x = s.generation x ∧ (s.setClaim i c).handleOf x = s.handleOf x ∧
    (s.setClaim i c).rackRecord x = s.rackRecord x ∧ (s.setClaim i c).window x = s.window x ∧
    (s.setClaim i c).slot x = s.slot x ∧ (s.setClaim i c).zone x = s.zone x ∧
    (s.setClaim i c).sensor x = s.sensor x ∧ (s.setClaim i c).order? x = s.order? x := by
  unfold State.setClaim
  refine ⟨?_, ?_, ?_, ?_, ?_, ?_, ?_, ?_⟩ <;> simp [State.generation, State.handleOf, State.rackRecord, State.window,
    State.slot, State.zone, State.sensor, State.order?]

@[simp] theorem State.setOverdue_tables (s : State) (i : Nat) (b : Bool) :
    (s.setOverdue i b).registry.generations = s.registry.generations ∧
    (s.setOverdue i b).registry.tagIndex = s.registry.tagIndex := by
  unfold State.setOverdue
  refine ⟨?_, ?_⟩ <;> (repeat' split) <;> simp

@[simp] theorem State.setOverdue_views (s : State) (i : Nat) (b : Bool) (x : Nat) :
    (s.setOverdue i b).generation x = s.generation x ∧ (s.setOverdue i b).handleOf x = s.handleOf x ∧
    (s.setOverdue i b).rackRecord x = s.rackRecord x ∧ (s.setOverdue i b).window x = s.window x ∧
    (s.setOverdue i b).slot x = s.slot x ∧ (s.setOverdue i b).zone x = s.zone x ∧
    (s.setOverdue i b).sensor x = s.sensor x ∧ (s.setOverdue i b).order? x = s.order? x := by
  unfold State.setOverdue
  refine ⟨?_, ?_, ?_, ?_, ?_, ?_, ?_, ?_⟩ <;> (repeat' split) <;> simp [State.generation, State.handleOf, State.rackRecord, State.window,
    State.slot, State.zone, State.sensor, State.order?]

@[simp] theorem State.unlocate_tables (s : State) (i : Nat) :
    (s.unlocate i).registry.generations = s.registry.generations ∧
    (s.unlocate i).registry.tagIndex = s.registry.tagIndex ∧
    (s.unlocate i).registry.overdueCount = s.registry.overdueCount ∧ (s.unlocate i).shelf.racks = s.shelf.racks ∧
    (s.unlocate i).shelf.windows = s.shelf.windows := by
  unfold State.unlocate
  refine ⟨?_, ?_, ?_, ?_, ?_⟩ <;> (repeat' split) <;> simp

@[simp] theorem State.unlocate_views (s : State) (i : Nat) (x : Nat) :
    (s.unlocate i).generation x = s.generation x ∧ (s.unlocate i).handleOf x = s.handleOf x ∧
    (s.unlocate i).rackRecord x = s.rackRecord x ∧ (s.unlocate i).window x = s.window x ∧
    (s.unlocate i).zone x = s.zone x ∧ (s.unlocate i).sensor x = s.sensor x ∧ (s.unlocate i).order? x = s.order? x := by
  unfold State.unlocate
  refine ⟨?_, ?_, ?_, ?_, ?_, ?_, ?_⟩ <;> (repeat' split) <;> simp [State.generation, State.handleOf, State.rackRecord, State.window,
    State.zone, State.sensor, State.order?]

@[simp] theorem State.locate_tables (s : State) (i p : Nat) :
    (s.locate i p).registry.generations = s.registry.generations ∧
    (s.locate i p).registry.tagIndex = s.registry.tagIndex ∧
    (s.locate i p).registry.overdueCount = s.registry.overdueCount ∧ (s.locate i p).shelf.racks = s.shelf.racks ∧
    (s.locate i p).shelf.windows = s.shelf.windows := by
  unfold State.locate
  refine ⟨?_, ?_, ?_, ?_, ?_⟩ <;> simp

@[simp] theorem State.locate_views (s : State) (i p : Nat) (x : Nat) :
    (s.locate i p).generation x = s.generation x ∧ (s.locate i p).handleOf x = s.handleOf x ∧
    (s.locate i p).rackRecord x = s.rackRecord x ∧ (s.locate i p).window x = s.window x ∧
    (s.locate i p).zone x = s.zone x ∧ (s.locate i p).sensor x = s.sensor x ∧ (s.locate i p).order? x = s.order? x := by
  unfold State.locate
  refine ⟨?_, ?_, ?_, ?_, ?_, ?_, ?_⟩ <;> simp [State.generation, State.handleOf, State.rackRecord, State.window,
    State.zone, State.sensor, State.order?]

@[simp] theorem State.locateAt_tables (s : State) (i : Nat) (p : Option Nat) :
    (s.locateAt i p).registry.generations = s.registry.generations ∧
    (s.locateAt i p).registry.tagIndex = s.registry.tagIndex ∧
    (s.locateAt i p).registry.overdueCount = s.registry.overdueCount ∧ (s.locateAt i p).shelf.racks = s.shelf.racks ∧
    (s.locateAt i p).shelf.windows = s.shelf.windows := by
  unfold State.locateAt
  refine ⟨?_, ?_, ?_, ?_, ?_⟩ <;> (repeat' split) <;> simp

@[simp] theorem State.locateAt_views (s : State) (i : Nat) (p : Option Nat) (x : Nat) :
    (s.locateAt i p).generation x = s.generation x ∧ (s.locateAt i p).handleOf x = s.handleOf x ∧
    (s.locateAt i p).rackRecord x = s.rackRecord x ∧ (s.locateAt i p).window x = s.window x ∧
    (s.locateAt i p).zone x = s.zone x ∧ (s.locateAt i p).sensor x = s.sensor x ∧
    (s.locateAt i p).order? x = s.order? x := by
  unfold State.locateAt
  refine ⟨?_, ?_, ?_, ?_, ?_, ?_, ?_⟩ <;> (repeat' split) <;> simp [State.generation, State.handleOf, State.rackRecord, State.window,
    State.zone, State.sensor, State.order?]

@[simp] theorem State.moveRecord_tables (s : State) (i : Nat) (p : Option Nat) :
    (s.moveRecord i p).registry.generations = s.registry.generations ∧
    (s.moveRecord i p).registry.tagIndex = s.registry.tagIndex ∧
    (s.moveRecord i p).registry.overdueCount = s.registry.overdueCount ∧
    (s.moveRecord i p).shelf.racks = s.shelf.racks ∧ (s.moveRecord i p).shelf.windows = s.shelf.windows := by
  unfold State.moveRecord
  refine ⟨?_, ?_, ?_, ?_, ?_⟩ <;> simp

@[simp] theorem State.moveRecord_views (s : State) (i : Nat) (p : Option Nat) (x : Nat) :
    (s.moveRecord i p).generation x = s.generation x ∧ (s.moveRecord i p).handleOf x = s.handleOf x ∧
    (s.moveRecord i p).rackRecord x = s.rackRecord x ∧ (s.moveRecord i p).window x = s.window x ∧
    (s.moveRecord i p).zone x = s.zone x ∧ (s.moveRecord i p).sensor x = s.sensor x ∧
    (s.moveRecord i p).order? x = s.order? x := by
  unfold State.moveRecord
  refine ⟨?_, ?_, ?_, ?_, ?_, ?_, ?_⟩ <;> simp [State.generation, State.handleOf, State.rackRecord, State.window,
    State.zone, State.sensor, State.order?]

@[simp] theorem State.reach_tables (s : State) (p : Nat) :
    (s.reach p).shelf.racks = s.shelf.racks ∧ (s.reach p).shelf.windows = s.shelf.windows := by
  refine ⟨?_, ?_⟩ <;> rfl

@[simp] theorem State.reach_views (s : State) (p : Nat) (x : Nat) :
    (s.reach p).generation x = s.generation x ∧ (s.reach p).handleOf x = s.handleOf x ∧
    (s.reach p).rackRecord x = s.rackRecord x ∧ (s.reach p).window x = s.window x ∧
    (s.reach p).record? x = s.record? x ∧ (s.reach p).zone x = s.zone x ∧ (s.reach p).sensor x = s.sensor x ∧
    (s.reach p).order? x = s.order? x := by
  refine ⟨?_, ?_, ?_, ?_, ?_, ?_, ?_, ?_⟩ <;> rfl

@[simp] theorem State.unreachable_tables (s : State) (p : Nat) :
    (s.unreachable p).registry.generations = s.registry.generations ∧
    (s.unreachable p).registry.tagIndex = s.registry.tagIndex ∧
    (s.unreachable p).registry.overdueCount = s.registry.overdueCount ∧
    (s.unreachable p).shelf.racks = s.shelf.racks ∧ (s.unreachable p).shelf.windows = s.shelf.windows := by
  unfold State.unreachable
  dsimp only
  refine ⟨?_, ?_, ?_, ?_, ?_⟩ <;> (repeat' split) <;> simp

@[simp] theorem State.unreachable_views (s : State) (p : Nat) (x : Nat) :
    (s.unreachable p).generation x = s.generation x ∧ (s.unreachable p).handleOf x = s.handleOf x ∧
    (s.unreachable p).rackRecord x = s.rackRecord x ∧ (s.unreachable p).window x = s.window x ∧
    (s.unreachable p).zone x = s.zone x ∧ (s.unreachable p).sensor x = s.sensor x ∧
    (s.unreachable p).order? x = s.order? x := by
  unfold State.unreachable
  dsimp only
  refine ⟨?_, ?_, ?_, ?_, ?_, ?_, ?_⟩ <;> (repeat' split) <;> simp [State.generation, State.handleOf, State.rackRecord, State.window,
    State.slot, State.zone, State.sensor, State.order?]

@[simp] theorem State.endRelocation_tables (s : State) (h : Nat) :
    (s.endRelocation h).registry.generations = s.registry.generations ∧
    (s.endRelocation h).registry.tagIndex = s.registry.tagIndex ∧
    (s.endRelocation h).registry.overdueCount = s.registry.overdueCount ∧
    (s.endRelocation h).shelf.racks = s.shelf.racks ∧ (s.endRelocation h).shelf.windows = s.shelf.windows := by
  unfold State.endRelocation
  dsimp only
  refine ⟨?_, ?_, ?_, ?_, ?_⟩ <;> (repeat' split) <;> simp

@[simp] theorem State.endRelocation_views (s : State) (h : Nat) (x : Nat) :
    (s.endRelocation h).generation x = s.generation x ∧ (s.endRelocation h).handleOf x = s.handleOf x ∧
    (s.endRelocation h).rackRecord x = s.rackRecord x ∧ (s.endRelocation h).window x = s.window x ∧
    (s.endRelocation h).zone x = s.zone x ∧ (s.endRelocation h).sensor x = s.sensor x ∧
    (s.endRelocation h).order? x = s.order? x := by
  unfold State.endRelocation
  dsimp only
  refine ⟨?_, ?_, ?_, ?_, ?_, ?_, ?_⟩ <;> (repeat' split) <;> simp [State.generation, State.handleOf, State.rackRecord, State.window,
    State.zone, State.sensor, State.order?]

@[simp] theorem State.setRelocation_views (s : State) (h : Nat) (st : RelocationState) (x : Nat) :
    (s.setRelocation h st).generation x = s.generation x ∧ (s.setRelocation h st).handleOf x = s.handleOf x ∧
    (s.setRelocation h st).rackRecord x = s.rackRecord x ∧ (s.setRelocation h st).window x = s.window x ∧
    (s.setRelocation h st).record? x = s.record? x ∧ (s.setRelocation h st).slot x = s.slot x ∧
    (s.setRelocation h st).zone x = s.zone x ∧ (s.setRelocation h st).sensor x = s.sensor x ∧
    (s.setRelocation h st).order? x = s.order? x := by
  refine ⟨?_, ?_, ?_, ?_, ?_, ?_, ?_, ?_, ?_⟩ <;> rfl

@[simp] theorem State.setPort_views (s : State) (p : PortId) (st : PortState) (x : Nat) :
    (s.setPort p st).generation x = s.generation x ∧ (s.setPort p st).handleOf x = s.handleOf x ∧
    (s.setPort p st).rackRecord x = s.rackRecord x ∧ (s.setPort p st).window x = s.window x ∧
    (s.setPort p st).record? x = s.record? x ∧ (s.setPort p st).slot x = s.slot x ∧
    (s.setPort p st).zone x = s.zone x ∧ (s.setPort p st).sensor x = s.sensor x ∧
    (s.setPort p st).order? x = s.order? x := by
  unfold State.setPort
  refine ⟨?_, ?_, ?_, ?_, ?_, ?_, ?_, ?_, ?_⟩ <;> (repeat' split) <;> simp [State.generation, State.handleOf, State.rackRecord, State.window, State.record?,
    State.slot, State.zone, State.sensor, State.order?]

@[simp] theorem State.offer_views (s : State) (c : Candidate) (x : Nat) :
    (s.offer c).generation x = s.generation x ∧ (s.offer c).handleOf x = s.handleOf x ∧
    (s.offer c).rackRecord x = s.rackRecord x ∧ (s.offer c).window x = s.window x ∧
    (s.offer c).record? x = s.record? x ∧ (s.offer c).slot x = s.slot x ∧ (s.offer c).zone x = s.zone x ∧
    (s.offer c).sensor x = s.sensor x ∧ (s.offer c).order? x = s.order? x := by
  refine ⟨?_, ?_, ?_, ?_, ?_, ?_, ?_, ?_, ?_⟩ <;> rfl

@[simp] theorem State.pruneCandidates_views (s : State) (x : Nat) :
    (s.pruneCandidates).generation x = s.generation x ∧ (s.pruneCandidates).handleOf x = s.handleOf x ∧
    (s.pruneCandidates).rackRecord x = s.rackRecord x ∧ (s.pruneCandidates).window x = s.window x ∧
    (s.pruneCandidates).record? x = s.record? x ∧ (s.pruneCandidates).slot x = s.slot x ∧
    (s.pruneCandidates).zone x = s.zone x ∧ (s.pruneCandidates).sensor x = s.sensor x ∧
    (s.pruneCandidates).order? x = s.order? x := by
  refine ⟨?_, ?_, ?_, ?_, ?_, ?_, ?_, ?_, ?_⟩ <;> rfl

@[simp] theorem State.clearEntry_views (s : State) (k : Nat) (x : Nat) :
    (s.clearEntry k).generation x = s.generation x ∧ (s.clearEntry k).handleOf x = s.handleOf x ∧
    (s.clearEntry k).rackRecord x = s.rackRecord x ∧ (s.clearEntry k).window x = s.window x ∧
    (s.clearEntry k).record? x = s.record? x ∧ (s.clearEntry k).slot x = s.slot x ∧
    (s.clearEntry k).zone x = s.zone x ∧ (s.clearEntry k).sensor x = s.sensor x ∧
    (s.clearEntry k).order? x = s.order? x := by
  refine ⟨?_, ?_, ?_, ?_, ?_, ?_, ?_, ?_, ?_⟩ <;> rfl

@[simp] theorem State.updOrder_views (s : State) (n : Nat) (f : Order → Order) (x : Nat) :
    (s.updOrder n f).generation x = s.generation x ∧ (s.updOrder n f).handleOf x = s.handleOf x ∧
    (s.updOrder n f).rackRecord x = s.rackRecord x ∧ (s.updOrder n f).window x = s.window x ∧
    (s.updOrder n f).record? x = s.record? x ∧ (s.updOrder n f).slot x = s.slot x ∧
    (s.updOrder n f).zone x = s.zone x ∧ (s.updOrder n f).sensor x = s.sensor x := by
  refine ⟨?_, ?_, ?_, ?_, ?_, ?_, ?_, ?_⟩ <;> rfl

@[simp] theorem State.dropOrder_views (s : State) (n : Nat) (x : Nat) :
    (s.dropOrder n).generation x = s.generation x ∧ (s.dropOrder n).handleOf x = s.handleOf x ∧
    (s.dropOrder n).rackRecord x = s.rackRecord x ∧ (s.dropOrder n).window x = s.window x ∧
    (s.dropOrder n).record? x = s.record? x ∧ (s.dropOrder n).slot x = s.slot x ∧ (s.dropOrder n).zone x = s.zone x ∧
    (s.dropOrder n).sensor x = s.sensor x := by
  refine ⟨?_, ?_, ?_, ?_, ?_, ?_, ?_, ?_⟩ <;> rfl

@[simp] theorem State.loadTimer_views (s : State) (n seconds : Nat) (x : Nat) :
    (s.loadTimer n seconds).generation x = s.generation x ∧ (s.loadTimer n seconds).handleOf x = s.handleOf x ∧
    (s.loadTimer n seconds).rackRecord x = s.rackRecord x ∧ (s.loadTimer n seconds).window x = s.window x ∧
    (s.loadTimer n seconds).record? x = s.record? x ∧ (s.loadTimer n seconds).slot x = s.slot x ∧
    (s.loadTimer n seconds).zone x = s.zone x ∧ (s.loadTimer n seconds).sensor x = s.sensor x := by
  refine ⟨?_, ?_, ?_, ?_, ?_, ?_, ?_, ?_⟩ <;> rfl

@[simp] theorem State.setVisitState_views (s : State) (n v : Nat) (st : VisitState) (x : Nat) :
    (s.setVisitState n v st).generation x = s.generation x ∧ (s.setVisitState n v st).handleOf x = s.handleOf x ∧
    (s.setVisitState n v st).rackRecord x = s.rackRecord x ∧ (s.setVisitState n v st).window x = s.window x ∧
    (s.setVisitState n v st).record? x = s.record? x ∧ (s.setVisitState n v st).slot x = s.slot x ∧
    (s.setVisitState n v st).zone x = s.zone x ∧ (s.setVisitState n v st).sensor x = s.sensor x := by
  refine ⟨?_, ?_, ?_, ?_, ?_, ?_, ?_, ?_⟩ <;> rfl

@[simp] theorem State.setDispatchState_views (s : State) (d : DispatchState) (x : Nat) :
    (s.setDispatchState d).generation x = s.generation x ∧ (s.setDispatchState d).handleOf x = s.handleOf x ∧
    (s.setDispatchState d).rackRecord x = s.rackRecord x ∧ (s.setDispatchState d).window x = s.window x ∧
    (s.setDispatchState d).record? x = s.record? x ∧ (s.setDispatchState d).slot x = s.slot x ∧
    (s.setDispatchState d).zone x = s.zone x ∧ (s.setDispatchState d).sensor x = s.sensor x := by
  refine ⟨?_, ?_, ?_, ?_, ?_, ?_, ?_, ?_⟩ <;> rfl

@[simp] theorem State.emptyDirected_views (s : State) (x : Nat) :
    (s.emptyDirected).generation x = s.generation x ∧ (s.emptyDirected).handleOf x = s.handleOf x ∧
    (s.emptyDirected).rackRecord x = s.rackRecord x ∧ (s.emptyDirected).window x = s.window x ∧
    (s.emptyDirected).record? x = s.record? x ∧ (s.emptyDirected).slot x = s.slot x ∧
    (s.emptyDirected).zone x = s.zone x ∧ (s.emptyDirected).sensor x = s.sensor x ∧
    (s.emptyDirected).order? x = s.order? x := by
  refine ⟨?_, ?_, ?_, ?_, ?_, ?_, ?_, ?_, ?_⟩ <;> rfl

@[simp] theorem State.setEngaged_tables (s : State) (p : Nat) (b : Bool) :
    (s.setEngaged p b).shelf.racks = s.shelf.racks ∧ (s.setEngaged p b).shelf.windows = s.shelf.windows := by
  refine ⟨?_, ?_⟩ <;> rfl

@[simp] theorem State.setEngaged_views (s : State) (p : Nat) (b : Bool) (x : Nat) :
    (s.setEngaged p b).generation x = s.generation x ∧ (s.setEngaged p b).handleOf x = s.handleOf x ∧
    (s.setEngaged p b).rackRecord x = s.rackRecord x ∧ (s.setEngaged p b).window x = s.window x ∧
    (s.setEngaged p b).record? x = s.record? x ∧ (s.setEngaged p b).zone x = s.zone x ∧
    (s.setEngaged p b).sensor x = s.sensor x ∧ (s.setEngaged p b).order? x = s.order? x := by
  refine ⟨?_, ?_, ?_, ?_, ?_, ?_, ?_, ?_⟩ <;> rfl

@[simp] theorem State.setDestEngaged_tables (s : State) (d : Option Nat) (b : Bool) :
    (s.setDestEngaged d b).shelf.racks = s.shelf.racks ∧ (s.setDestEngaged d b).shelf.windows = s.shelf.windows := by
  unfold State.setDestEngaged
  refine ⟨?_, ?_⟩ <;> (repeat' split) <;> simp

@[simp] theorem State.setDestEngaged_views (s : State) (d : Option Nat) (b : Bool) (x : Nat) :
    (s.setDestEngaged d b).generation x = s.generation x ∧ (s.setDestEngaged d b).handleOf x = s.handleOf x ∧
    (s.setDestEngaged d b).rackRecord x = s.rackRecord x ∧ (s.setDestEngaged d b).window x = s.window x ∧
    (s.setDestEngaged d b).record? x = s.record? x ∧ (s.setDestEngaged d b).zone x = s.zone x ∧
    (s.setDestEngaged d b).sensor x = s.sensor x ∧ (s.setDestEngaged d b).order? x = s.order? x := by
  unfold State.setDestEngaged
  refine ⟨?_, ?_, ?_, ?_, ?_, ?_, ?_, ?_⟩ <;> (repeat' split) <;> simp [State.generation, State.handleOf, State.rackRecord, State.window, State.record?,
    State.zone, State.sensor, State.order?]

@[simp] theorem State.engageVisit_tables (s : State) (v : Visit) :
    (s.engageVisit v).registry.generations = s.registry.generations ∧
    (s.engageVisit v).registry.tagIndex = s.registry.tagIndex ∧
    (s.engageVisit v).registry.overdueCount = s.registry.overdueCount ∧
    (s.engageVisit v).shelf.racks = s.shelf.racks ∧ (s.engageVisit v).shelf.windows = s.shelf.windows := by
  unfold State.engageVisit
  dsimp only
  refine ⟨?_, ?_, ?_, ?_, ?_⟩ <;> (repeat' split) <;> simp

@[simp] theorem State.engageVisit_views (s : State) (v : Visit) (x : Nat) :
    (s.engageVisit v).generation x = s.generation x ∧ (s.engageVisit v).handleOf x = s.handleOf x ∧
    (s.engageVisit v).rackRecord x = s.rackRecord x ∧ (s.engageVisit v).window x = s.window x ∧
    (s.engageVisit v).zone x = s.zone x ∧ (s.engageVisit v).sensor x = s.sensor x ∧
    (s.engageVisit v).order? x = s.order? x := by
  unfold State.engageVisit
  dsimp only
  refine ⟨?_, ?_, ?_, ?_, ?_, ?_, ?_⟩ <;> (repeat' split) <;> simp [State.generation, State.handleOf, State.rackRecord, State.window,
    State.zone, State.sensor, State.order?]

@[simp] theorem State.releaseVisit_tables (s : State) (v : Visit) :
    (s.releaseVisit v).registry.generations = s.registry.generations ∧
    (s.releaseVisit v).registry.tagIndex = s.registry.tagIndex ∧
    (s.releaseVisit v).registry.overdueCount = s.registry.overdueCount ∧
    (s.releaseVisit v).shelf.racks = s.shelf.racks ∧ (s.releaseVisit v).shelf.windows = s.shelf.windows := by
  unfold State.releaseVisit
  dsimp only
  refine ⟨?_, ?_, ?_, ?_, ?_⟩ <;> (repeat' split) <;> simp

@[simp] theorem State.releaseVisit_views (s : State) (v : Visit) (x : Nat) :
    (s.releaseVisit v).generation x = s.generation x ∧ (s.releaseVisit v).handleOf x = s.handleOf x ∧
    (s.releaseVisit v).rackRecord x = s.rackRecord x ∧ (s.releaseVisit v).window x = s.window x ∧
    (s.releaseVisit v).zone x = s.zone x ∧ (s.releaseVisit v).sensor x = s.sensor x ∧
    (s.releaseVisit v).order? x = s.order? x := by
  unfold State.releaseVisit
  dsimp only
  refine ⟨?_, ?_, ?_, ?_, ?_, ?_, ?_⟩ <;> (repeat' split) <;> simp [State.generation, State.handleOf, State.rackRecord, State.window,
    State.zone, State.sensor, State.order?]

@[simp] theorem State.doubtVisit_tables (s : State) (v : Visit) :
    (s.doubtVisit v).registry.generations = s.registry.generations ∧
    (s.doubtVisit v).registry.tagIndex = s.registry.tagIndex ∧
    (s.doubtVisit v).registry.overdueCount = s.registry.overdueCount := by
  unfold State.doubtVisit
  refine ⟨?_, ?_, ?_⟩ <;> (repeat' split) <;> simp

@[simp] theorem State.doubtVisit_views (s : State) (v : Visit) (x : Nat) :
    (s.doubtVisit v).generation x = s.generation x ∧ (s.doubtVisit v).handleOf x = s.handleOf x ∧
    (s.doubtVisit v).rackRecord x = s.rackRecord x ∧ (s.doubtVisit v).window x = s.window x ∧
    (s.doubtVisit v).slot x = s.slot x ∧ (s.doubtVisit v).zone x = s.zone x ∧
    (s.doubtVisit v).sensor x = s.sensor x ∧ (s.doubtVisit v).order? x = s.order? x := by
  unfold State.doubtVisit
  refine ⟨?_, ?_, ?_, ?_, ?_, ?_, ?_, ?_⟩ <;> (repeat' split) <;> simp [State.generation, State.handleOf, State.rackRecord, State.window,
    State.slot, State.zone, State.sensor, State.order?]

@[simp] theorem State.releasePair_tables (s : State) (q : Nat × HoldReason) :
    (s.releasePair q).registry.generations = s.registry.generations ∧
    (s.releasePair q).registry.tagIndex = s.registry.tagIndex ∧
    (s.releasePair q).registry.overdueCount = s.registry.overdueCount := by
  unfold State.releasePair
  refine ⟨?_, ?_, ?_⟩ <;> (repeat' split) <;> simp

@[simp] theorem State.releasePair_views (s : State) (q : Nat × HoldReason) (x : Nat) :
    (s.releasePair q).generation x = s.generation x ∧ (s.releasePair q).handleOf x = s.handleOf x ∧
    (s.releasePair q).rackRecord x = s.rackRecord x ∧ (s.releasePair q).window x = s.window x ∧
    (s.releasePair q).slot x = s.slot x ∧ (s.releasePair q).zone x = s.zone x ∧
    (s.releasePair q).sensor x = s.sensor x ∧ (s.releasePair q).order? x = s.order? x := by
  unfold State.releasePair
  refine ⟨?_, ?_, ?_, ?_, ?_, ?_, ?_, ?_⟩ <;> (repeat' split) <;> simp [State.generation, State.handleOf, State.rackRecord, State.window,
    State.slot, State.zone, State.sensor, State.order?]

@[simp] theorem State.placePair_tables (s : State) (q : Nat × HoldReason) :
    (s.placePair q).registry.generations = s.registry.generations ∧
    (s.placePair q).registry.tagIndex = s.registry.tagIndex ∧
    (s.placePair q).registry.overdueCount = s.registry.overdueCount := by
  unfold State.placePair
  refine ⟨?_, ?_, ?_⟩ <;> (repeat' split) <;> simp

@[simp] theorem State.placePair_views (s : State) (q : Nat × HoldReason) (x : Nat) :
    (s.placePair q).generation x = s.generation x ∧ (s.placePair q).handleOf x = s.handleOf x ∧
    (s.placePair q).rackRecord x = s.rackRecord x ∧ (s.placePair q).window x = s.window x ∧
    (s.placePair q).slot x = s.slot x ∧ (s.placePair q).zone x = s.zone x ∧ (s.placePair q).sensor x = s.sensor x ∧
    (s.placePair q).order? x = s.order? x := by
  unfold State.placePair
  refine ⟨?_, ?_, ?_, ?_, ?_, ?_, ?_, ?_⟩ <;> (repeat' split) <;> simp [State.generation, State.handleOf, State.rackRecord, State.window,
    State.slot, State.zone, State.sensor, State.order?]

@[simp] theorem State.activateStaged_views (s : State) (x : Nat) :
    (s.activateStaged).generation x = s.generation x ∧ (s.activateStaged).handleOf x = s.handleOf x ∧
    (s.activateStaged).rackRecord x = s.rackRecord x ∧ (s.activateStaged).window x = s.window x ∧
    (s.activateStaged).record? x = s.record? x ∧ (s.activateStaged).slot x = s.slot x ∧
    (s.activateStaged).sensor x = s.sensor x ∧ (s.activateStaged).order? x = s.order? x := by
  refine ⟨?_, ?_, ?_, ?_, ?_, ?_, ?_, ?_⟩ <;> rfl

@[simp] theorem State.startPoller_views (s : State) (x : Nat) :
    (s.startPoller).generation x = s.generation x ∧ (s.startPoller).handleOf x = s.handleOf x ∧
    (s.startPoller).rackRecord x = s.rackRecord x ∧ (s.startPoller).window x = s.window x ∧
    (s.startPoller).record? x = s.record? x ∧ (s.startPoller).slot x = s.slot x ∧ (s.startPoller).zone x = s.zone x ∧
    (s.startPoller).order? x = s.order? x := by
  refine ⟨?_, ?_, ?_, ?_, ?_, ?_, ?_, ?_⟩ <;> rfl

@[simp] theorem State.stopPoller_views (s : State) (x : Nat) :
    (s.stopPoller).generation x = s.generation x ∧ (s.stopPoller).handleOf x = s.handleOf x ∧
    (s.stopPoller).rackRecord x = s.rackRecord x ∧ (s.stopPoller).window x = s.window x ∧
    (s.stopPoller).record? x = s.record? x ∧ (s.stopPoller).slot x = s.slot x ∧ (s.stopPoller).order? x = s.order? x := by
  refine ⟨?_, ?_, ?_, ?_, ?_, ?_, ?_⟩ <;> rfl

@[simp] theorem State.endTransaction_views (s : State) (d : List Byte) (x : Nat) :
    (s.endTransaction d).generation x = s.generation x ∧ (s.endTransaction d).handleOf x = s.handleOf x ∧
    (s.endTransaction d).rackRecord x = s.rackRecord x ∧ (s.endTransaction d).window x = s.window x ∧
    (s.endTransaction d).record? x = s.record? x ∧ (s.endTransaction d).slot x = s.slot x ∧
    (s.endTransaction d).zone x = s.zone x ∧ (s.endTransaction d).order? x = s.order? x := by
  refine ⟨?_, ?_, ?_, ?_, ?_, ?_, ?_, ?_⟩ <;> rfl

@[simp] theorem State.countRounds_views (s : State) (x : Nat) :
    (s.countRounds).generation x = s.generation x ∧ (s.countRounds).handleOf x = s.handleOf x ∧
    (s.countRounds).rackRecord x = s.rackRecord x ∧ (s.countRounds).window x = s.window x ∧
    (s.countRounds).record? x = s.record? x ∧ (s.countRounds).slot x = s.slot x ∧ (s.countRounds).zone x = s.zone x ∧
    (s.countRounds).order? x = s.order? x := by
  refine ⟨?_, ?_, ?_, ?_, ?_, ?_, ?_, ?_⟩ <;> rfl

@[simp] theorem State.unblockSlot_tables (s : State) (p : Nat) :
    (s.unblockSlot p).registry.generations = s.registry.generations ∧
    (s.unblockSlot p).registry.tagIndex = s.registry.tagIndex ∧
    (s.unblockSlot p).registry.overdueCount = s.registry.overdueCount ∧
    (s.unblockSlot p).shelf.racks = s.shelf.racks ∧ (s.unblockSlot p).shelf.windows = s.shelf.windows := by
  unfold State.unblockSlot
  dsimp only
  refine ⟨?_, ?_, ?_, ?_, ?_⟩ <;> (repeat' split) <;> simp

@[simp] theorem State.unblockSlot_views (s : State) (p : Nat) (x : Nat) :
    (s.unblockSlot p).generation x = s.generation x ∧ (s.unblockSlot p).handleOf x = s.handleOf x ∧
    (s.unblockSlot p).rackRecord x = s.rackRecord x ∧ (s.unblockSlot p).window x = s.window x ∧
    (s.unblockSlot p).zone x = s.zone x ∧ (s.unblockSlot p).sensor x = s.sensor x ∧
    (s.unblockSlot p).order? x = s.order? x := by
  unfold State.unblockSlot
  dsimp only
  refine ⟨?_, ?_, ?_, ?_, ?_, ?_, ?_⟩ <;> (repeat' split) <;> simp [State.generation, State.handleOf, State.rackRecord, State.window,
    State.zone, State.sensor, State.order?]

@[simp] theorem State.judgeZone_views (s : State) (z : Nat) (x : Nat) :
    (s.judgeZone z).generation x = s.generation x ∧ (s.judgeZone z).handleOf x = s.handleOf x ∧
    (s.judgeZone z).rackRecord x = s.rackRecord x ∧ (s.judgeZone z).window x = s.window x ∧
    (s.judgeZone z).record? x = s.record? x ∧ (s.judgeZone z).slot x = s.slot x ∧
    (s.judgeZone z).sensor x = s.sensor x ∧ (s.judgeZone z).order? x = s.order? x := by
  unfold State.judgeZone
  dsimp only
  refine ⟨?_, ?_, ?_, ?_, ?_, ?_, ?_, ?_⟩ <;> (repeat' split) <;> simp [State.generation, State.handleOf, State.rackRecord, State.window, State.record?,
    State.slot, State.zone, State.sensor, State.order?]

end Sys2Proof.Machine
end

