-- ==== Sys2Proof/Laws/Ops.lean ====
section
/-! SUPPORT. What each shared update does to what it does write: the record, the slot, the zone, the sensor entry or
the order that is read afterwards, at every number. -/

namespace Sys2Proof.Machine

/-! ## Records -/

@[simp] theorem State.record?_setRecord (s : State) (i j : Nat) (r : WheelRecord) :
    (s.setRecord i r).record? j = if j = i then some r else s.record? j := by
  simp [State.record?, State.setRecord, Table.read?_write]

@[simp] theorem State.record?_updRecord (s : State) (i j : Nat) (f : WheelRecord → WheelRecord) :
    (s.updRecord i f).record? j = if j = i then (s.record? i).map f else s.record? j := by
  unfold State.updRecord
  split
  · rename_i h; split <;> simp_all
  · rename_i h; simp [h]

@[simp] theorem State.record?_removeHold (s : State) (i j : Nat) (h : HoldReason) :
    (s.removeHold i h).record? j =
      if j = i then (s.record? i).map fun r => { r with holds := r.holds.put h false } else s.record? j := by
  simp [State.removeHold]

@[simp] theorem State.record?_setClaim (s : State) (i j : Nat) (c : Claim) :
    (s.setClaim i c).record? j = if j = i then (s.record? i).map fun r => { r with claim := c } else s.record? j := by
  simp [State.setClaim]

/-- A reason that is put in twice is in once. -/
theorem Holds.put_of_has {h : Holds} {reason : HoldReason} (hh : h.has reason = true) : h.put reason true = h := by
  cases reason <;> cases h <;> simp_all [Holds.has, Holds.put]

@[simp] theorem State.record?_addHold (s : State) (i j : Nat) (h : HoldReason) :
    (s.addHold i h).record? j =
      if j = i then (s.record? i).map fun r => { r with holds := r.holds.put h true } else s.record? j := by
  unfold State.addHold
  split
  · rename_i hr; split <;> simp_all
  · rename_i r hr
    split
    · rename_i hh; split <;> simp_all [Holds.put_of_has]
    · simp [hr]

theorem State.addHold_of_none {s : State} {i : Nat} (h : s.record? i = none) (reason : HoldReason) :
    s.addHold i reason = s := by
  simp [State.addHold, h]

/-- A reason that joins a hold set takes the record's Candidate List entry; one that stood takes nothing. -/
theorem State.candidates_addHold {s : State} {i : Nat} {r : WheelRecord} (h : s.record? i = some r)
    (reason : HoldReason) :
    (s.addHold i reason).candidates = if r.holds.has reason = true then s.candidates
      else s.candidates.filter fun c => decide (handleIndex c.handle ≠ i) := by
  simp only [State.addHold, h]
  split <;> rfl

@[simp] theorem State.record?_setOverdue (s : State) (i j : Nat) (b : Bool) :
    (s.setOverdue i b).record? j =
      if j = i then (s.record? i).map fun r => { r with overdue := b } else s.record? j := by
  unfold State.setOverdue
  split
  · rename_i h; split <;> simp_all
  · rename_i r h
    dsimp only
    split <;> simp [State.record?, State.latch, State.setRecord, Table.read?_write] <;> split <;> simp_all [State.record?]

theorem State.setOverdue_of_none {s : State} {i : Nat} (h : s.record? i = none) (b : Bool) :
    s.setOverdue i b = s := by
  simp [State.setOverdue, h]

/-- The overdue count follows a change of the flag (R23). -/
theorem State.overdueCount_setOverdue {s : State} {i : Nat} {r : WheelRecord} (h : s.record? i = some r) (b : Bool) :
    (s.setOverdue i b).registry.overdueCount =
      if r.overdue = false ∧ b = true then s.registry.overdueCount + 1
      else if r.overdue = true ∧ b = false then s.registry.overdueCount - 1
      else s.registry.overdueCount := by
  simp only [State.setOverdue, h]
  rcases r.overdue <;> cases b <;> simp

/-- A clear-to-set transition of the overdue flag latches OVERDUE (R65). -/
theorem State.attention_setOverdue {s : State} {i : Nat} {r : WheelRecord} (h : s.record? i = some r) (b : Bool) :
    (s.setOverdue i b).attention =
      if r.overdue = false ∧ b = true then ⟨s.attention.pending ||| 0x08#8, s.attention.mask⟩ else s.attention := by
  simp only [State.setOverdue, h]
  rcases r.overdue <;> cases b <;> simp <;> rfl

/-- A change that leaves the generations, the tag index and the overdue count alone changes records alone. -/
theorem Registry.eq_of_records {s t : State} (hg : t.registry.generations = s.registry.generations)
    (ht : t.registry.tagIndex = s.registry.tagIndex) (ho : t.registry.overdueCount = s.registry.overdueCount) :
    t.registry = { s.registry with records := t.registry.records } := by
  cases h : t.registry; simp_all

/-- A change that leaves the racks and the windows alone changes slots alone. -/
theorem ShelfMap.eq_of_slots {s t : State} (hr : t.shelf.racks = s.shelf.racks)
    (hw : t.shelf.windows = s.shelf.windows) : t.shelf = { s.shelf with slots := t.shelf.slots } := by
  cases h : t.shelf; simp_all

/-! ## Slots -/

@[simp] theorem State.slot_updSlot (s : State) (p q : Nat) (f : SlotRecord → SlotRecord) :
    (s.updSlot p f).slot q = if q = p then f (s.slot p) else s.slot q := by
  simp [State.slot, State.updSlot, Table.readD_writeD]

@[simp] theorem State.slot_reach (s : State) (p q : Nat) :
    (s.reach p).slot q = if q = p then { s.slot p with count := 0 } else s.slot q := by simp [State.reach]

@[simp] theorem State.slot_setEngaged (s : State) (p q : Nat) (b : Bool) :
    (s.setEngaged p b).slot q = if q = p then { s.slot p with engaged := b } else s.slot q := by
  simp [State.setEngaged]

@[simp] theorem State.slot_setDestEngaged (s : State) (d : Option Nat) (q : Nat) (b : Bool) :
    (s.setDestEngaged d b).slot q = if d = some q then { s.slot q with engaged := b } else s.slot q := by
  cases d with
  | none => simp [State.setDestEngaged]
  | some p => simp only [State.setDestEngaged, State.slot_setEngaged, Option.some.injEq]; split <;> split <;> simp_all

/-! ## Locations and occupants (R32) -/

@[simp] theorem State.record?_unlocate (s : State) (i j : Nat) :
    (s.unlocate i).record? j =
      if j = i then (s.record? i).map fun r => { r with location := none } else s.record? j := by
  unfold State.unlocate
  split
  · rename_i h; split <;> simp_all
  · rename_i r h
    split
    · rename_i hl
      split
      · subst_vars; rw [h, Option.map_some, ← hl]
      · rfl
    · simp [h]

@[simp] theorem State.slot_unlocate (s : State) (i p : Nat) :
    (s.unlocate i).slot p =
      if (s.record? i).bind (fun r => r.location) = some p then { s.slot p with occupant := none } else s.slot p := by
  unfold State.unlocate
  split
  · rename_i h; simp [h]
  · rename_i r h
    split
    · rename_i hl; simp [h, hl]
    · rename_i q hl
      simp only [State.setRecord_views, State.slot_updSlot, h, hl, Option.bind_some, Option.some.injEq, eq_comm]
      split <;> simp_all

@[simp] theorem State.record?_locate (s : State) (i p j : Nat) :
    (s.locate i p).record? j =
      if j = i then (s.record? i).map fun r => { r with location := some p } else s.record? j := by
  simp [State.locate]

@[simp] theorem State.slot_locate (s : State) (i p q : Nat) :
    (s.locate i p).slot q = if q = p then { s.slot p with occupant := some i } else s.slot q := by
  simp [State.locate]

@[simp] theorem State.record?_locateAt (s : State) (i j : Nat) (p : Option Nat) :
    (s.locateAt i p).record? j =
      if j = i then (s.record? i).map fun r => { r with location := p.orElse fun _ => r.location }
      else s.record? j := by
  cases p with
  | none =>
    simp only [State.locateAt]
    split
    · subst_vars; cases s.record? j <;> simp
    · rfl
  | some p => simp [State.locateAt]

@[simp] theorem State.slot_locateAt (s : State) (i q : Nat) (p : Option Nat) :
    (s.locateAt i p).slot q = if p = some q then { s.slot q with occupant := some i } else s.slot q := by
  cases p with
  | none => simp [State.locateAt]
  | some p => simp only [State.locateAt, State.slot_locate, Option.some.injEq, eq_comm]; split <;> simp_all

@[simp] theorem State.record?_moveRecord (s : State) (i j : Nat) (p : Option Nat) :
    (s.moveRecord i p).record? j =
      if j = i then (s.record? i).map fun r => { r with location := p } else s.record? j := by
  unfold State.moveRecord
  cases p <;> simp <;> split <;> simp_all [Function.comp_def]

@[simp] theorem State.slot_moveRecord (s : State) (i q : Nat) (p : Option Nat) :
    (s.moveRecord i p).slot q = { s.slot q with
      occupant := if p = some q then some i
        else if (s.record? i).bind (fun r => r.location) = some q then none else (s.slot q).occupant } := by
  unfold State.moveRecord
  simp only [State.dropCandidate_views, State.slot_locateAt, State.slot_unlocate]
  split <;> split <;> simp_all

/-! ## Relocations (R115) -/

@[simp] theorem State.relocations_endRelocation (s : State) (h : Nat) :
    (s.endRelocation h).relocations = s.relocations.filter fun q => decide (q.wheel ≠ h) := by
  unfold State.endRelocation
  split
  · rename_i hn
    simp only [State.relocationOf?, List.find?_eq_none, decide_eq_true_eq] at hn
    exact (List.filter_eq_self.2 fun q hq => by simpa using hn q hq).symm
  · simp

@[simp] theorem State.record?_endRelocation (s : State) (h j : Nat) :
    (s.endRelocation h).record? j =
      if j = handleIndex h ∧ s.relocationOf? h ≠ none
      then (s.record? j).map fun r => { r with relocationPending := false } else s.record? j := by
  unfold State.endRelocation
  split
  · rename_i hn; simp [hn]
  · rename_i q hq
    simp only [State.record?_updRecord, State.updSlot_views, hq, ne_eq, reduceCtorEq, not_false_eq_true, and_true]
    split
    · subst_vars; rfl
    · rfl

@[simp] theorem State.slot_endRelocation (s : State) (h p : Nat) :
    (s.endRelocation h).slot p =
      if (s.relocationOf? h).map (fun q => q.dest) = some p then { s.slot p with reserved := false } else s.slot p := by
  unfold State.endRelocation
  split
  · rename_i hn; simp [hn]
  · rename_i q hq
    simp only [State.updRecord_views, State.slot_updSlot, hq, Option.map_some, Option.some.injEq, eq_comm]
    split
    · subst_vars; rfl
    · rfl

/-! ## Visits (R88, R94, R101) -/

@[simp] theorem State.record?_releaseVisit (s : State) (v : Visit) (j : Nat) :
    (s.releaseVisit v).record? j =
      if v.wheel.map handleIndex = some j then (s.record? j).map fun r => { r with claim := .none }
      else s.record? j := by
  unfold State.releaseVisit
  dsimp only
  rcases v.wheel with _ | h
  · simp
  · cases v.dest <;> simp [eq_comm] <;> split <;> simp_all

@[simp] theorem State.slot_releaseVisit (s : State) (v : Visit) (p : Nat) :
    (s.releaseVisit v).slot p =
      if p = v.source ∨ v.dest = some p then { s.slot p with engaged := false } else s.slot p := by
  unfold State.releaseVisit
  dsimp only
  rcases v.wheel with _ | h <;> rcases hd : v.dest with _ | d <;> simp <;> split <;> simp_all <;> split <;> simp_all

@[simp] theorem State.record?_engageVisit (s : State) (v : Visit) (j : Nat) :
    (s.engageVisit v).record? j =
      if v.wheel.map handleIndex = some j then (s.record? j).map fun r => { r with claim := .claimed }
      else s.record? j := by
  unfold State.engageVisit
  dsimp only
  rcases v.wheel with _ | h
  · simp
  · cases v.dest <;> simp [eq_comm] <;> split <;> simp_all

@[simp] theorem State.slot_engageVisit (s : State) (v : Visit) (p : Nat) :
    (s.engageVisit v).slot p =
      if p = v.source ∨ v.dest = some p then { s.slot p with engaged := true } else s.slot p := by
  unfold State.engageVisit
  dsimp only
  rcases v.wheel with _ | h <;> rcases hd : v.dest with _ | d <;> simp <;> split <;> simp_all <;> split <;> simp_all

@[simp] theorem State.record?_doubtVisit (s : State) (v : Visit) (j : Nat) :
    (s.doubtVisit v).record? j =
      if v.wheel.map handleIndex = some j
      then (s.record? j).map fun r => { r with holds := { r.holds with unconfirmed := true } } else s.record? j := by
  unfold State.doubtVisit
  rcases v.wheel with _ | h
  · simp
  · simp [eq_comm, Holds.put]; split <;> simp_all

/-! ## Orders -/

/-- A change of the order of a number, by a change that keeps its number. -/
theorem State.order?_updOrder (s : State) (n m : Nat) (f : Order → Order) (hf : ∀ o, (f o).number = o.number) :
    (s.updOrder n f).order? m = if m = n then (s.order? n).map f else s.order? m := by
  simp only [State.order?, State.updOrder]
  induction s.dispatcher.window with
  | nil => simp
  | cons o rest ih =>
    simp only [List.map_cons, List.find?_cons]
    by_cases h1 : o.number = n
    · by_cases h2 : m = n
      · simp [h1, h2, hf]
      · have h3 : ¬n = m := fun h => h2 h.symm
        simp only [h1, if_true, hf, h3, decide_false, h2, if_false] at ih ⊢
        exact ih
    · by_cases h2 : m = n
      · simp only [h1, if_false, h2, decide_false, if_true] at ih ⊢
        exact ih
      · simp only [h1, if_false, h2] at ih ⊢
        split
        · rfl
        · exact ih

theorem State.order?_loadTimer (s : State) (n k m : Nat) : (s.loadTimer n k).order? m =
    if m = n then (s.order? n).map fun o => { o with timer := k } else s.order? m :=
  State.order?_updOrder s n m (fun o => { o with timer := k }) fun _ => rfl

theorem State.order?_setVisitState (s : State) (n v m : Nat) (st : VisitState) : (s.setVisitState n v st).order? m =
    if m = n then (s.order? n).map fun o => o.updVisit v fun u => { u with state := st } else s.order? m :=
  State.order?_updOrder s n m (fun o => o.updVisit v fun u => { u with state := st }) fun _ => rfl

/-- The order a number finds has that number. -/
theorem State.number_of_order? {s : State} {n : Nat} {o : Order} (h : s.order? n = some o) : o.number = n := by
  simpa using List.find?_some h

/-- The visit a number finds has that number. -/
theorem Order.number_of_visit? {o : Order} {n : Nat} {v : Visit} (h : o.visit? n = some v) : v.number = n := by
  simpa using List.find?_some h

/-- An order taken out of the window is outstanding no more; the others are. -/
theorem State.order?_dropOrder (s : State) (n m : Nat) :
    (s.dropOrder n).order? m = if m = n then none else s.order? m := by
  simp only [State.order?, State.dropOrder]
  induction s.dispatcher.window with
  | nil => simp
  | cons o rest ih =>
    by_cases h1 : o.number = n
    · by_cases h2 : m = n
      · simp only [List.filter_cons, h1, h2, if_true] at ih ⊢; simpa using ih
      · have h3 : ¬n = m := fun h => h2 h.symm
        simp only [List.filter_cons, h1, h2, if_false, List.find?_cons, h3, decide_false] at ih ⊢; simpa using ih
    · by_cases h2 : m = n
      · simp only [List.filter_cons, h1, h2, if_true, ne_eq, not_false_eq_true, decide_true, List.find?_cons,
          decide_false] at ih ⊢
        exact ih
      · simp only [List.filter_cons, h1, h2, if_false, ne_eq, not_false_eq_true, decide_true, if_true,
          List.find?_cons] at ih ⊢
        split
        · rfl
        · exact ih

/-! ## Zones and sensor entries -/

@[simp] theorem State.zone_setZone (s : State) (z y : Nat) (v : Zone) :
    (s.setZone z v).zone y = if y = z then v else s.zone y := by
  simp [State.zone, State.setZone, Table.readD_writeD]

@[simp] theorem State.sensor_setSensorEntry (s : State) (e j : Nat) (v : SensorEntry) :
    (s.setSensorEntry e v).sensor j = if j = e then v else s.sensor j := by
  simp [State.sensor, State.setSensorEntry, Table.readD_writeD]

/-- Every zone after the staged records are made active (R163). -/
theorem State.zone_activateStaged (s : State) (z : Nat)
    (h : s.zones.canonical (fun _ => Zone.cold) = true) : (s.activateStaged).zone z = (s.zone z).activate :=
  Table.readD_mapD s.zones (fun _ => Zone.cold) (fun _ z => z.activate) z (Table.ordered_of_canonical h) rfl

/-- A zone whose staged record, if it has one, has become active. -/
theorem Zone.activate_eq (z : Zone) : z.activate = { z with active := z.staged.getD z.active, staged := none } := by
  unfold Zone.activate
  split
  · rename_i h; cases z; simp_all
  · rename_i h; simp [h]

end Sys2Proof.Machine
end

