-- ==== Sys2Proof/Laws/Serve.lean ====
section
/-! SUPPORT. How a request is served at a port that can take it: the owner's answer is the state, and its reply
stands in the reply slot. -/

namespace Sys2Proof.Machine

/-- What `State.free` says. -/
theorem State.free_iff (s : State) (p : PortId) : s.free p = true ↔
    s.operating = true ∧ (s.portState p).isProcessing = false ∧ s.offBus = false ∧
    (p = .registry → s.port.restart ≠ some true) := by
  simp only [State.free, Bool.and_eq_true, Bool.not_eq_true', decide_eq_true_eq, Bool.or_eq_true, and_assoc]
  cases p <;> simp

theorem State.discardKept_of_free {s : State} {p : PortId} (h : s.free p = true) : s.discardKept p = s := by
  have h := ((s.free_iff p).1 h).2.2.2
  unfold State.discardKept
  split
  · rename_i hp; exact absurd hp.2 (h hp.1)
  · rfl

/-- A port that can take a request serves it. -/
theorem State.serve_of_free {s t : State} {p : PortId} {i : Instr} {owner : State → State × Reply} {r : Reply}
    (h : s.free p = true) (ho : owner s = (t, r)) : s.serve p i owner = t.setPort p (.ready r) := by
  have hf := (s.free_iff p).1 h
  have hd := State.discardKept_of_free h
  unfold State.serve
  simp only [hf.1, if_true]
  split
  · rename_i x hx
    rw [hx] at hf
    exact absurd hf.2.1 (by simp [PortState.isProcessing])
  · simp [hf.2.2.1, hd, ho, State.placeReply]

theorem State.host_of_free {s t : State} {i : Instr} {owner : State → State × Reply} {r : Reply}
    (h : s.free .registry = true) (ho : owner s = (t, r)) :
    s.host i owner = .next (t.setPort .registry (.ready r)) :=
  congrArg _ (State.serve_of_free h ho)

theorem State.robot_of_free {s t : State} {i : Instr} {owner : State → State × Reply} {r : Reply}
    (h : s.free .turner = true) (ho : owner s = (t, r)) :
    s.robot i owner = .next (t.setPort .turner (.ready r)) :=
  congrArg _ (State.serve_of_free h ho)

/-- The answer of a registry request at a free port, whatever its owner gives. -/
theorem State.host_eq_of_free {s : State} {i : Instr} {owner : State → State × Reply} (h : s.free .registry = true) :
    s.host i owner = .next ((owner s).1.setPort .registry (.ready (owner s).2)) := State.host_of_free h rfl

/-- The answer of a turner request at a free port, whatever its owner gives. -/
theorem State.robot_eq_of_free {s : State} {i : Instr} {owner : State → State × Reply} (h : s.free .turner = true) :
    s.robot i owner = .next ((owner s).1.setPort .turner (.ready (owner s).2)) := State.robot_of_free h rfl

/-- A part without power or in a start serves nothing (R196). -/
theorem State.serve_of_not_operating {s : State} (h : s.operating = false) (p : PortId) (i : Instr)
    (owner : State → State × Reply) : s.serve p i owner = s := by
  simp [State.serve, h]

/-- In PROCESSING the owner takes the request of the slot, and no other command is taken (R181). -/
theorem State.serve_of_processing {s : State} {p : PortId} {x : Request} (h : s.operating = true)
    (hp : s.portState p = .processing x) (i : Instr) (owner : State → State × Reply) :
    s.serve p i owner = if x = .command i then s.ownerTakes p owner else s := by
  simp [State.serve, h, hp]

/-- In every other port state the request is written and taken in one event, unless the part stays off the bus (R158,
R181). -/
theorem State.serve_of_not_processing {s : State} {p : PortId} (h : s.operating = true)
    (hp : (s.portState p).isProcessing = false) (i : Instr) (owner : State → State × Reply) :
    s.serve p i owner = if s.offBus = true then s else
      (owner (s.discardKept p)).1.setPort p (.ready (owner (s.discardKept p)).2) := by
  simp only [State.serve, h, if_true]
  split
  · rename_i x hx; rw [hx] at hp; simp [PortState.isProcessing] at hp
  · rfl

@[simp] theorem State.portState_setPort (s : State) (p q : PortId) (x : PortState) :
    (s.setPort p x).portState q = if q = p then x else s.portState q := by
  cases p <;> cases q <;> simp [State.setPort, State.portState]

@[simp] theorem State.portState_takeSlot (s : State) (p q : PortId) :
    (s.takeSlot p).portState q = if q = p then .idle else s.portState q := by
  rw [State.takeSlot, State.portState_setPort]
  split
  · rfl
  · cases q <;> rfl

/-- The owners take nothing where no port is PROCESSING. -/
theorem State.ownersTake_of_not_processing {s : State} (hr : (s.portState .registry).isProcessing = false)
    (ht : (s.portState .turner).isProcessing = false) : s.ownersTake = s := by
  have key : ∀ p, (s.portState p).isProcessing = false → s.takeMalformed p = s := by
    intro p hp
    unfold State.takeMalformed
    split
    · rename_i x hx; rw [hx] at hp; simp [PortState.isProcessing] at hp
    · rfl
  simp [State.ownersTake, key _ hr, key _ ht]

/-- A request of a handle that is not stale is served with the index and the record it names. -/
theorem State.withHandle_of_named {s : State} {h i : Nat} {r : WheelRecord} (hn : s.named? h = some i)
    (hr : s.record? i = some r) (f : Nat → WheelRecord → State × Reply) : s.withHandle h f = f i r := by
  simp [State.withHandle, hn, hr]

/-- A request of a stale handle is refused (R3). -/
theorem State.withHandle_of_stale {s : State} {h : Nat} (hn : s.named? h = none)
    (f : Nat → WheelRecord → State × Reply) : s.withHandle h f = s.refuse .staleHandle := by
  simp [State.withHandle, hn]

/-- A handle names its own index, live and at its generation (R3). -/
theorem State.named?_eq_some {s : State} {h i : Nat} : s.named? h = some i ↔
    i = handleIndex h ∧ (∃ r, s.record? i = some r) ∧ s.generation i = handleGeneration h := by
  unfold State.named?
  split
  · rename_i hr
    constructor
    · simp
    · rintro ⟨rfl, ⟨r, hr'⟩, _⟩; simp [hr] at hr'
  · rename_i r hr
    split
    · rename_i hg
      constructor
      · intro he; cases he; exact ⟨rfl, ⟨r, hr⟩, hg⟩
      · rintro ⟨rfl, _, _⟩; rfl
    · rename_i hg
      constructor
      · simp
      · rintro ⟨rfl, _, h⟩; exact absurd h hg

/-- The handle a request names is the one its record has now (R3). -/
theorem State.handleOf_named {s : State} {h i : Nat} (hn : s.named? h = some i) : s.handleOf i = h := by
  obtain ⟨rfl, _, hg⟩ := State.named?_eq_some.1 hn
  unfold State.handleOf
  rw [hg]
  unfold handleGeneration handleIndex
  omega

end Sys2Proof.Machine
end

