-- ==== Sys2Proof/Laws/Composites.lean ====
section
/-! SUPPORT. For each larger change (a comparison, a visit's end, an order's issue and end, a poller's round), the
fields it leaves alone. -/

namespace Sys2Proof.Machine

/-- What a step of a fold leaves alone, the fold leaves alone. -/
theorem foldl_unchanged {α β γ : Type} (g : α → γ) (f : α → β → α) (h : ∀ s x, g (f s x) = g s) (l : List β) (s : α) :
    g (l.foldl f s) = g s := by
  induction l generalizing s with
  | nil => rfl
  | cons x l ih => rw [List.foldl_cons, ih, h]

@[simp] theorem State.releasePairs_fields (s : State) (l : List (Nat × HoldReason)) :
    (s.releasePairs l).shelf = s.shelf ∧ (s.releasePairs l).classes = s.classes ∧
    (s.releasePairs l).sweep = s.sweep ∧ (s.releasePairs l).candidates = s.candidates ∧
    (s.releasePairs l).dispatcher = s.dispatcher ∧ (s.releasePairs l).relocations = s.relocations ∧
    (s.releasePairs l).census = s.census ∧ (s.releasePairs l).discrepancies = s.discrepancies ∧
    (s.releasePairs l).poller = s.poller ∧ (s.releasePairs l).zones = s.zones ∧ (s.releasePairs l).port = s.port ∧
    (s.releasePairs l).attention = s.attention ∧ (s.releasePairs l).clock = s.clock ∧
    (s.releasePairs l).supply = s.supply ∧ (s.releasePairs l).pending = s.pending := by
  unfold State.releasePairs
  exact ⟨foldl_unchanged State.shelf _ (fun s x => by simp) _ _,
    foldl_unchanged State.classes _ (fun s x => by simp) _ _,
    foldl_unchanged State.sweep _ (fun s x => by simp) _ _,
    foldl_unchanged State.candidates _ (fun s x => by simp) _ _,
    foldl_unchanged State.dispatcher _ (fun s x => by simp) _ _,
    foldl_unchanged State.relocations _ (fun s x => by simp) _ _,
    foldl_unchanged State.census _ (fun s x => by simp) _ _,
    foldl_unchanged State.discrepancies _ (fun s x => by simp) _ _,
    foldl_unchanged State.poller _ (fun s x => by simp) _ _,
    foldl_unchanged State.zones _ (fun s x => by simp) _ _,
    foldl_unchanged State.port _ (fun s x => by simp) _ _,
    foldl_unchanged State.attention _ (fun s x => by simp) _ _,
    foldl_unchanged State.clock _ (fun s x => by simp) _ _,
    foldl_unchanged State.supply _ (fun s x => by simp) _ _,
    foldl_unchanged State.pending _ (fun s x => by simp) _ _⟩

@[simp] theorem State.foldl_placePair_fields (s : State) (l : List (Nat × HoldReason)) :
    (l.foldl State.placePair s).shelf = s.shelf ∧ (l.foldl State.placePair s).classes = s.classes ∧
    (l.foldl State.placePair s).sweep = s.sweep ∧ (l.foldl State.placePair s).dispatcher = s.dispatcher ∧
    (l.foldl State.placePair s).relocations = s.relocations ∧ (l.foldl State.placePair s).census = s.census ∧
    (l.foldl State.placePair s).discrepancies = s.discrepancies ∧ (l.foldl State.placePair s).poller = s.poller ∧
    (l.foldl State.placePair s).zones = s.zones ∧ (l.foldl State.placePair s).port = s.port ∧
    (l.foldl State.placePair s).attention = s.attention ∧ (l.foldl State.placePair s).clock = s.clock ∧
    (l.foldl State.placePair s).supply = s.supply ∧ (l.foldl State.placePair s).pending = s.pending := by
  exact ⟨foldl_unchanged State.shelf _ (fun s x => by simp) _ _,
    foldl_unchanged State.classes _ (fun s x => by simp) _ _,
    foldl_unchanged State.sweep _ (fun s x => by simp) _ _,
    foldl_unchanged State.dispatcher _ (fun s x => by simp) _ _,
    foldl_unchanged State.relocations _ (fun s x => by simp) _ _,
    foldl_unchanged State.census _ (fun s x => by simp) _ _,
    foldl_unchanged State.discrepancies _ (fun s x => by simp) _ _,
    foldl_unchanged State.poller _ (fun s x => by simp) _ _,
    foldl_unchanged State.zones _ (fun s x => by simp) _ _,
    foldl_unchanged State.port _ (fun s x => by simp) _ _,
    foldl_unchanged State.attention _ (fun s x => by simp) _ _,
    foldl_unchanged State.clock _ (fun s x => by simp) _ _,
    foldl_unchanged State.supply _ (fun s x => by simp) _ _,
    foldl_unchanged State.pending _ (fun s x => by simp) _ _⟩

@[simp] theorem State.foldl_engageVisit_fields (s : State) (l : List Visit) :
    (l.foldl State.engageVisit s).classes = s.classes ∧ (l.foldl State.engageVisit s).sweep = s.sweep ∧
    (l.foldl State.engageVisit s).dispatcher = s.dispatcher ∧ (l.foldl State.engageVisit s).census = s.census ∧
    (l.foldl State.engageVisit s).discrepancies = s.discrepancies ∧ (l.foldl State.engageVisit s).poller = s.poller ∧
    (l.foldl State.engageVisit s).zones = s.zones ∧ (l.foldl State.engageVisit s).port = s.port ∧
    (l.foldl State.engageVisit s).attention = s.attention ∧ (l.foldl State.engageVisit s).clock = s.clock ∧
    (l.foldl State.engageVisit s).supply = s.supply ∧ (l.foldl State.engageVisit s).pending = s.pending := by
  exact ⟨foldl_unchanged State.classes _ (fun s x => by simp) _ _,
    foldl_unchanged State.sweep _ (fun s x => by simp) _ _,
    foldl_unchanged State.dispatcher _ (fun s x => by simp) _ _,
    foldl_unchanged State.census _ (fun s x => by simp) _ _,
    foldl_unchanged State.discrepancies _ (fun s x => by simp) _ _,
    foldl_unchanged State.poller _ (fun s x => by simp) _ _,
    foldl_unchanged State.zones _ (fun s x => by simp) _ _,
    foldl_unchanged State.port _ (fun s x => by simp) _ _,
    foldl_unchanged State.attention _ (fun s x => by simp) _ _,
    foldl_unchanged State.clock _ (fun s x => by simp) _ _,
    foldl_unchanged State.supply _ (fun s x => by simp) _ _,
    foldl_unchanged State.pending _ (fun s x => by simp) _ _⟩

@[simp] theorem State.dismissEntry_fields (s : State) (p : Nat) :
    (s.dismissEntry p).shelf = s.shelf ∧ (s.dismissEntry p).classes = s.classes ∧
    (s.dismissEntry p).sweep = s.sweep ∧ (s.dismissEntry p).candidates = s.candidates ∧
    (s.dismissEntry p).dispatcher = s.dispatcher ∧ (s.dismissEntry p).relocations = s.relocations ∧
    (s.dismissEntry p).census = s.census ∧ (s.dismissEntry p).poller = s.poller ∧
    (s.dismissEntry p).zones = s.zones ∧ (s.dismissEntry p).port = s.port ∧
    (s.dismissEntry p).attention = s.attention ∧ (s.dismissEntry p).clock = s.clock ∧
    (s.dismissEntry p).supply = s.supply ∧ (s.dismissEntry p).pending = s.pending := by
  unfold State.dismissEntry
  try dsimp only
  refine ⟨?_, ?_, ?_, ?_, ?_, ?_, ?_, ?_, ?_, ?_, ?_, ?_, ?_, ?_⟩ <;> (repeat' split) <;> simp

@[simp] theorem State.writeEntry_fields (s : State) (k : Nat) (e : Discrepancy) (old : Option Discrepancy) :
    (s.writeEntry k e old).shelf = s.shelf ∧ (s.writeEntry k e old).classes = s.classes ∧
    (s.writeEntry k e old).sweep = s.sweep ∧ (s.writeEntry k e old).dispatcher = s.dispatcher ∧
    (s.writeEntry k e old).relocations = s.relocations ∧ (s.writeEntry k e old).census = s.census ∧
    (s.writeEntry k e old).poller = s.poller ∧ (s.writeEntry k e old).zones = s.zones ∧
    (s.writeEntry k e old).port = s.port ∧ (s.writeEntry k e old).clock = s.clock ∧
    (s.writeEntry k e old).supply = s.supply ∧ (s.writeEntry k e old).pending = s.pending := by
  unfold State.writeEntry
  try dsimp only
  refine ⟨?_, ?_, ?_, ?_, ?_, ?_, ?_, ?_, ?_, ?_, ?_, ?_⟩ <;> (repeat' split) <;> simp

@[simp] theorem State.tableFull_fields (s : State) (p : Nat) (f : Finding) :
    (s.tableFull p f).classes = s.classes ∧ (s.tableFull p f).sweep = s.sweep ∧
    (s.tableFull p f).dispatcher = s.dispatcher ∧ (s.tableFull p f).relocations = s.relocations ∧
    (s.tableFull p f).census = s.census ∧ (s.tableFull p f).discrepancies = s.discrepancies ∧
    (s.tableFull p f).poller = s.poller ∧ (s.tableFull p f).zones = s.zones ∧ (s.tableFull p f).port = s.port ∧
    (s.tableFull p f).clock = s.clock ∧ (s.tableFull p f).supply = s.supply ∧ (s.tableFull p f).pending = s.pending := by
  unfold State.tableFull
  try dsimp only
  refine ⟨?_, ?_, ?_, ?_, ?_, ?_, ?_, ?_, ?_, ?_, ?_, ?_⟩ <;> simp

@[simp] theorem State.enterFinding_fields (s : State) (p : Nat) (f : Finding) :
    (s.enterFinding p f).classes = s.classes ∧ (s.enterFinding p f).sweep = s.sweep ∧
    (s.enterFinding p f).dispatcher = s.dispatcher ∧ (s.enterFinding p f).relocations = s.relocations ∧
    (s.enterFinding p f).census = s.census ∧ (s.enterFinding p f).poller = s.poller ∧
    (s.enterFinding p f).zones = s.zones ∧ (s.enterFinding p f).port = s.port ∧
    (s.enterFinding p f).clock = s.clock ∧ (s.enterFinding p f).supply = s.supply ∧
    (s.enterFinding p f).pending = s.pending := by
  unfold State.enterFinding
  try dsimp only
  refine ⟨?_, ?_, ?_, ?_, ?_, ?_, ?_, ?_, ?_, ?_, ?_⟩ <;> (repeat' split) <;> simp

@[simp] theorem State.confirm_fields (s : State) (p : Nat) :
    (s.confirm p).classes = s.classes ∧ (s.confirm p).sweep = s.sweep ∧ (s.confirm p).candidates = s.candidates ∧
    (s.confirm p).dispatcher = s.dispatcher ∧ (s.confirm p).relocations = s.relocations ∧
    (s.confirm p).census = s.census ∧ (s.confirm p).poller = s.poller ∧ (s.confirm p).zones = s.zones ∧
    (s.confirm p).port = s.port ∧ (s.confirm p).attention = s.attention ∧ (s.confirm p).clock = s.clock ∧
    (s.confirm p).supply = s.supply ∧ (s.confirm p).pending = s.pending := by
  unfold State.confirm
  try dsimp only
  refine ⟨?_, ?_, ?_, ?_, ?_, ?_, ?_, ?_, ?_, ?_, ?_, ?_, ?_⟩ <;> (repeat' split) <;> simp

@[simp] theorem State.compare_fields (s : State) (p : Nat) (r : TagReport) :
    (s.compare p r).1.classes = s.classes ∧ (s.compare p r).1.sweep = s.sweep ∧
    (s.compare p r).1.dispatcher = s.dispatcher ∧ (s.compare p r).1.relocations = s.relocations ∧
    (s.compare p r).1.census = s.census ∧ (s.compare p r).1.poller = s.poller ∧ (s.compare p r).1.zones = s.zones ∧
    (s.compare p r).1.port = s.port ∧ (s.compare p r).1.clock = s.clock ∧ (s.compare p r).1.supply = s.supply ∧
    (s.compare p r).1.pending = s.pending := by
  unfold State.compare
  try dsimp only
  refine ⟨?_, ?_, ?_, ?_, ?_, ?_, ?_, ?_, ?_, ?_, ?_⟩ <;> (repeat' split) <;> simp

@[simp] theorem State.unseatExpected_fields (s : State) (p : Nat) :
    (s.unseatExpected p).classes = s.classes ∧ (s.unseatExpected p).sweep = s.sweep ∧
    (s.unseatExpected p).dispatcher = s.dispatcher ∧ (s.unseatExpected p).relocations = s.relocations ∧
    (s.unseatExpected p).census = s.census ∧ (s.unseatExpected p).discrepancies = s.discrepancies ∧
    (s.unseatExpected p).poller = s.poller ∧ (s.unseatExpected p).zones = s.zones ∧
    (s.unseatExpected p).port = s.port ∧ (s.unseatExpected p).attention = s.attention ∧
    (s.unseatExpected p).clock = s.clock ∧ (s.unseatExpected p).supply = s.supply ∧
    (s.unseatExpected p).pending = s.pending := by
  unfold State.unseatExpected
  try dsimp only
  refine ⟨?_, ?_, ?_, ?_, ?_, ?_, ?_, ?_, ?_, ?_, ?_, ?_, ?_⟩ <;> (repeat' split) <;> simp

@[simp] theorem State.seatSeen_fields (s : State) (p h : Nat) :
    (s.seatSeen p h).classes = s.classes ∧ (s.seatSeen p h).sweep = s.sweep ∧
    (s.seatSeen p h).dispatcher = s.dispatcher ∧ (s.seatSeen p h).census = s.census ∧
    (s.seatSeen p h).discrepancies = s.discrepancies ∧ (s.seatSeen p h).poller = s.poller ∧
    (s.seatSeen p h).zones = s.zones ∧ (s.seatSeen p h).port = s.port ∧ (s.seatSeen p h).attention = s.attention ∧
    (s.seatSeen p h).clock = s.clock ∧ (s.seatSeen p h).supply = s.supply ∧ (s.seatSeen p h).pending = s.pending := by
  unfold State.seatSeen
  try dsimp only
  refine ⟨?_, ?_, ?_, ?_, ?_, ?_, ?_, ?_, ?_, ?_, ?_, ?_⟩ <;> (repeat' split) <;> simp

@[simp] theorem State.adopt_fields (s : State) (p k : Nat) (e : Discrepancy) :
    (s.adopt p k e).classes = s.classes ∧ (s.adopt p k e).sweep = s.sweep ∧
    (s.adopt p k e).dispatcher = s.dispatcher ∧ (s.adopt p k e).census = s.census ∧
    (s.adopt p k e).poller = s.poller ∧ (s.adopt p k e).zones = s.zones ∧ (s.adopt p k e).port = s.port ∧
    (s.adopt p k e).attention = s.attention ∧ (s.adopt p k e).clock = s.clock ∧ (s.adopt p k e).supply = s.supply ∧
    (s.adopt p k e).pending = s.pending := by
  unfold State.adopt
  try dsimp only
  refine ⟨?_, ?_, ?_, ?_, ?_, ?_, ?_, ?_, ?_, ?_, ?_⟩ <;> (repeat' split) <;> simp

@[simp] theorem State.retireRecord_fields (s : State) (i : Nat) (r : WheelRecord) :
    (s.retireRecord i r).classes = s.classes ∧ (s.retireRecord i r).sweep = s.sweep ∧
    (s.retireRecord i r).dispatcher = s.dispatcher ∧ (s.retireRecord i r).census = s.census ∧
    (s.retireRecord i r).poller = s.poller ∧ (s.retireRecord i r).zones = s.zones ∧
    (s.retireRecord i r).port = s.port ∧ (s.retireRecord i r).clock = s.clock ∧
    (s.retireRecord i r).supply = s.supply ∧ (s.retireRecord i r).pending = s.pending := by
  unfold State.retireRecord
  try dsimp only
  refine ⟨?_, ?_, ?_, ?_, ?_, ?_, ?_, ?_, ?_, ?_⟩ <;> simp

@[simp] theorem State.queueRelocation_fields (s : State) (i p : Nat) :
    (s.queueRelocation i p).classes = s.classes ∧ (s.queueRelocation i p).sweep = s.sweep ∧
    (s.queueRelocation i p).candidates = s.candidates ∧ (s.queueRelocation i p).dispatcher = s.dispatcher ∧
    (s.queueRelocation i p).census = s.census ∧ (s.queueRelocation i p).discrepancies = s.discrepancies ∧
    (s.queueRelocation i p).poller = s.poller ∧ (s.queueRelocation i p).zones = s.zones ∧
    (s.queueRelocation i p).port = s.port ∧ (s.queueRelocation i p).attention = s.attention ∧
    (s.queueRelocation i p).clock = s.clock ∧ (s.queueRelocation i p).supply = s.supply ∧
    (s.queueRelocation i p).pending = s.pending := by
  unfold State.queueRelocation
  try dsimp only
  refine ⟨?_, ?_, ?_, ?_, ?_, ?_, ?_, ?_, ?_, ?_, ?_, ?_, ?_⟩ <;> simp

@[simp] theorem State.admitAt_fields (s : State) (i : Nat) (r : WheelRecord) :
    (s.admitAt i r).shelf = s.shelf ∧ (s.admitAt i r).classes = s.classes ∧ (s.admitAt i r).sweep = s.sweep ∧
    (s.admitAt i r).candidates = s.candidates ∧ (s.admitAt i r).dispatcher = s.dispatcher ∧
    (s.admitAt i r).relocations = s.relocations ∧ (s.admitAt i r).census = s.census ∧
    (s.admitAt i r).discrepancies = s.discrepancies ∧ (s.admitAt i r).poller = s.poller ∧
    (s.admitAt i r).zones = s.zones ∧ (s.admitAt i r).port = s.port ∧ (s.admitAt i r).attention = s.attention ∧
    (s.admitAt i r).clock = s.clock ∧ (s.admitAt i r).supply = s.supply ∧ (s.admitAt i r).pending = s.pending := by
  unfold State.admitAt
  try dsimp only
  refine ⟨?_, ?_, ?_, ?_, ?_, ?_, ?_, ?_, ?_, ?_, ?_, ?_, ?_, ?_, ?_⟩ <;> simp

@[simp] theorem State.clearOverdueOn_fields (s : State) (i : Nat) (a : ActionSet) :
    (s.clearOverdueOn i a).shelf = s.shelf ∧ (s.clearOverdueOn i a).classes = s.classes ∧
    (s.clearOverdueOn i a).sweep = s.sweep ∧ (s.clearOverdueOn i a).candidates = s.candidates ∧
    (s.clearOverdueOn i a).dispatcher = s.dispatcher ∧ (s.clearOverdueOn i a).relocations = s.relocations ∧
    (s.clearOverdueOn i a).census = s.census ∧ (s.clearOverdueOn i a).discrepancies = s.discrepancies ∧
    (s.clearOverdueOn i a).poller = s.poller ∧ (s.clearOverdueOn i a).zones = s.zones ∧
    (s.clearOverdueOn i a).port = s.port ∧ (s.clearOverdueOn i a).clock = s.clock ∧
    (s.clearOverdueOn i a).supply = s.supply ∧ (s.clearOverdueOn i a).pending = s.pending := by
  unfold State.clearOverdueOn
  try dsimp only
  refine ⟨?_, ?_, ?_, ?_, ?_, ?_, ?_, ?_, ?_, ?_, ?_, ?_, ?_, ?_⟩ <;> (repeat' split) <;> simp

@[simp] theorem State.workDone_fields (s : State) (i : Nat) (a : ActionSet) (w : Option Nat) :
    (s.workDone i a w).shelf = s.shelf ∧ (s.workDone i a w).classes = s.classes ∧
    (s.workDone i a w).sweep = s.sweep ∧ (s.workDone i a w).candidates = s.candidates ∧
    (s.workDone i a w).dispatcher = s.dispatcher ∧ (s.workDone i a w).relocations = s.relocations ∧
    (s.workDone i a w).census = s.census ∧ (s.workDone i a w).discrepancies = s.discrepancies ∧
    (s.workDone i a w).poller = s.poller ∧ (s.workDone i a w).zones = s.zones ∧ (s.workDone i a w).port = s.port ∧
    (s.workDone i a w).clock = s.clock ∧ (s.workDone i a w).supply = s.supply ∧
    (s.workDone i a w).pending = s.pending := by
  unfold State.workDone
  try dsimp only
  refine ⟨?_, ?_, ?_, ?_, ?_, ?_, ?_, ?_, ?_, ?_, ?_, ?_, ?_, ?_⟩ <;> simp

@[simp] theorem State.moveDone_fields (s : State) (h p : Nat) (w : Option Nat) :
    (s.moveDone h p w).classes = s.classes ∧ (s.moveDone h p w).sweep = s.sweep ∧
    (s.moveDone h p w).dispatcher = s.dispatcher ∧ (s.moveDone h p w).census = s.census ∧
    (s.moveDone h p w).discrepancies = s.discrepancies ∧ (s.moveDone h p w).poller = s.poller ∧
    (s.moveDone h p w).zones = s.zones ∧ (s.moveDone h p w).port = s.port ∧
    (s.moveDone h p w).attention = s.attention ∧ (s.moveDone h p w).clock = s.clock ∧
    (s.moveDone h p w).supply = s.supply ∧ (s.moveDone h p w).pending = s.pending := by
  unfold State.moveDone
  try dsimp only
  refine ⟨?_, ?_, ?_, ?_, ?_, ?_, ?_, ?_, ?_, ?_, ?_, ?_⟩ <;> simp

@[simp] theorem State.visitDone_fields (s : State) (v : Visit) (a : ActionSet) (w : Option Nat) (tag : Nat) :
    (s.visitDone v a w tag).classes = s.classes ∧ (s.visitDone v a w tag).sweep = s.sweep ∧
    (s.visitDone v a w tag).dispatcher = s.dispatcher ∧ (s.visitDone v a w tag).census = s.census ∧
    (s.visitDone v a w tag).poller = s.poller ∧ (s.visitDone v a w tag).zones = s.zones ∧
    (s.visitDone v a w tag).port = s.port ∧ (s.visitDone v a w tag).clock = s.clock ∧
    (s.visitDone v a w tag).supply = s.supply ∧ (s.visitDone v a w tag).pending = s.pending := by
  unfold State.visitDone
  try dsimp only
  refine ⟨?_, ?_, ?_, ?_, ?_, ?_, ?_, ?_, ?_, ?_⟩ <;> (repeat' split) <;> simp

@[simp] theorem State.visitOutcome_fields (s : State) (v : Visit) (e : VisitOutcome) (a : ActionSet) (w : Option Nat) (tag : Nat) :
    (s.visitOutcome v e a w tag).classes = s.classes ∧ (s.visitOutcome v e a w tag).sweep = s.sweep ∧
    (s.visitOutcome v e a w tag).dispatcher = s.dispatcher ∧ (s.visitOutcome v e a w tag).census = s.census ∧
    (s.visitOutcome v e a w tag).poller = s.poller ∧ (s.visitOutcome v e a w tag).zones = s.zones ∧
    (s.visitOutcome v e a w tag).port = s.port ∧ (s.visitOutcome v e a w tag).clock = s.clock ∧
    (s.visitOutcome v e a w tag).supply = s.supply ∧ (s.visitOutcome v e a w tag).pending = s.pending := by
  unfold State.visitOutcome
  try dsimp only
  refine ⟨?_, ?_, ?_, ?_, ?_, ?_, ?_, ?_, ?_, ?_⟩ <;> (repeat' split) <;> simp

@[simp] theorem State.endVisit_fields (s : State) (n : Nat) (v : Visit) (e : VisitOutcome) (a : ActionSet) (w : Option Nat) (tag : Nat) :
    (s.endVisit n v e a w tag).classes = s.classes ∧ (s.endVisit n v e a w tag).sweep = s.sweep ∧
    (s.endVisit n v e a w tag).census = s.census ∧ (s.endVisit n v e a w tag).poller = s.poller ∧
    (s.endVisit n v e a w tag).zones = s.zones ∧ (s.endVisit n v e a w tag).port = s.port ∧
    (s.endVisit n v e a w tag).clock = s.clock ∧ (s.endVisit n v e a w tag).supply = s.supply ∧
    (s.endVisit n v e a w tag).pending = s.pending := by
  unfold State.endVisit
  try dsimp only
  refine ⟨?_, ?_, ?_, ?_, ?_, ?_, ?_, ?_, ?_⟩ <;> simp

@[simp] theorem State.withdraw_fields (s : State) (n : Nat) (v : Visit) (st : Status) :
    (s.withdraw n v st).1.classes = s.classes ∧ (s.withdraw n v st).1.sweep = s.sweep ∧
    (s.withdraw n v st).1.candidates = s.candidates ∧ (s.withdraw n v st).1.census = s.census ∧
    (s.withdraw n v st).1.discrepancies = s.discrepancies ∧ (s.withdraw n v st).1.poller = s.poller ∧
    (s.withdraw n v st).1.zones = s.zones ∧ (s.withdraw n v st).1.port = s.port ∧
    (s.withdraw n v st).1.attention = s.attention ∧ (s.withdraw n v st).1.clock = s.clock ∧
    (s.withdraw n v st).1.supply = s.supply ∧ (s.withdraw n v st).1.pending = s.pending := by
  unfold State.withdraw
  try dsimp only
  refine ⟨?_, ?_, ?_, ?_, ?_, ?_, ?_, ?_, ?_, ?_, ?_, ?_⟩ <;> simp

@[simp] theorem State.proceed_fields (s : State) (n : Nat) (v : Visit) (a : ActionSet) :
    (s.proceed n v a).1.classes = s.classes ∧ (s.proceed n v a).1.sweep = s.sweep ∧
    (s.proceed n v a).1.candidates = s.candidates ∧ (s.proceed n v a).1.relocations = s.relocations ∧
    (s.proceed n v a).1.census = s.census ∧ (s.proceed n v a).1.discrepancies = s.discrepancies ∧
    (s.proceed n v a).1.poller = s.poller ∧ (s.proceed n v a).1.zones = s.zones ∧ (s.proceed n v a).1.port = s.port ∧
    (s.proceed n v a).1.attention = s.attention ∧ (s.proceed n v a).1.clock = s.clock ∧
    (s.proceed n v a).1.supply = s.supply ∧ (s.proceed n v a).1.pending = s.pending := by
  unfold State.proceed
  try dsimp only
  refine ⟨?_, ?_, ?_, ?_, ?_, ?_, ?_, ?_, ?_, ?_, ?_, ?_, ?_⟩ <;> (repeat' split) <;> simp

@[simp] theorem State.checkStart_fields (s : State) (n : Nat) (v : Visit) (tag : Nat) :
    (s.checkStart n v tag).1.classes = s.classes ∧ (s.checkStart n v tag).1.sweep = s.sweep ∧
    (s.checkStart n v tag).1.census = s.census ∧ (s.checkStart n v tag).1.poller = s.poller ∧
    (s.checkStart n v tag).1.zones = s.zones ∧ (s.checkStart n v tag).1.port = s.port ∧
    (s.checkStart n v tag).1.clock = s.clock ∧ (s.checkStart n v tag).1.supply = s.supply ∧
    (s.checkStart n v tag).1.pending = s.pending := by
  unfold State.checkStart
  try dsimp only
  refine ⟨?_, ?_, ?_, ?_, ?_, ?_, ?_, ?_, ?_⟩ <;> (repeat' split) <;> simp

@[simp] theorem State.issue_fields (s : State) (k : OrderKind) (a : Nat) (l : List Visit) :
    (s.issue k a l).1.classes = s.classes ∧ (s.issue k a l).1.sweep = s.sweep ∧ (s.issue k a l).1.census = s.census ∧
    (s.issue k a l).1.discrepancies = s.discrepancies ∧ (s.issue k a l).1.poller = s.poller ∧
    (s.issue k a l).1.zones = s.zones ∧ (s.issue k a l).1.port = s.port ∧ (s.issue k a l).1.attention = s.attention ∧
    (s.issue k a l).1.clock = s.clock ∧ (s.issue k a l).1.supply = s.supply ∧ (s.issue k a l).1.pending = s.pending := by
  unfold State.issue
  try dsimp only
  refine ⟨?_, ?_, ?_, ?_, ?_, ?_, ?_, ?_, ?_, ?_, ?_⟩ <;> simp

@[simp] theorem State.fetchCensus_fields (s : State) :
    (s.fetchCensus).1.classes = s.classes ∧ (s.fetchCensus).1.sweep = s.sweep ∧
    (s.fetchCensus).1.discrepancies = s.discrepancies ∧ (s.fetchCensus).1.poller = s.poller ∧
    (s.fetchCensus).1.zones = s.zones ∧ (s.fetchCensus).1.port = s.port ∧ (s.fetchCensus).1.attention = s.attention ∧
    (s.fetchCensus).1.clock = s.clock ∧ (s.fetchCensus).1.supply = s.supply ∧ (s.fetchCensus).1.pending = s.pending := by
  unfold State.fetchCensus State.noneDue State.noWork
  try dsimp only
  refine ⟨?_, ?_, ?_, ?_, ?_, ?_, ?_, ?_, ?_, ?_⟩ <;> (repeat' split) <;> simp

@[simp] theorem State.fetchCandidates_fields (s : State) :
    (s.fetchCandidates).1.classes = s.classes ∧ (s.fetchCandidates).1.sweep = s.sweep ∧
    (s.fetchCandidates).1.discrepancies = s.discrepancies ∧ (s.fetchCandidates).1.poller = s.poller ∧
    (s.fetchCandidates).1.zones = s.zones ∧ (s.fetchCandidates).1.port = s.port ∧
    (s.fetchCandidates).1.attention = s.attention ∧ (s.fetchCandidates).1.clock = s.clock ∧
    (s.fetchCandidates).1.supply = s.supply ∧ (s.fetchCandidates).1.pending = s.pending := by
  unfold State.fetchCandidates
  try dsimp only
  refine ⟨?_, ?_, ?_, ?_, ?_, ?_, ?_, ?_, ?_, ?_⟩ <;> (repeat' split) <;> simp

@[simp] theorem State.fetchWork_fields (s : State) :
    (s.fetchWork).1.classes = s.classes ∧ (s.fetchWork).1.sweep = s.sweep ∧
    (s.fetchWork).1.discrepancies = s.discrepancies ∧ (s.fetchWork).1.poller = s.poller ∧
    (s.fetchWork).1.zones = s.zones ∧ (s.fetchWork).1.port = s.port ∧ (s.fetchWork).1.attention = s.attention ∧
    (s.fetchWork).1.clock = s.clock ∧ (s.fetchWork).1.supply = s.supply ∧ (s.fetchWork).1.pending = s.pending := by
  unfold State.fetchWork
  try dsimp only
  refine ⟨?_, ?_, ?_, ?_, ?_, ?_, ?_, ?_, ?_, ?_⟩ <;> (repeat' split) <;> simp

@[simp] theorem State.closeVisit_fields (s : State) (v : Visit) :
    (s.closeVisit v).classes = s.classes ∧ (s.closeVisit v).sweep = s.sweep ∧
    (s.closeVisit v).dispatcher = s.dispatcher ∧ (s.closeVisit v).census = s.census ∧
    (s.closeVisit v).discrepancies = s.discrepancies ∧ (s.closeVisit v).poller = s.poller ∧
    (s.closeVisit v).zones = s.zones ∧ (s.closeVisit v).port = s.port ∧ (s.closeVisit v).clock = s.clock ∧
    (s.closeVisit v).supply = s.supply ∧ (s.closeVisit v).pending = s.pending := by
  unfold State.closeVisit
  try dsimp only
  refine ⟨?_, ?_, ?_, ?_, ?_, ?_, ?_, ?_, ?_, ?_, ?_⟩ <;> (repeat' split) <;> simp

@[simp] theorem State.foldl_closeVisit_fields (s : State) (l : List Visit) :
    (l.foldl State.closeVisit s).classes = s.classes ∧ (l.foldl State.closeVisit s).sweep = s.sweep ∧
    (l.foldl State.closeVisit s).dispatcher = s.dispatcher ∧ (l.foldl State.closeVisit s).census = s.census ∧
    (l.foldl State.closeVisit s).discrepancies = s.discrepancies ∧ (l.foldl State.closeVisit s).poller = s.poller ∧
    (l.foldl State.closeVisit s).zones = s.zones ∧ (l.foldl State.closeVisit s).port = s.port ∧
    (l.foldl State.closeVisit s).clock = s.clock ∧ (l.foldl State.closeVisit s).supply = s.supply ∧
    (l.foldl State.closeVisit s).pending = s.pending := by
  exact ⟨foldl_unchanged State.classes _ (fun s x => by simp) _ _,
    foldl_unchanged State.sweep _ (fun s x => by simp) _ _,
    foldl_unchanged State.dispatcher _ (fun s x => by simp) _ _,
    foldl_unchanged State.census _ (fun s x => by simp) _ _,
    foldl_unchanged State.discrepancies _ (fun s x => by simp) _ _,
    foldl_unchanged State.poller _ (fun s x => by simp) _ _,
    foldl_unchanged State.zones _ (fun s x => by simp) _ _,
    foldl_unchanged State.port _ (fun s x => by simp) _ _,
    foldl_unchanged State.clock _ (fun s x => by simp) _ _,
    foldl_unchanged State.supply _ (fun s x => by simp) _ _,
    foldl_unchanged State.pending _ (fun s x => by simp) _ _⟩

@[simp] theorem State.closeOrder_fields (s : State) (o : Order) :
    (s.closeOrder o).classes = s.classes ∧ (s.closeOrder o).sweep = s.sweep ∧ (s.closeOrder o).census = s.census ∧
    (s.closeOrder o).discrepancies = s.discrepancies ∧ (s.closeOrder o).poller = s.poller ∧
    (s.closeOrder o).zones = s.zones ∧ (s.closeOrder o).port = s.port ∧ (s.closeOrder o).clock = s.clock ∧
    (s.closeOrder o).supply = s.supply ∧ (s.closeOrder o).pending = s.pending := by
  unfold State.closeOrder
  try dsimp only
  refine ⟨?_, ?_, ?_, ?_, ?_, ?_, ?_, ?_, ?_, ?_⟩ <;> simp

@[simp] theorem State.withdrawVisits_fields (s : State) (o : Order) :
    (s.withdrawVisits o).classes = s.classes ∧ (s.withdrawVisits o).sweep = s.sweep ∧
    (s.withdrawVisits o).candidates = s.candidates ∧ (s.withdrawVisits o).dispatcher = s.dispatcher ∧
    (s.withdrawVisits o).census = s.census ∧ (s.withdrawVisits o).discrepancies = s.discrepancies ∧
    (s.withdrawVisits o).poller = s.poller ∧ (s.withdrawVisits o).zones = s.zones ∧
    (s.withdrawVisits o).port = s.port ∧ (s.withdrawVisits o).attention = s.attention ∧
    (s.withdrawVisits o).clock = s.clock ∧ (s.withdrawVisits o).supply = s.supply ∧
    (s.withdrawVisits o).pending = s.pending := by
  unfold State.withdrawVisits
  exact ⟨foldl_unchanged State.classes _ (fun s x => by split <;> simp) _ _,
    foldl_unchanged State.sweep _ (fun s x => by split <;> simp) _ _,
    foldl_unchanged State.candidates _ (fun s x => by split <;> simp) _ _,
    foldl_unchanged State.dispatcher _ (fun s x => by split <;> simp) _ _,
    foldl_unchanged State.census _ (fun s x => by split <;> simp) _ _,
    foldl_unchanged State.discrepancies _ (fun s x => by split <;> simp) _ _,
    foldl_unchanged State.poller _ (fun s x => by split <;> simp) _ _,
    foldl_unchanged State.zones _ (fun s x => by split <;> simp) _ _,
    foldl_unchanged State.port _ (fun s x => by split <;> simp) _ _,
    foldl_unchanged State.attention _ (fun s x => by split <;> simp) _ _,
    foldl_unchanged State.clock _ (fun s x => by split <;> simp) _ _,
    foldl_unchanged State.supply _ (fun s x => by split <;> simp) _ _,
    foldl_unchanged State.pending _ (fun s x => by split <;> simp) _ _⟩

@[simp] theorem State.foldl_withdrawVisits_fields (s : State) (l : List Order) :
    (l.foldl State.withdrawVisits s).classes = s.classes ∧ (l.foldl State.withdrawVisits s).sweep = s.sweep ∧
    (l.foldl State.withdrawVisits s).candidates = s.candidates ∧
    (l.foldl State.withdrawVisits s).dispatcher = s.dispatcher ∧ (l.foldl State.withdrawVisits s).census = s.census ∧
    (l.foldl State.withdrawVisits s).discrepancies = s.discrepancies ∧
    (l.foldl State.withdrawVisits s).poller = s.poller ∧ (l.foldl State.withdrawVisits s).zones = s.zones ∧
    (l.foldl State.withdrawVisits s).port = s.port ∧ (l.foldl State.withdrawVisits s).attention = s.attention ∧
    (l.foldl State.withdrawVisits s).clock = s.clock ∧ (l.foldl State.withdrawVisits s).supply = s.supply ∧
    (l.foldl State.withdrawVisits s).pending = s.pending := by
  exact ⟨foldl_unchanged State.classes _ (fun s x => by simp) _ _,
    foldl_unchanged State.sweep _ (fun s x => by simp) _ _,
    foldl_unchanged State.candidates _ (fun s x => by simp) _ _,
    foldl_unchanged State.dispatcher _ (fun s x => by simp) _ _,
    foldl_unchanged State.census _ (fun s x => by simp) _ _,
    foldl_unchanged State.discrepancies _ (fun s x => by simp) _ _,
    foldl_unchanged State.poller _ (fun s x => by simp) _ _,
    foldl_unchanged State.zones _ (fun s x => by simp) _ _,
    foldl_unchanged State.port _ (fun s x => by simp) _ _,
    foldl_unchanged State.attention _ (fun s x => by simp) _ _,
    foldl_unchanged State.clock _ (fun s x => by simp) _ _,
    foldl_unchanged State.supply _ (fun s x => by simp) _ _,
    foldl_unchanged State.pending _ (fun s x => by simp) _ _⟩

@[simp] theorem State.cancelOrders_fields (s : State) (a : Nat) :
    (s.cancelOrders a).classes = s.classes ∧ (s.cancelOrders a).sweep = s.sweep ∧
    (s.cancelOrders a).candidates = s.candidates ∧ (s.cancelOrders a).census = s.census ∧
    (s.cancelOrders a).discrepancies = s.discrepancies ∧ (s.cancelOrders a).poller = s.poller ∧
    (s.cancelOrders a).zones = s.zones ∧ (s.cancelOrders a).port = s.port ∧
    (s.cancelOrders a).attention = s.attention ∧ (s.cancelOrders a).clock = s.clock ∧
    (s.cancelOrders a).supply = s.supply ∧ (s.cancelOrders a).pending = s.pending := by
  unfold State.cancelOrders
  try dsimp only
  refine ⟨?_, ?_, ?_, ?_, ?_, ?_, ?_, ?_, ?_, ?_, ?_, ?_⟩ <;> simp

@[simp] theorem State.sweepVisit_fields (s : State) (i : Nat) :
    (s.sweepVisit i).shelf = s.shelf ∧ (s.sweepVisit i).classes = s.classes ∧ (s.sweepVisit i).sweep = s.sweep ∧
    (s.sweepVisit i).dispatcher = s.dispatcher ∧ (s.sweepVisit i).relocations = s.relocations ∧
    (s.sweepVisit i).census = s.census ∧ (s.sweepVisit i).discrepancies = s.discrepancies ∧
    (s.sweepVisit i).poller = s.poller ∧ (s.sweepVisit i).zones = s.zones ∧ (s.sweepVisit i).port = s.port ∧
    (s.sweepVisit i).clock = s.clock ∧ (s.sweepVisit i).supply = s.supply ∧ (s.sweepVisit i).pending = s.pending := by
  unfold State.sweepVisit
  try dsimp only
  refine ⟨?_, ?_, ?_, ?_, ?_, ?_, ?_, ?_, ?_, ?_, ?_, ?_, ?_⟩ <;> (repeat' split) <;> simp

@[simp] theorem State.handover_fields (s : State) :
    (s.handover).registry = s.registry ∧ (s.handover).shelf = s.shelf ∧ (s.handover).classes = s.classes ∧
    (s.handover).sweep = s.sweep ∧ (s.handover).candidates = s.candidates ∧ (s.handover).dispatcher = s.dispatcher ∧
    (s.handover).relocations = s.relocations ∧ (s.handover).census = s.census ∧
    (s.handover).discrepancies = s.discrepancies ∧ (s.handover).poller = s.poller ∧ (s.handover).port = s.port ∧
    (s.handover).clock = s.clock ∧ (s.handover).supply = s.supply ∧ (s.handover).pending = s.pending := by
  unfold State.handover
  exact ⟨foldl_unchanged State.registry _ (fun s x => by simp) _ _,
    foldl_unchanged State.shelf _ (fun s x => by simp) _ _,
    foldl_unchanged State.classes _ (fun s x => by simp) _ _,
    foldl_unchanged State.sweep _ (fun s x => by simp) _ _,
    foldl_unchanged State.candidates _ (fun s x => by simp) _ _,
    foldl_unchanged State.dispatcher _ (fun s x => by simp) _ _,
    foldl_unchanged State.relocations _ (fun s x => by simp) _ _,
    foldl_unchanged State.census _ (fun s x => by simp) _ _,
    foldl_unchanged State.discrepancies _ (fun s x => by simp) _ _,
    foldl_unchanged State.poller _ (fun s x => by simp) _ _,
    foldl_unchanged State.port _ (fun s x => by simp) _ _,
    foldl_unchanged State.clock _ (fun s x => by simp) _ _,
    foldl_unchanged State.supply _ (fun s x => by simp) _ _,
    foldl_unchanged State.pending _ (fun s x => by simp) _ _⟩

@[simp] theorem State.takeRead_fields (s : State) (e : Nat) (a : Option (List Byte)) :
    (s.takeRead e a).registry = s.registry ∧ (s.takeRead e a).shelf = s.shelf ∧
    (s.takeRead e a).classes = s.classes ∧ (s.takeRead e a).sweep = s.sweep ∧
    (s.takeRead e a).candidates = s.candidates ∧ (s.takeRead e a).dispatcher = s.dispatcher ∧
    (s.takeRead e a).relocations = s.relocations ∧ (s.takeRead e a).census = s.census ∧
    (s.takeRead e a).discrepancies = s.discrepancies ∧ (s.takeRead e a).zones = s.zones ∧
    (s.takeRead e a).port = s.port ∧ (s.takeRead e a).clock = s.clock ∧ (s.takeRead e a).supply = s.supply ∧
    (s.takeRead e a).pending = s.pending := by
  unfold State.takeRead
  try dsimp only
  refine ⟨?_, ?_, ?_, ?_, ?_, ?_, ?_, ?_, ?_, ?_, ?_, ?_, ?_, ?_⟩ <;> (repeat' split) <;> simp

@[simp] theorem State.endRound_fields (s : State) :
    (s.endRound).registry = s.registry ∧ (s.endRound).shelf = s.shelf ∧ (s.endRound).classes = s.classes ∧
    (s.endRound).sweep = s.sweep ∧ (s.endRound).candidates = s.candidates ∧ (s.endRound).dispatcher = s.dispatcher ∧
    (s.endRound).relocations = s.relocations ∧ (s.endRound).census = s.census ∧
    (s.endRound).discrepancies = s.discrepancies ∧ (s.endRound).port = s.port ∧
    (s.endRound).attention = s.attention ∧ (s.endRound).clock = s.clock ∧ (s.endRound).supply = s.supply ∧
    (s.endRound).pending = s.pending := by
  unfold State.endRound
  try dsimp only
  refine ⟨?_, ?_, ?_, ?_, ?_, ?_, ?_, ?_, ?_, ?_, ?_, ?_, ?_, ?_⟩ <;> (repeat' split) <;> simp

@[simp] theorem State.evaluateRound_fields (s : State) :
    (s.evaluateRound).registry = s.registry ∧ (s.evaluateRound).shelf = s.shelf ∧
    (s.evaluateRound).classes = s.classes ∧ (s.evaluateRound).sweep = s.sweep ∧
    (s.evaluateRound).candidates = s.candidates ∧ (s.evaluateRound).dispatcher = s.dispatcher ∧
    (s.evaluateRound).relocations = s.relocations ∧ (s.evaluateRound).census = s.census ∧
    (s.evaluateRound).discrepancies = s.discrepancies ∧ (s.evaluateRound).port = s.port ∧
    (s.evaluateRound).clock = s.clock ∧ (s.evaluateRound).supply = s.supply ∧ (s.evaluateRound).pending = s.pending := by
  unfold State.evaluateRound
  try dsimp only
  refine ⟨?_, ?_, ?_, ?_, ?_, ?_, ?_, ?_, ?_, ?_, ?_, ?_, ?_⟩ <;> simp

@[simp] theorem State.turnFrom_fields (s : State) (e : Nat) :
    (s.turnFrom e).registry = s.registry ∧ (s.turnFrom e).shelf = s.shelf ∧ (s.turnFrom e).classes = s.classes ∧
    (s.turnFrom e).sweep = s.sweep ∧ (s.turnFrom e).candidates = s.candidates ∧
    (s.turnFrom e).dispatcher = s.dispatcher ∧ (s.turnFrom e).relocations = s.relocations ∧
    (s.turnFrom e).census = s.census ∧ (s.turnFrom e).discrepancies = s.discrepancies ∧
    (s.turnFrom e).port = s.port ∧ (s.turnFrom e).clock = s.clock ∧ (s.turnFrom e).supply = s.supply ∧
    (s.turnFrom e).pending = s.pending := by
  unfold State.turnFrom
  try dsimp only
  refine ⟨?_, ?_, ?_, ?_, ?_, ?_, ?_, ?_, ?_, ?_, ?_, ?_, ?_⟩ <;> (repeat' split) <;> simp

@[simp] theorem State.passUnused_fields (s : State) :
    (s.passUnused).registry = s.registry ∧ (s.passUnused).shelf = s.shelf ∧ (s.passUnused).classes = s.classes ∧
    (s.passUnused).sweep = s.sweep ∧ (s.passUnused).candidates = s.candidates ∧
    (s.passUnused).dispatcher = s.dispatcher ∧ (s.passUnused).relocations = s.relocations ∧
    (s.passUnused).census = s.census ∧ (s.passUnused).discrepancies = s.discrepancies ∧
    (s.passUnused).port = s.port ∧ (s.passUnused).clock = s.clock ∧ (s.passUnused).supply = s.supply ∧
    (s.passUnused).pending = s.pending := by
  unfold State.passUnused
  try dsimp only
  refine ⟨?_, ?_, ?_, ?_, ?_, ?_, ?_, ?_, ?_, ?_, ?_, ?_, ?_⟩ <;> (repeat' split) <;> simp

@[simp] theorem State.followRunCondition_fields (s : State) :
    (s.followRunCondition).registry = s.registry ∧ (s.followRunCondition).shelf = s.shelf ∧
    (s.followRunCondition).classes = s.classes ∧ (s.followRunCondition).sweep = s.sweep ∧
    (s.followRunCondition).candidates = s.candidates ∧ (s.followRunCondition).dispatcher = s.dispatcher ∧
    (s.followRunCondition).relocations = s.relocations ∧ (s.followRunCondition).census = s.census ∧
    (s.followRunCondition).discrepancies = s.discrepancies ∧ (s.followRunCondition).port = s.port ∧
    (s.followRunCondition).attention = s.attention ∧ (s.followRunCondition).clock = s.clock ∧
    (s.followRunCondition).supply = s.supply ∧ (s.followRunCondition).pending = s.pending := by
  unfold State.followRunCondition
  try dsimp only
  refine ⟨?_, ?_, ?_, ?_, ?_, ?_, ?_, ?_, ?_, ?_, ?_, ?_, ?_, ?_⟩ <;> (repeat' split) <;> simp

@[simp] theorem State.writeSensor_fields (s : State) (n a z : Nat) :
    (s.writeSensor n a z).registry = s.registry ∧ (s.writeSensor n a z).shelf = s.shelf ∧
    (s.writeSensor n a z).classes = s.classes ∧ (s.writeSensor n a z).sweep = s.sweep ∧
    (s.writeSensor n a z).candidates = s.candidates ∧ (s.writeSensor n a z).dispatcher = s.dispatcher ∧
    (s.writeSensor n a z).relocations = s.relocations ∧ (s.writeSensor n a z).census = s.census ∧
    (s.writeSensor n a z).discrepancies = s.discrepancies ∧ (s.writeSensor n a z).port = s.port ∧
    (s.writeSensor n a z).clock = s.clock ∧ (s.writeSensor n a z).supply = s.supply ∧
    (s.writeSensor n a z).pending = s.pending := by
  unfold State.writeSensor
  try dsimp only
  refine ⟨?_, ?_, ?_, ?_, ?_, ?_, ?_, ?_, ?_, ?_, ?_, ?_, ?_⟩ <;> (repeat' split) <;> simp

@[simp] theorem State.beginRound_fields (s : State) :
    (s.beginRound).registry = s.registry ∧ (s.beginRound).shelf = s.shelf ∧ (s.beginRound).classes = s.classes ∧
    (s.beginRound).sweep = s.sweep ∧ (s.beginRound).candidates = s.candidates ∧
    (s.beginRound).dispatcher = s.dispatcher ∧ (s.beginRound).relocations = s.relocations ∧
    (s.beginRound).census = s.census ∧ (s.beginRound).discrepancies = s.discrepancies ∧
    (s.beginRound).port = s.port ∧ (s.beginRound).attention = s.attention ∧ (s.beginRound).clock = s.clock ∧
    (s.beginRound).supply = s.supply ∧ (s.beginRound).pending = s.pending := by
  unfold State.beginRound
  try dsimp only
  refine ⟨?_, ?_, ?_, ?_, ?_, ?_, ?_, ?_, ?_, ?_, ?_, ?_, ?_, ?_⟩ <;> simp

@[simp] theorem State.boundary_fields (s : State) :
    (s.boundary).registry = s.registry ∧ (s.boundary).shelf = s.shelf ∧ (s.boundary).classes = s.classes ∧
    (s.boundary).sweep = s.sweep ∧ (s.boundary).candidates = s.candidates ∧ (s.boundary).dispatcher = s.dispatcher ∧
    (s.boundary).relocations = s.relocations ∧ (s.boundary).census = s.census ∧
    (s.boundary).discrepancies = s.discrepancies ∧ (s.boundary).port = s.port ∧
    (s.boundary).attention = s.attention ∧ (s.boundary).clock = s.clock ∧ (s.boundary).supply = s.supply ∧
    (s.boundary).pending = s.pending := by
  unfold State.boundary
  try dsimp only
  refine ⟨?_, ?_, ?_, ?_, ?_, ?_, ?_, ?_, ?_, ?_, ?_, ?_, ?_, ?_⟩ <;> (repeat' split) <;> simp

@[simp] theorem State.exhausted_fields (s : State) :
    (s.exhausted).registry = s.registry ∧ (s.exhausted).shelf = s.shelf ∧ (s.exhausted).classes = s.classes ∧
    (s.exhausted).sweep = s.sweep ∧ (s.exhausted).candidates = s.candidates ∧
    (s.exhausted).dispatcher = s.dispatcher ∧ (s.exhausted).relocations = s.relocations ∧
    (s.exhausted).census = s.census ∧ (s.exhausted).discrepancies = s.discrepancies ∧ (s.exhausted).port = s.port ∧
    (s.exhausted).clock = s.clock ∧ (s.exhausted).supply = s.supply ∧ (s.exhausted).pending = s.pending := by
  unfold State.exhausted
  try dsimp only
  refine ⟨?_, ?_, ?_, ?_, ?_, ?_, ?_, ?_, ?_, ?_, ?_, ?_, ?_⟩ <;> (repeat' split) <;> simp

@[simp] theorem State.arbitrationLost_fields (s : State) (f : Bool) (w : Byte) :
    (s.arbitrationLost f w).registry = s.registry ∧ (s.arbitrationLost f w).shelf = s.shelf ∧
    (s.arbitrationLost f w).classes = s.classes ∧ (s.arbitrationLost f w).sweep = s.sweep ∧
    (s.arbitrationLost f w).candidates = s.candidates ∧ (s.arbitrationLost f w).dispatcher = s.dispatcher ∧
    (s.arbitrationLost f w).relocations = s.relocations ∧ (s.arbitrationLost f w).census = s.census ∧
    (s.arbitrationLost f w).discrepancies = s.discrepancies ∧ (s.arbitrationLost f w).port = s.port ∧
    (s.arbitrationLost f w).clock = s.clock ∧ (s.arbitrationLost f w).supply = s.supply ∧
    (s.arbitrationLost f w).pending = s.pending := by
  unfold State.arbitrationLost
  try dsimp only
  refine ⟨?_, ?_, ?_, ?_, ?_, ?_, ?_, ?_, ?_, ?_, ?_, ?_, ?_⟩ <;> (repeat' split) <;> simp

@[simp] theorem State.readEnded_fields (s : State) (a : Option (List Byte)) :
    (s.readEnded a).registry = s.registry ∧ (s.readEnded a).shelf = s.shelf ∧ (s.readEnded a).classes = s.classes ∧
    (s.readEnded a).sweep = s.sweep ∧ (s.readEnded a).candidates = s.candidates ∧
    (s.readEnded a).dispatcher = s.dispatcher ∧ (s.readEnded a).relocations = s.relocations ∧
    (s.readEnded a).census = s.census ∧ (s.readEnded a).discrepancies = s.discrepancies ∧
    (s.readEnded a).port = s.port ∧ (s.readEnded a).clock = s.clock ∧ (s.readEnded a).supply = s.supply ∧
    (s.readEnded a).pending = s.pending := by
  unfold State.readEnded
  try dsimp only
  refine ⟨?_, ?_, ?_, ?_, ?_, ?_, ?_, ?_, ?_, ?_, ?_, ?_, ?_⟩ <;> (repeat' split) <;> simp

@[simp] theorem State.measured_fields (s : State) (a : Bool) :
    (s.measured a).registry = s.registry ∧ (s.measured a).shelf = s.shelf ∧ (s.measured a).classes = s.classes ∧
    (s.measured a).sweep = s.sweep ∧ (s.measured a).candidates = s.candidates ∧
    (s.measured a).dispatcher = s.dispatcher ∧ (s.measured a).relocations = s.relocations ∧
    (s.measured a).census = s.census ∧ (s.measured a).discrepancies = s.discrepancies ∧
    (s.measured a).zones = s.zones ∧ (s.measured a).port = s.port ∧ (s.measured a).attention = s.attention ∧
    (s.measured a).clock = s.clock ∧ (s.measured a).supply = s.supply ∧ (s.measured a).pending = s.pending := by
  unfold State.measured
  try dsimp only
  refine ⟨?_, ?_, ?_, ?_, ?_, ?_, ?_, ?_, ?_, ?_, ?_, ?_, ?_, ?_, ?_⟩ <;> (repeat' split) <;> simp

@[simp] theorem State.waitEnded_fields (s : State) :
    (s.waitEnded).registry = s.registry ∧ (s.waitEnded).shelf = s.shelf ∧ (s.waitEnded).classes = s.classes ∧
    (s.waitEnded).sweep = s.sweep ∧ (s.waitEnded).candidates = s.candidates ∧
    (s.waitEnded).dispatcher = s.dispatcher ∧ (s.waitEnded).relocations = s.relocations ∧
    (s.waitEnded).census = s.census ∧ (s.waitEnded).discrepancies = s.discrepancies ∧ (s.waitEnded).port = s.port ∧
    (s.waitEnded).clock = s.clock ∧ (s.waitEnded).supply = s.supply ∧ (s.waitEnded).pending = s.pending := by
  unfold State.waitEnded
  try dsimp only
  refine ⟨?_, ?_, ?_, ?_, ?_, ?_, ?_, ?_, ?_, ?_, ?_, ?_, ?_⟩ <;> simp

end Sys2Proof.Machine
end

