-- ==== Sys2Proof/Laws/Census.lean ====
section
/-! SUPPORT. What the census walks find, in closed form, and what a census batch takes and moves (R119 to R123). -/

namespace Sys2Proof.Machine

/-! ## The walks -/

/-- A walk collects the first `n` positions that pass. -/
theorem collectFrom_eq (pass : Nat → Bool) (fuel n p : Nat) :
    collectFrom pass fuel n p = ((List.range' p fuel).filter pass).take n := by
  induction fuel generalizing n p with
  | zero => simp [collectFrom]
  | succ f ih =>
    unfold collectFrom
    rw [List.range'_succ]
    by_cases hn : n = 0
    · simp [hn]
    · obtain ⟨m, rfl⟩ : ∃ m, n = m + 1 := ⟨n - 1, by omega⟩
      by_cases hp : pass p = true
      · simp [hp, ih]
      · simp [hp, ih]

/-- The wrapping walk finds the first position that passes. -/
theorem firstFrom_eq_some {pass : Nat → Bool} {fuel p k : Nat} (hp : p < 4096) (hk : k < fuel)
    (h : pass ((p + k) % 4096) = true) (hn : ∀ j, j < k → pass ((p + j) % 4096) = false) :
    firstFrom pass fuel p = some ((p + k) % 4096) := by
  induction fuel generalizing p k with
  | zero => omega
  | succ f ih =>
    unfold firstFrom
    by_cases h0 : k = 0
    · subst h0
      have e : (p + 0) % 4096 = p := by omega
      rw [e] at h ⊢
      rw [if_pos h]
    · have e : p % 4096 = p := by omega
      have h1 : pass p = false := by simpa [e] using hn 0 (by omega)
      have e2 : ∀ j, ((p + 1) % 4096 + j) % 4096 = (p + (j + 1)) % 4096 := by intro j; omega
      have e3 : (p + k) % 4096 = ((p + 1) % 4096 + (k - 1)) % 4096 := by omega
      rw [h1, if_neg (by simp), e3]
      refine ih (Nat.mod_lt _ (by decide)) (by omega) (e3 ▸ h) fun j hj => ?_
      rw [e2]
      exact hn (j + 1) (by omega)

/-- The wrapping walk finds nothing where no position passes. -/
theorem firstFrom_eq_none {pass : Nat → Bool} {fuel p : Nat} (hp : p < 4096)
    (h : ∀ q, q < 4096 → pass q = false) : firstFrom pass fuel p = none := by
  induction fuel generalizing p with
  | zero => rfl
  | succ f ih =>
    unfold firstFrom
    rw [h p hp, if_neg (by simp)]
    exact ih (Nat.mod_lt _ (by decide))

/-! ## The flagged slots (R37, R125) -/

/-- The numbers a table lists rise strictly. -/
theorem Table.keys_pairwise {α : Type} {t : Table α} (h : t.ordered = true) :
    (t.map fun e => e.1).Pairwise fun p q => p < q := by
  induction t with
  | nil => exact List.Pairwise.nil
  | cons e rest ih =>
    obtain ⟨k, v⟩ := e
    rw [Table.ordered_cons] at h
    refine List.Pairwise.cons ?_ (ih h.2)
    intro q hq
    obtain ⟨x, hx, rfl⟩ := List.mem_map.1 hq
    exact h.1 x hx

/-- A listed pair is what its number reads as. -/
theorem Table.read?_eq_some_iff {α : Type} {t : Table α} (h : t.ordered = true) (i : Nat) (v : α) :
    t.read? i = some v ↔ (i, v) ∈ t := by
  induction t with
  | nil => simp
  | cons e rest ih =>
    obtain ⟨k, w⟩ := e
    rw [Table.ordered_cons] at h
    rw [Table.read?_cons, List.mem_cons]
    by_cases hk : k = i
    · subst hk
      have hne : (k, v) ∉ rest := fun hm => by have := h.1 _ hm; simp at this
      simp [hne, eq_comm]
    · have h1 : ¬ (i, v) = (k, w) := fun e => hk (Prod.ext_iff.1 e).1.symm
      simp [hk, h1, ih h.2]

theorem State.flaggedSlots_pairwise {s : State} (h : s.shelf.slots.ordered = true) :
    s.flaggedSlots.Pairwise fun p q => p < q :=
  Table.keys_pairwise (Table.ordered_filter _ _ h)

theorem State.mem_flaggedSlots {s : State} (h : s.shelf.slots.ordered = true) (p : Nat) :
    p ∈ s.flaggedSlots ↔ (s.slot p).review = true := by
  unfold State.flaggedSlots State.slot Table.readD
  simp only [List.mem_map, List.mem_filter, Prod.exists, exists_and_right, exists_eq_right]
  cases hr : s.shelf.slots.read? p with
  | none =>
    simp only [Option.getD_none, SlotRecord.cold, Bool.false_eq_true, iff_false, not_exists, not_and]
    intro v hv
    rw [(Table.read?_eq_some_iff h p v).2 hv] at hr
    exact absurd hr (by simp)
  | some v =>
    simp only [Option.getD_some]
    constructor
    · rintro ⟨w, hw, hb⟩
      rw [(Table.read?_eq_some_iff h p w).2 hw] at hr
      cases hr
      exact hb
    · exact fun hb => ⟨v, (Table.read?_eq_some_iff h p v).1 hr, hb⟩

/-! ## The three steps (R121 to R123) -/

/-- The review step: nothing where no flagged slot is eligible. -/
theorem State.reviewBatch_nil {s : State} (h : s.flaggedSlots.filter s.scanEligible = []) : s.reviewBatch = [] := by
  unfold State.reviewBatch
  rw [h]

/-- The review step: the first eight eligible flagged slots of the rack of the lowest. -/
theorem State.reviewBatch_cons {s : State} {p : Nat} {rest : List Nat}
    (h : s.flaggedSlots.filter s.scanEligible = p :: rest) :
    s.reviewBatch = ((p :: rest).filter fun q => decide (slotRack q = slotRack p)).take 8 := by
  unfold State.reviewBatch
  rw [h]
  simp [Config.visitMax]

/-- The walk of a directed entry: the first eight eligible slots from its walk position to the end of its rack. -/
theorem State.directedBatch_eq (s : State) (d : DirectedRack) : s.directedBatch d =
    ((List.range' (d.rack * 256 + d.walk) (256 - d.walk)).filter s.scanEligible).take 8 := by
  unfold State.directedBatch
  rw [collectFrom_eq]

/-- The directed step passes over the entries whose walk collects nothing. -/
theorem State.directedTake_append {s : State} {pre : List DirectedRack} (l : List DirectedRack)
    (h : ∀ d ∈ pre, s.directedBatch d = []) : s.directedTake (pre ++ l) = s.directedTake l := by
  induction pre with
  | nil => rfl
  | cons d pre ih =>
    rw [List.cons_append, State.directedTake, if_pos (h d (by simp))]
    exact ih fun e he => h e (List.mem_cons_of_mem _ he)

/-- The directed step yields nothing, and empties its list, where no entry's walk collects a slot. -/
theorem State.directedTake_nil {s : State} {l : List DirectedRack} (h : ∀ d ∈ l, s.directedBatch d = []) :
    s.directedTake l = ([], []) := by
  have := State.directedTake_append [] h
  rwa [List.append_nil] at this

/-- The directed step at an entry whose walk collects a slot. -/
theorem State.directedTake_cons {s : State} {d : DirectedRack} (rest : List DirectedRack)
    (h : s.directedBatch d ≠ []) :
    s.directedTake (d :: rest) = (s.directedBatch d, (s.directedAfter d (s.directedBatch d)).toList ++ rest) := by
  rw [State.directedTake, if_neg h]

/-- The cursor step from the first eligible slot it meets. -/
theorem State.cursorBatch_eq {s : State} {p : Nat}
    (h : firstFrom s.scanEligible Config.slotCount s.census.cursor = some p) :
    s.cursorBatch = ((List.range' p (256 - p % 256)).filter s.scanEligible).take 8 := by
  unfold State.cursorBatch
  rw [h]
  exact collectFrom_eq ..

/-! ## The census work, taken (R120) -/

theorem State.censusTake_of_review {s : State} (h : s.reviewBatch ≠ []) : s.censusTake = (s.reviewBatch, s.census) := by
  unfold State.censusTake
  rw [if_pos h]

theorem State.censusTake_of_directed {s : State} (h : s.reviewBatch = [])
    (hd : (s.directedTake s.census.directed).1 ≠ []) : s.censusTake =
      ((s.directedTake s.census.directed).1, { s.census with directed := (s.directedTake s.census.directed).2 }) := by
  unfold State.censusTake
  rw [if_neg (by simpa using h)]
  dsimp only
  rw [if_pos hd]

theorem State.censusTake_of_cursor {s : State} (h : s.reviewBatch = [])
    (hd : s.directedTake s.census.directed = ([], [])) : s.censusTake =
      if s.cursorBatch ≠ [] then (s.cursorBatch, ⟨cursorAfter s.cursorBatch, []⟩)
      else ([], ⟨s.census.cursor, []⟩) := by
  unfold State.censusTake
  rw [if_neg (by simpa using h)]
  dsimp only
  rw [hd, if_neg (by simp)]

end Sys2Proof.Machine
end

