-- ==== Sys2Proof/Laws/Climate.lean ====
section
/-! SUPPORT. What the climate poller's operations do: the turn of an entry, a read that is taken, and the handover of
the eight zones. -/

namespace Sys2Proof.Machine

/-! ## When the part can transact (R157, R184) -/

/-- What `State.canTransact` says. -/
theorem State.canTransact_iff (s : State) : s.canTransact = true ↔
    s.port.held = none ∧ (s.poller.begun = true ∨ (s.poller.bus = .idle ∧ s.poller.lossRole = .none)) := by
  simp [State.canTransact]

/-! ## The turn of an entry (R153) -/

/-- The turn passes to the first configured entry. -/
theorem State.turnFrom_of_configured {s : State} {e k : Nat} (h1 : e ≤ k) (h2 : k < 16) (h3 : s.configured k = true)
    (h4 : ∀ j, e ≤ j → j < k → s.configured j = false) :
    s.turnFrom e = { s with poller := { s.poller with state := .reading, turn := k } } := by
  have : (List.range Config.sensorCount).find? (fun k => decide (e ≤ k) && s.configured k) = some k := by
    rw [List.find?_range_eq_some]
    refine ⟨by simp [h1, h3], by simpa [Config.sensorCount] using h2, ?_⟩
    intro j hj
    by_cases hje : e ≤ j
    · simp [h4 j hje hj]
    · simp [hje]
  unfold State.turnFrom
  rw [this]

/-- Where no entry is left, the round is evaluated. -/
theorem State.turnFrom_of_none {s : State} {e : Nat} (h : ∀ j, e ≤ j → j < 16 → s.configured j = false) :
    s.turnFrom e = s.evaluateRound := by
  have : (List.range Config.sensorCount).find? (fun k => decide (e ≤ k) && s.configured k) = none := by
    simp only [List.find?_eq_none, List.mem_range, Bool.and_eq_true, decide_eq_true_eq, not_and, Bool.not_eq_true]
    exact fun k hk h1 => h k h1 hk
  unfold State.turnFrom
  rw [this]

/-! ## A read that is taken (R153, R154) -/

@[simp] theorem SensorEntry.afterRead_place (e : SensorEntry) (a : Option (List Byte)) :
    (e.afterRead a).address = e.address ∧ (e.afterRead a).zone = e.zone ∧ (e.afterRead a).rounds = e.rounds :=
  ⟨rfl, rfl, rfl⟩

/-- A read that is taken writes its entry, and may latch SENSOR. A read at one of the part's own addresses is not
acknowledged (R178). -/
theorem State.takeRead_eq {s : State} {e : Nat} {a b : Option (List Byte)}
    (hb : b = if s.ownAddress (s.sensor e).address = true then none else a) :
    s.takeRead e a = s.setSensorEntry e ((s.sensor e).afterRead b) ∨
    s.takeRead e a = (s.setSensorEntry e ((s.sensor e).afterRead b)).latch .sensor := by
  unfold State.takeRead
  dsimp only
  rw [← hb]
  split
  · exact Or.inl rfl
  · exact Or.inr rfl

theorem State.sensor_takeRead (s : State) (e j : Nat) (a : Option (List Byte)) :
    (s.takeRead e a).sensor j =
      if j = e then (s.sensor e).afterRead (if s.ownAddress (s.sensor e).address = true then none else a)
      else s.sensor j := by
  rcases State.takeRead_eq (s := s) (e := e) (a := a) rfl with h | h <;> rw [h] <;> simp

@[simp] theorem State.configured_takeRead (s : State) (e j : Nat) (a : Option (List Byte)) :
    (s.takeRead e a).configured j = s.configured j := by
  unfold State.configured
  rw [State.sensor_takeRead]
  by_cases h : j = e <;> simp [h]

theorem State.poller_takeRead (s : State) (e : Nat) (a : Option (List Byte)) :
    (s.takeRead e a).poller = { s.poller with sensors := (s.takeRead e a).poller.sensors } := by
  rcases State.takeRead_eq (s := s) (e := e) (a := a) rfl with h | h <;> rw [h] <;> rfl

/-! ## The handover (R165) -/

@[simp] theorem State.zone_judgeZone (s : State) (z y : Nat) :
    (s.judgeZone z).zone y = if y = z then (s.zone z).judge (s.zoneInputs z) else s.zone y := by
  unfold State.judgeZone
  dsimp only
  (repeat' split) <;> simp_all

@[simp] theorem State.zoneInputs_judgeZone (s : State) (z y : Nat) :
    (s.judgeZone z).zoneInputs y = s.zoneInputs y := by
  unfold State.zoneInputs
  simp

/-- What the judgement of one zone latches: SENSOR and ALARM (R168, R174). -/
theorem State.attention_judgeZone (s : State) (z : Nat) : (s.judgeZone z).attention = ⟨s.attention.pending |||
      (if (s.zone z).blind ≠ ((s.zone z).judge (s.zoneInputs z)).blind then 0x04#8 else 0x00#8) |||
      (if alarmLatches (s.zone z).alarm ((s.zone z).judge (s.zoneInputs z)).alarm = true
        then 0x02#8 else 0x00#8), s.attention.mask⟩ := by
  unfold State.judgeZone
  dsimp only
  (repeat' split) <;> simp_all [State.latch, AttentionKind.bit]

/-- Zones judged one after another are judged from the one state, since a judgement changes no other zone. -/
theorem State.zone_foldl_judgeZone (l : List Nat) (s : State) (hn : l.Nodup) (z : Nat) :
    (l.foldl (fun s z => s.judgeZone z) s).zone z =
      if z ∈ l then (s.zone z).judge (s.zoneInputs z) else s.zone z := by
  induction l generalizing s with
  | nil => simp
  | cons x l ih =>
    rw [List.nodup_cons] at hn
    rw [List.foldl_cons, ih _ hn.2, State.zoneInputs_judgeZone, State.zone_judgeZone]
    by_cases hz : z = x
    · subst hz; simp [hn.1]
    · simp [hz]

/-- A bit that is put in twice is in once. -/
theorem latched_twice (p : BitVec 8) (a b c d : Prop) [Decidable a] [Decidable b] [Decidable c] [Decidable d] :
    p ||| (if a then 0x04#8 else 0#8) ||| (if b then 0x02#8 else 0#8) ||| (if c then 0x04#8 else 0#8) |||
      (if d then 0x02#8 else 0#8) = p ||| (if a ∨ c then 0x04#8 else 0#8) ||| (if b ∨ d then 0x02#8 else 0#8) := by
  by_cases a <;> by_cases b <;> by_cases c <;> by_cases d <;>
    simp only [*, if_true, if_false, or_true, true_or, or_self] <;> revert p <;> decide +kernel

theorem State.attention_foldl_judgeZone (l : List Nat) (s : State) (hn : l.Nodup) :
    (l.foldl (fun s z => s.judgeZone z) s).attention = ⟨s.attention.pending |||
      (if ∃ z ∈ l, (s.zone z).blind ≠ ((s.zone z).judge (s.zoneInputs z)).blind then 0x04#8 else 0x00#8) |||
      (if ∃ z ∈ l, alarmLatches (s.zone z).alarm ((s.zone z).judge (s.zoneInputs z)).alarm = true
        then 0x02#8 else 0x00#8), s.attention.mask⟩ := by
  induction l generalizing s with
  | nil => simp
  | cons x l ih =>
    rw [List.nodup_cons] at hn
    have hx : ∀ z ∈ l, z ≠ x := fun z hz e => hn.1 (e ▸ hz)
    have hb : (∃ z ∈ l, ((s.judgeZone x).zone z).blind ≠
        (((s.judgeZone x).zone z).judge ((s.judgeZone x).zoneInputs z)).blind) =
        (∃ z ∈ l, (s.zone z).blind ≠ ((s.zone z).judge (s.zoneInputs z)).blind) := by
      apply propext
      constructor <;> rintro ⟨z, hz, h⟩ <;> refine ⟨z, hz, ?_⟩ <;>
        simpa only [State.zone_judgeZone, State.zoneInputs_judgeZone, if_neg (hx z hz)] using h
    have ha : (∃ z ∈ l, alarmLatches ((s.judgeZone x).zone z).alarm
        (((s.judgeZone x).zone z).judge ((s.judgeZone x).zoneInputs z)).alarm = true) =
        (∃ z ∈ l, alarmLatches (s.zone z).alarm ((s.zone z).judge (s.zoneInputs z)).alarm = true) := by
      apply propext
      constructor <;> rintro ⟨z, hz, h⟩ <;> refine ⟨z, hz, ?_⟩ <;>
        simpa only [State.zone_judgeZone, State.zoneInputs_judgeZone, if_neg (hx z hz)] using h
    rw [List.foldl_cons, ih _ hn.2, State.attention_judgeZone]
    simp only [hb, ha, latched_twice, List.mem_cons, exists_eq_or_imp]

/-- The zones after the handover: all eight judged, no other touched (R165). -/
theorem State.zone_handover (s : State) (z : Nat) : (s.handover).zone z =
    if 1 ≤ z ∧ z ≤ 8 then (s.zone z).judge (s.zoneInputs z) else s.zone z := by
  have hz : z ∈ zoneNumbers ↔ 1 ≤ z ∧ z ≤ 8 := by simp [zoneNumbers]; omega
  unfold State.handover
  rw [State.zone_foldl_judgeZone _ _ (by decide)]
  simp only [hz]

/-- What the handover latches: SENSOR and ALARM, where some zone calls for them (R168, R174). -/
theorem State.attention_handover (s : State) : (s.handover).attention = ⟨s.attention.pending |||
      (if ∃ z ∈ zoneNumbers, (s.zone z).blind ≠ ((s.zone z).judge (s.zoneInputs z)).blind
        then 0x04#8 else 0x00#8) |||
      (if ∃ z ∈ zoneNumbers, alarmLatches (s.zone z).alarm ((s.zone z).judge (s.zoneInputs z)).alarm = true
        then 0x02#8 else 0x00#8), s.attention.mask⟩ := by
  unfold State.handover
  exact State.attention_foldl_judgeZone zoneNumbers s (by decide)

end Sys2Proof.Machine
end

