-- ==== Sys2Proof/Laws/Work.lean ====
section
/-! SUPPORT. What the operations of the registry, the Candidate List, the visits and the Reconciler do to what they do
write. -/

namespace Sys2Proof.Machine

/-! ## The lowest free index (R2) -/

theorem lowestUnlisted_ge (t : Table WheelRecord) (n : Nat) : n ≤ lowestUnlisted n t := by
  induction t generalizing n with
  | nil => exact Nat.le_refl n
  | cons e r ih =>
    obtain ⟨a, b⟩ := e
    unfold lowestUnlisted
    split
    · exact Nat.le_trans (Nat.le_succ n) (ih _)
    · exact Nat.le_refl n

/-- A number below every listed one is not listed. -/
theorem Table.read?_of_lt {α : Type} {t : Table α} {k : Nat} (h : ∀ e ∈ t, k < e.1) : t.read? k = none := by
  induction t with
  | nil => rfl
  | cons e r ih =>
    have hk := h e (List.mem_cons_self ..)
    rw [Table.read?_cons, if_neg (by omega)]
    exact ih fun x hx => h x (List.mem_cons_of_mem _ hx)

theorem lowestUnlisted_spec (t : Table WheelRecord) (k : Nat) (ho : t.ordered = true) (hk : ∀ e ∈ t, k ≤ e.1) :
    t.read? (lowestUnlisted k t) = none ∧ ∀ j, k ≤ j → j < lowestUnlisted k t → t.read? j ≠ none := by
  induction t generalizing k with
  | nil => exact ⟨rfl, fun j h1 h2 => absurd h2 (Nat.not_lt.2 h1)⟩
  | cons e rest ih =>
    obtain ⟨i, v⟩ := e
    obtain ⟨ha, hr⟩ := (Table.ordered_cons i v rest).1 ho
    have hki : k ≤ i := hk (i, v) (List.mem_cons_self ..)
    unfold lowestUnlisted
    split
    · rename_i h
      subst h
      obtain ⟨h1, h2⟩ := ih (i + 1) hr fun e he => ha e he
      refine ⟨?_, fun j hj hj2 => ?_⟩
      · rw [Table.read?_cons, if_neg (by have := lowestUnlisted_ge rest (i + 1); omega)]
        exact h1
      · rw [Table.read?_cons]
        split
        · simp
        · exact h2 j (by omega) hj2
    · rename_i h
      refine ⟨?_, fun j hj hj2 => by omega⟩
      rw [Table.read?_cons, if_neg h]
      exact Table.read?_of_lt fun e he => by have := ha e he; omega

/-- The lowest free index is free, and no lower one is (R2). -/
theorem State.lowestFree?_spec {s : State} {i : Nat} (ho : s.registry.records.ordered = true)
    (h : s.lowestFree? = some i) : i < 4096 ∧ s.record? i = none ∧ ∀ j, j < i → s.record? j ≠ none := by
  unfold State.lowestFree? at h
  dsimp only at h
  split at h
  · cases h
    have hs := lowestUnlisted_spec s.registry.records 0 ho fun _ _ => Nat.zero_le _
    exact ⟨by assumption, hs.1, fun j hj => hs.2 j (Nat.zero_le _) hj⟩
  · cases h

/-! ## The Candidate List (R69, R70) -/

theorem Candidate.ranksAhead_trans {a b c : Candidate} (h1 : a.ranksAhead b = true) (h2 : b.ranksAhead c = true) :
    a.ranksAhead c = true := by
  simp only [Candidate.ranksAhead, Bool.or_eq_true, Bool.and_eq_true, decide_eq_true_eq] at *
  omega

/-- Of two candidates of different records, one ranks ahead. -/
theorem Candidate.ranksAhead_total {a b : Candidate} (h : handleIndex a.handle ≠ handleIndex b.handle)
    (h1 : a.ranksAhead b = false) : b.ranksAhead a = true := by
  simp only [Candidate.ranksAhead, Bool.or_eq_true, Bool.and_eq_true, decide_eq_true_eq, Bool.or_eq_false_iff,
    Bool.and_eq_false_iff, decide_eq_false_iff_not] at *
  omega

theorem rankInsert_perm (c : Candidate) (l : List Candidate) : (rankInsert c l).Perm (c :: l) := by
  induction l with
  | nil => exact .refl _
  | cons y l ih =>
    unfold rankInsert
    split
    · exact .refl _
    · exact (ih.cons y).trans (.swap ..)

theorem mem_rankInsert {c d : Candidate} {l : List Candidate} : d ∈ rankInsert c l ↔ d = c ∨ d ∈ l := by
  rw [(rankInsert_perm c l).mem_iff, List.mem_cons]

@[simp] theorem length_rankInsert (c : Candidate) (l : List Candidate) :
    (rankInsert c l).length = l.length + 1 := (rankInsert_perm c l).length_eq

/-- A candidate of another record inserted by rank leaves the list ranked. -/
theorem rankInsert_ranked {c : Candidate} {l : List Candidate} (h : l.Pairwise fun a b => a.ranksAhead b = true)
    (hn : ∀ d ∈ l, handleIndex d.handle ≠ handleIndex c.handle) :
    (rankInsert c l).Pairwise fun a b => a.ranksAhead b = true := by
  induction l with
  | nil => simp [rankInsert]
  | cons x l ih =>
    rw [List.pairwise_cons] at h
    unfold rankInsert
    split
    · rename_i hc
      rw [List.pairwise_cons, List.pairwise_cons]
      refine ⟨fun d hd => ?_, h⟩
      rcases List.mem_cons.1 hd with rfl | hd
      · exact hc
      · exact Candidate.ranksAhead_trans hc (h.1 d hd)
    · rename_i hc
      rw [List.pairwise_cons]
      refine ⟨fun d hd => ?_, ih h.2 fun d hd => hn d (List.mem_cons_of_mem _ hd)⟩
      rcases mem_rankInsert.1 hd with rfl | hd
      · exact Candidate.ranksAhead_total (fun e => hn x (List.mem_cons_self ..) e.symm) (by simpa using hc)
      · exact h.1 d hd

/-- Candidates inserted one after another are those candidates, and ranked where their records differ. -/
theorem foldr_rankInsert (l : List Candidate) : (l.foldr rankInsert []).Perm l ∧
    ((l.map fun c => handleIndex c.handle).Nodup →
      (l.foldr rankInsert []).Pairwise fun a b => a.ranksAhead b = true) := by
  induction l with
  | nil => exact ⟨.nil, fun _ => .nil⟩
  | cons x l ih =>
    refine ⟨(rankInsert_perm x _).trans (ih.1.cons x), fun h => ?_⟩
    rw [List.map_cons, List.nodup_cons] at h
    refine rankInsert_ranked (ih.2 h.2) fun d hd e => h.1 ?_
    rw [← e]
    exact List.mem_map_of_mem (ih.1.subset hd)

/-! ## Visits (R94, R101, R114) -/

@[simp] theorem State.relocations_releaseVisit (s : State) (v : Visit) :
    (s.releaseVisit v).relocations = s.relocations.map fun q =>
      if v.wheel = some q.wheel ∧ v.dest ≠ none then { q with state := .queued } else q := by
  unfold State.releaseVisit
  dsimp only
  rcases v.wheel with _ | h <;> cases v.dest <;> simp [State.setRelocation, eq_comm]

@[simp] theorem State.relocations_engageVisit (s : State) (v : Visit) :
    (s.engageVisit v).relocations = s.relocations.map fun q =>
      if v.wheel = some q.wheel ∧ v.dest ≠ none then { q with state := .issued } else q := by
  unfold State.engageVisit
  dsimp only
  rcases v.wheel with _ | h <;> cases v.dest <;> simp [State.setRelocation, eq_comm]

theorem State.setClaim_dispatcher (s : State) (d : Dispatcher) (i : Nat) (c : Claim) :
    State.setClaim { s with dispatcher := d } i c = { s.setClaim i c with dispatcher := d } := by
  unfold State.setClaim State.updRecord
  have h : State.record? { s with dispatcher := d } i = s.record? i := rfl
  rw [h]
  cases s.record? i <;> rfl

/-- What a visit holds is released whatever the window lists. -/
theorem State.releaseVisit_dispatcher (s : State) (d : Dispatcher) (v : Visit) :
    State.releaseVisit { s with dispatcher := d } v = { s.releaseVisit v with dispatcher := d } := by
  unfold State.releaseVisit
  dsimp only
  cases v.wheel <;> cases v.dest <;> dsimp only <;> (try rw [State.setClaim_dispatcher]) <;> rfl

/-! ## Discrepancies (R130, R133, R135) -/

theorem State.record?_releasePair (s : State) (q : Nat × HoldReason) (j : Nat) : (s.releasePair q).record? j =
    if q.2 = .missing ∧ (s.discrepancies.any fun e => e.2.listsMissing q.1) = false ∧ j = handleIndex q.1
    then (s.record? j).map fun r => { r with holds := { r.holds with missing := false } } else s.record? j := by
  unfold State.releasePair
  by_cases h1 : q.2 = .missing ∧ (s.discrepancies.any fun e => e.2.listsMissing q.1) = false
  · rw [if_pos h1]
    simp only [State.record?_removeHold, Holds.put]
    by_cases h2 : j = handleIndex q.1
    · rw [if_pos h2, if_pos ⟨h1.1, h1.2, h2⟩, h2]
    · rw [if_neg h2, if_neg fun e => h2 e.2.2]
  · rw [if_neg h1, if_neg fun e => h1 ⟨e.1, e.2.1⟩]

open Classical in
/-- Pairs released: MISSING leaves each record of a MISSING pair that no entry lists. -/
theorem State.record?_releasePairs (l : List (Nat × HoldReason)) (s : State) (j : Nat) :
    (s.releasePairs l).record? j =
      if ∃ h, (h, HoldReason.missing) ∈ l ∧ (s.discrepancies.any fun e => e.2.listsMissing h) = false ∧
        j = handleIndex h
      then (s.record? j).map fun r => { r with holds := { r.holds with missing := false } } else s.record? j := by
  induction l generalizing s with
  | nil => simp [State.releasePairs]
  | cons x l ih =>
    have hd : (s.releasePair x).discrepancies = s.discrepancies := by simp
    rw [show s.releasePairs (x :: l) = (s.releasePair x).releasePairs l from rfl, ih, hd,
      State.record?_releasePair]
    obtain ⟨g, k⟩ := x
    by_cases h1 : k = .missing ∧ (s.discrepancies.any fun e => e.2.listsMissing g) = false ∧ j = handleIndex g <;>
    by_cases h2 : ∃ h, (h, HoldReason.missing) ∈ l ∧ (s.discrepancies.any fun e => e.2.listsMissing h) = false ∧
      j = handleIndex h
    · rw [if_pos h2, if_pos h1, if_pos ⟨g, by rw [h1.1]; exact List.mem_cons_self .., h1.2⟩]
      cases s.record? j <;> rfl
    · rw [if_neg h2, if_pos h1, if_pos ⟨g, by rw [h1.1]; exact List.mem_cons_self .., h1.2⟩]
    · rw [if_pos h2, if_neg h1, if_pos (by obtain ⟨h, a, b⟩ := h2; exact ⟨h, List.mem_cons_of_mem _ a, b⟩)]
    · rw [if_neg h2, if_neg h1, if_neg]
      rintro ⟨h, a, b⟩
      rcases List.mem_cons.1 a with e | a
      · cases e; exact h1 ⟨rfl, b⟩
      · exact h2 ⟨h, a, b⟩

theorem State.record?_placePair (s : State) (q : Nat × HoldReason) (j : Nat) : (s.placePair q).record? j =
    if q.2 = .missing ∧ j = handleIndex q.1
    then (s.record? j).map fun r => { r with holds := { r.holds with missing := true } } else s.record? j := by
  unfold State.placePair
  obtain ⟨g, k⟩ := q
  cases k <;> simp [Holds.put]
  split <;> simp_all

open Classical in
/-- Pairs placed: MISSING joins each record of a MISSING pair. -/
theorem State.record?_foldl_placePair (l : List (Nat × HoldReason)) (s : State) (j : Nat) :
    (l.foldl State.placePair s).record? j = if ∃ h, (h, HoldReason.missing) ∈ l ∧ j = handleIndex h
      then (s.record? j).map fun r => { r with holds := { r.holds with missing := true } } else s.record? j := by
  induction l generalizing s with
  | nil => simp
  | cons x l ih =>
    rw [List.foldl_cons, ih, State.record?_placePair]
    obtain ⟨g, k⟩ := x
    by_cases h1 : k = .missing ∧ j = handleIndex g <;>
    by_cases h2 : ∃ h, (h, HoldReason.missing) ∈ l ∧ j = handleIndex h
    · rw [if_pos h2, if_pos h1, if_pos ⟨g, by rw [h1.1]; exact List.mem_cons_self .., h1.2⟩]
      cases s.record? j <;> rfl
    · rw [if_neg h2, if_pos h1, if_pos ⟨g, by rw [h1.1]; exact List.mem_cons_self .., h1.2⟩]
    · rw [if_pos h2, if_neg h1, if_pos (by obtain ⟨h, a, b⟩ := h2; exact ⟨h, List.mem_cons_of_mem _ a, b⟩)]
    · rw [if_neg h2, if_neg h1, if_neg]
      rintro ⟨h, a, b⟩
      rcases List.mem_cons.1 a with e | a
      · cases e; exact h1 ⟨rfl, b⟩
      · exact h2 ⟨h, a, b⟩

@[simp] theorem State.slot_releasePairs (l : List (Nat × HoldReason)) (s : State) (p : Nat) :
    (s.releasePairs l).slot p = s.slot p :=
  foldl_unchanged (fun s => s.slot p) _ (fun s x => by simp) l s

@[simp] theorem State.slot_foldl_placePair (l : List (Nat × HoldReason)) (s : State) (p : Nat) :
    (l.foldl State.placePair s).slot p = s.slot p :=
  foldl_unchanged (fun s => s.slot p) _ (fun s x => by simp) l s

/-- Writing an entry: the table and DISCREPANCY, and no slot (R130). -/
theorem State.writeEntry_effect (s : State) (k : Nat) (e : Discrepancy) (old : Option Discrepancy) :
    (s.writeEntry k e old).discrepancies = s.discrepancies.write k e ∧
    (s.writeEntry k e old).attention = ⟨s.attention.pending ||| 0x10#8, s.attention.mask⟩ ∧
    ∀ p, (s.writeEntry k e old).slot p = s.slot p := by
  unfold State.writeEntry
  cases old <;> simp [State.latch, AttentionKind.bit] <;> intro p <;> rfl

end Sys2Proof.Machine
end

