-- ==== Sys2Proof/Tests/Slice0.lean ====
section
/-! SUPPORT. The model's own tests: an ill-formed term for each check of WellFormed, the worked cases of the spec, one
or two small steps a command, and for every obligation with hypotheses a concrete state and operands that meet them
(the theorems `test_hyp_…`, one line a clause, at the boundary where the clause has one). -/

namespace Sys2Proof.Tests
open Sys2Proof Sys2Proof.Machine

set_option Elab.async false

/-! ## Small states -/

/-- A turned wheel that stands in slot 0. -/
def wheel : WheelRecord :=
  { tag := 0x11, cls := 0, makeDay := 0, location := some 0, lastTurn := 1000, lastBrush := none, turnCount := 0,
    brushCount := 0, intakeWeight := none, lastWeight := none, admittedAt := 1000, claim := .none,
    holds := Holds.empty, overdue := false, relocationPending := false }

/-- A part whose clock stands at minute 5000, with the records and slots given and the tag 11h at index 0. -/
def caveOf (r : WheelRecord) (slots : Table SlotRecord) : State :=
  { State.reset with
    registry := ⟨[(0, r)], [], [(0x11, 0)], 0⟩
    shelf := ⟨[], slots, []⟩
    clock := { State.reset.clock with minutes := 5000, isSet := true } }

/-- The occupied slot of the wheel. -/
def seat : SlotRecord := { SlotRecord.cold with occupant := some 0 }

/-- One wheel at index 0, standing in slot 0. -/
def cave : State := caveOf wheel [(0, seat)]

/-- The cave with the order given outstanding, its wheel claimed, its source slot engaged and dispatch RUNNING. -/
def busyCave (o : Order) (c : Claim) : State :=
  { caveOf { wheel with claim := c } [(0, { seat with engaged := true })] with
    dispatcher := ⟨.running, [o], 7, DispatchSettings.cold⟩ }

/-- A TURN visit of the wheel. -/
def turnVisit (st : VisitState) : Visit :=
  ⟨1, 0, ⟨true, false, false, false⟩, some 0, some 0, 0x11, none,
    if st = .waiting then none else some ⟨true, false, false, false⟩, st⟩

/-- A SCAN visit of slot 0. -/
def scanVisit : Visit := ⟨1, 0, ActionSet.scanOnly, none, some 0, 0x11, none, none, .waiting⟩

/-- Order 7 of one visit. -/
def orderOf (st : OrderState) (v : Visit) : Order := ⟨7, if v.dest = none then .batch else .move, 0, st, 30, [v]⟩

/-- A MOVE visit of the wheel to slot 5. -/
def moveVisit (st : VisitState) : Visit :=
  ⟨1, 0, ActionSet.moveOnly, some 0, some 0, 0x11, some 5, if st = .waiting then none else some ActionSet.moveOnly, st⟩

/-- The wheel on its way to slot 5. -/
def movingCave (st : VisitState) (c : Claim) : State :=
  { caveOf { wheel with claim := c, relocationPending := true }
      [(0, { seat with engaged := true }), (5, { SlotRecord.cold with reserved := true, engaged := true })] with
    dispatcher := ⟨.running, [orderOf .accepted (moveVisit st)], 7, DispatchSettings.cold⟩
    relocations := [⟨0, 5, .issued⟩] }

/-- The cave with a relocation of the wheel to slot 5 in the state given. -/
def queuedCave (st : RelocationState) : State :=
  { caveOf { wheel with relocationPending := true } [(0, seat), (5, { SlotRecord.cold with reserved := true })] with
    dispatcher := ⟨.running, [], 0, DispatchSettings.cold⟩, relocations := [⟨0, 5, st⟩] }

/-- The cave with one discrepancy entry, at position 3. -/
def foundCave (e : Discrepancy) : State := { cave with discrepancies := [(3, e)] }

/-- A MISSING entry of the wheel at slot 0. -/
def missingEntry : Discrepancy := ⟨0, .missing, some 0, none, none, 4000, [(0, .missing)]⟩

/-- Two sensor entries, 2 and 5, and a poller in the state given on an idle bus. -/
def polled (st : PollerState) (turn : Nat) : State :=
  { State.reset with poller := { Poller.cold with
    sensors := [(2, SensorEntry.unpolled 0x10 1), (5, SensorEntry.unpolled 0x30 2)]
    settings := ⟨.run, 60, 250⟩, state := st, turn := turn
    roundTimer := if st = .stopped then none else some 7, bus := .idle, awaitingIdle := false } }

/-- The state a command leads to. -/
def after (c : Instr) (s : State) : State :=
  match exec c s with
  | .next t => t
  | .fault f => nomatch f
  | .refused _ => s

/-- The reply a command leaves at a port. -/
def replyOf (p : PortId) (c : Instr) (s : State) : Option Reply :=
  match (after c s).portState p with
  | .ready r => some r
  | _ => none

/-- The reply at the registry address. -/
def host (c : Instr) (s : State) : Option Reply := replyOf .registry c s

/-- The reply at the turner address. -/
def robot (c : Instr) (s : State) : Option Reply := replyOf .turner c s

/-! ## Well-formed terms, and an ill-formed one for each check -/

theorem test_wf_accepts :
    (Instr.admitWheel (2 ^ 48 - 1) 255 65535 ⟨255, 255, 255⟩ 65535 ⟨255, 2 ^ 32 - 1⟩ ⟨0, 0⟩).wf = true ∧
    (Instr.sensorRead (some [0, 0, 0, 0, 0, 0])).wf = true ∧ (Instr.writeTransaction 127 []).wf = true ∧
    (Instr.setClass 255 65535 0 0 0 0 0 0 0 255 0 0 65535).wf = true ∧ Instr.pause.wf = true := by decide +kernel

theorem test_wf_refuses_frames :
    (Instr.sensorRead (some [0, 0, 0, 0, 0])).wf = false ∧ (Instr.writeTransaction 128 []).wf = false ∧
    (Instr.replyRead 128 ⟨3, false, false⟩).wf = false ∧ (Instr.orderExpiry 256).wf = false := by decide +kernel

theorem test_wf_refuses_records :
    (Instr.admitWheel (2 ^ 48) 0 0 ⟨0, 0, 0⟩ 0 ⟨0, 0⟩ ⟨0, 0⟩).wf = false ∧
    (Instr.admitWheel 1 256 0 ⟨0, 0, 0⟩ 0 ⟨0, 0⟩ ⟨0, 0⟩).wf = false ∧
    (Instr.admitWheel 1 0 65536 ⟨0, 0, 0⟩ 0 ⟨0, 0⟩ ⟨0, 0⟩).wf = false ∧
    (Instr.admitWheel 1 0 0 ⟨256, 0, 0⟩ 0 ⟨0, 0⟩ ⟨0, 0⟩).wf = false ∧
    (Instr.admitWheel 1 0 0 ⟨0, 0, 0⟩ 65536 ⟨0, 0⟩ ⟨0, 0⟩).wf = false ∧
    (Instr.admitWheel 1 0 0 ⟨0, 0, 0⟩ 0 ⟨256, 0⟩ ⟨0, 0⟩).wf = false ∧
    (Instr.admitWheel 1 0 0 ⟨0, 0, 0⟩ 0 ⟨0, 0⟩ ⟨0, 2 ^ 32⟩).wf = false ∧
    (Instr.lookupTag (2 ^ 48)).wf = false ∧ (Instr.lookupSlot ⟨0, 256, 0⟩).wf = false ∧
    (Instr.readRecord 65536).wf = false ∧ (Instr.nextRecord 65536).wf = false ∧
    (Instr.amendClass 0 256).wf = false ∧ (Instr.amendMakeDay 0 65536).wf = false ∧
    (Instr.amendLastTurn 0 ⟨0, 2 ^ 32⟩).wf = false ∧ (Instr.amendLastBrush 65536 ⟨0, 0⟩).wf = false ∧
    (Instr.amendIntakeWeight 0 65536).wf = false ∧ (Instr.amendLastWeight 0 65536).wf = false ∧
    (Instr.amendLocation 0 ⟨0, 0, 256⟩).wf = false ∧ (Instr.hold 65536).wf = false ∧
    (Instr.release 0 256).wf = false ∧ (Instr.retire 65536).wf = false := by decide +kernel

theorem test_wf_refuses_shelves_and_work :
    (Instr.mapRack 256 0 0 0).wf = false ∧ (Instr.readRack 256).wf = false ∧ (Instr.readSlot ⟨256, 0, 0⟩).wf = false ∧
    (Instr.unblock ⟨256, 0, 0⟩).wf = false ∧ (Instr.setWindow 0 0 0 0 0 256).wf = false ∧
    (Instr.readWindow 256).wf = false ∧ (Instr.setClass 0 0 0 0 0 0 0 0 0 0 0 0 65536).wf = false ∧
    (Instr.readClass 256).wf = false ∧ (Instr.readCandidates 256).wf = false ∧
    (Instr.setDispatch 65536 0 0 0 0).wf = false ∧ (Instr.cancelOrders 256).wf = false ∧
    (Instr.readOrders 256).wf = false ∧ (Instr.relocate 0 ⟨0, 0, 256⟩).wf = false ∧
    (Instr.unrelocate 65536).wf = false ∧ (Instr.censusRack 256).wf = false ∧
    (Instr.readDiscrepancy 256).wf = false ∧ (Instr.readDiscrepancyNext 256).wf = false ∧
    (Instr.resolveDismiss ⟨256, 0, 0⟩).wf = false ∧ (Instr.resolveRescan ⟨0, 256, 0⟩).wf = false ∧
    (Instr.resolveAdopt ⟨0, 0, 256⟩).wf = false := by decide +kernel

theorem test_wf_refuses_climate_and_turner :
    (Instr.setSensor 256 0 0).wf = false ∧ (Instr.readSensor 256).wf = false ∧ (Instr.setPoll 0 65536 0).wf = false ∧
    (Instr.setZone 0 65536 0 0 0 0 0 0 0).wf = false ∧ (Instr.readZone 256).wf = false ∧
    (Instr.ackAlarm 256).wf = false ∧ (Instr.setClock (2 ^ 32)).wf = false ∧ (Instr.fetch 256).wf = false ∧
    (Instr.accept 256).wf = false ∧ (Instr.visitStart 0 0 (2 ^ 48)).wf = false ∧
    (Instr.visitEndDone 256 0 0 0 0).wf = false ∧ (Instr.visitEndAborted 0 256 0 0 0).wf = false ∧
    (Instr.visitEndDestUnreachable 0 0 256 0 0).wf = false ∧ (Instr.visitEndUnreachable 0 0 0 65536 0).wf = false ∧
    (Instr.visitEndAbsent 0 0 0 0 (2 ^ 48)).wf = false ∧ (Instr.closeOrder 256).wf = false ∧
    (Instr.readOrder 256).wf = false := by decide +kernel

/-! ## Frames (R180, R182, R187) -/

/-- The worked check of R180: LOOKUP_TAG of 123456h, and a reply of handle 1007h. -/
theorem test_frames_of_R180 :
    requestFrame (.lookupTag 0x123456) =
      some [0x02#8, 0x06#8, 0x00#8, 0x00#8, 0x00#8, 0x12#8, 0x34#8, 0x56#8, 0x5C#8] ∧
    judgeFrame .registry [0x02#8, 0x06#8, 0x00#8, 0x00#8, 0x00#8, 0x12#8, 0x34#8, 0x56#8, 0x5C#8] =
      .inr (.command (.lookupTag 0x123456)) ∧
    (Reply.ok (be 2 0x1007)).frame = [0x00#8, 0x02#8, 0x10#8, 0x07#8, 0xE7#8] := by decide +kernel

/-- A frame's request is read back: the longest, one of each split kind, and one of the turner. -/
theorem test_frames_read_back :
    ([Instr.admitWheel 0x010203040506 31 65535 ⟨16, 31, 7⟩ 4000 ⟨1, 77⟩ ⟨2, 0⟩, .amendClass 4097 3,
      .amendLastBrush 5 ⟨2, 0⟩, .amendLocation 1 ⟨0, 0, 0⟩, .readDiscrepancy 3, .readDiscrepancyNext 255,
      .resolveDismiss ⟨1, 2, 3⟩, .resolveRescan ⟨1, 2, 3⟩, .resolveAdopt ⟨1, 2, 3⟩, .censusRackNone, .censusRack 16,
      .visitStart 1 2 0x11, .visitEndAbsent 9 8 0 65535 0x11].all fun i =>
        decide (((requestFrame i).map fun f => judgeFrame ((requestPort i).getD .registry) f) =
          some (.inr (.command i)))) = true := by decide +kernel

/-- A reader at the registry address that clocks in `n` bytes while both straps are low. -/
def readAt (n : Nat) : Instr := .replyRead 0x2A ⟨n, false, false⟩

/-- A request written byte by byte waits in the slot, its owner takes it, and its reply is read and collected. -/
theorem test_a_request_byte_by_byte :
    let s1 := after (.writeTransaction 0x2A [0x14#8, 0x00#8, 0xEC#8]) cave
    s1.port.registry = .processing (.command .pause) ∧ s1.port.acked = 4 ∧ host .pause s1 = some ⟨.ok, []⟩ ∧
    (after (readAt 4) (after .pause s1)).port.sent = [0x00#8, 0x00#8, 0x00#8, 0xFF#8] ∧
    (after (readAt 3) (after .pause s1)).port.registry = .idle ∧
    (after .clockHoldTimeout (after (readAt 3) s1)).port.sent = [0x03#8, 0x00#8, 0xFD#8] := by decide +kernel

/-- A read held with the clock low takes the reply when its owner places it: collected where the reader clocks in the
check byte, kept READY where it stops before (R183); while it is held, MEASURE does not go through (R184). -/
theorem test_a_held_read :
    let s1 := after (.writeTransaction 0x2A [0x14#8, 0x00#8, 0xEC#8]) (polled .broadcasting 0)
    let s2 := after (readAt 3) s1
    s2.port.held = some ⟨.registry, 3⟩ ∧ (after .pause s2).port.sent = [0x00#8, 0x00#8, 0x00#8] ∧
    (after .pause s2).port.registry = .idle ∧ (after .pause s2).port.held = none ∧
    (after .pause (after (readAt 2) s1)).port.registry = .ready ⟨.ok, []⟩ ∧
    after (.measure true) s2 = s2 ∧
    (after (.measure true) (after .pause s2)).poller.state = .converting := by decide +kernel

/-- What the part acknowledges of a write: all of a short one, up to the check byte of a longer one, up to the 127th
byte where the length byte exceeds 124, and nothing in PROCESSING or at another address (R180, R181, R178). -/
theorem test_bytes_acknowledged :
    (after (.writeTransaction 0x2A []) cave).port.acked = 1 ∧
    (after (.writeTransaction 0x2A [0x14#8, 0x00#8]) cave).port.acked = 3 ∧
    (after (.writeTransaction 0x2A [0x14#8, 0x00#8, 0xEC#8, 0xFF#8]) cave).port.acked = 4 ∧
    ackedBytes (0x14#8 :: 0x7D#8 :: List.replicate 200 0#8) = 127 ∧
    ackedBytes (0x14#8 :: 0x7C#8 :: List.replicate 200 0#8) = 127 ∧
    (after (.writeTransaction 0x2C []) cave).port.acked = 0 ∧
    (let s := after (.writeTransaction 0x2A [0x14#8, 0x00#8, 0xEC#8]) cave
     (after (.writeTransaction 0x2A [0x15#8]) s).port.acked = 0) := by decide +kernel

/-- A frame that no row spells waits in the slot until the owners take it, with the empty queue's step (log 4). -/
theorem test_a_malformed_request_waits :
    let s := after (.writeTransaction 0x2A (frameOf 0x06#8 [0, 0, 7, 0])) cave
    s.port.registry = .processing (.badAmend 0) ∧ host .resume s = none ∧
    s.ownersTake.port.registry = .ready ⟨.badField, []⟩ ∧
    (s.takeMalformed .turner).port.registry = .processing (.badAmend 0) ∧
    (after (.writeTransaction 0x2A (frameOf 0x06#8 [0, 9, 7, 0])) cave).ownersTake.port.registry =
      .ready ⟨.staleHandle, []⟩ ∧
    (after (.writeTransaction 0x2B (frameOf 0x43#8 [7, 1, 5, 0, 0, 0, 0, 0, 0, 0, 0, 0])) cave).ownersTake.port.turner =
      .ready ⟨.unknownOrder, []⟩ := by decide +kernel

/-- The frames R182 refuses, and those no row spells (log 4). -/
theorem test_frames_refused :
    judgeFrame .registry [0x14#8, 0x7D#8] = .inl .badFrame ∧
    judgeFrame .registry [0x14#8, 0x00#8, 0x00#8] = .inl .badFrame ∧
    judgeFrame .registry [0x7F#8, 0x00#8, 0x81#8] = .inl .badKind ∧
    judgeFrame .registry (frameOf 0x40#8 [0x00#8]) = .inl .badKind ∧
    judgeFrame .registry (frameOf 0x14#8 [0x00#8]) = .inl .badFrame ∧
    judgeFrame .registry (frameOf 0x06#8 [0, 0, 7, 0]) = .inr (.badAmend 0) ∧
    judgeFrame .turner (frameOf 0x43#8 [7, 1, 5, 0, 0, 0, 0, 0, 0, 0, 0, 0]) = .inr (.badOutcome 7) ∧
    judgeFrame .registry (frameOf 0x20#8 [1, 0, 0, 3]) = .inr .badForm := by decide +kernel

/-! ## The worked cases of chapters 1 to 3 and 9 -/

/-- Section 1.3: a retired index is admitted again at the next generation. -/
theorem test_handles_across_retirement :
    let s := after (.admitWheel 0x12 0 0 ⟨0, 0, 0⟩ 65535 ⟨0, 0⟩ ⟨0, 0⟩) cave
    let t := after (.retire 0x0001) s
    host (.readRecord 0x0001) t = some ⟨.staleHandle, []⟩ ∧
    host (.admitWheel 0x13 0 0 ⟨0, 0, 0⟩ 65535 ⟨0, 0⟩ ⟨0, 0⟩) t = some ⟨.ok, be 2 0x1001⟩ ∧
    t.liveCount = 1 ∧ t.freeSet.length = 4095 := by decide +kernel

/-- Class 3 of section 3.11. -/
def washedRind : ClassRecord := ⟨1440, 4320, 30, 25, 300, 100, 75, 50, 3, 120, 120, 720⟩

/-- The wheel of section 3.11 in zone 1, with the zone's band and alarm and the turner's aisle. -/
def washedCave (b : Band) (a : Alarm) (aisle : Nat) : State :=
  { caveOf { wheel with cls := 3, makeDay := 19000, lastTurn := 27495000, lastBrush := some 27494500 } [(0, seat)] with
    classes := [(3, washedRind)]
    shelf := ⟨[], [(0, seat)], [(0, ⟨some 1, 0, 7, 0, 7⟩)]⟩
    zones := [(1, { Zone.cold with band := b, alarm := a })]
    sweep := ⟨0, aisle⟩
    clock := { State.reset.clock with minutes := 27497000, isSet := true } }

/-- The candidate the sweep offers for the wheel of section 3.11. -/
def washedOffer (b : Band) (a : Alarm) (aisle : Nat) : List Candidate :=
  (after .sweepStep (washedCave b a aisle)).candidates

theorem test_worked_case_3_11 :
    ageDays 27497000 19000 = 95 ∧ washedRind.turnInterval 95 (some .high) = 1890 ∧
    washedRind.brushInterval (some .high) = some 2160 ∧ washedRind.turnInterval 95 (some .inBand) = 2520 ∧
    washedOffer .high .clear 0 = [⟨0, ⟨true, true, false, false⟩, 1260, 0⟩] ∧
    washedOffer .high (.raised .high) 0 = [⟨0, ⟨true, false, false, false⟩, 570, 0⟩] ∧
    washedOffer .high .clear 1 = [⟨0, ⟨true, true, false, false⟩, 1020, 0⟩] ∧
    washedOffer .high (.raised .high) 1 = [⟨0, ⟨true, false, false, false⟩, 330, 0⟩] ∧
    washedOffer .inBand .clear 0 = [] := by decide +kernel

/-- Section 3.12: held, overdue, no candidate. -/
theorem test_worked_case_3_12 :
    let c : ClassRecord := ⟨1440, 0, 60, 50, 400, 150, 100, 100, 8, 0, 60, 2880⟩
    let t := after .sweepStep { washedCave .low .clear 1 with
      classes := [(7, c)]
      registry := ⟨[(0, { wheel with
        cls := 7, makeDay := 18700, lastTurn := 27477000, holds := ⟨true, false, false, false⟩ })], [], [(0x11, 0)], 0⟩ }
    c.turnInterval 395 (some .low) = 8640 ∧ t.candidates = [] ∧ t.registry.overdueCount = 1 ∧
    t.attention.pending = 0x09#8 := by decide +kernel

/-- Section 3.13: the clock set back under a new wheel. -/
theorem test_worked_case_3_13 :
    let s := { washedCave .inBand .clear 1 with
      classes := [(12, ⟨4320, 2880, 0, 0, 100, 100, 100, 100, 1, 60, 60, 720⟩)]
      registry := ⟨[(0, { wheel with cls := 12, lastTurn := 27496000, admittedAt := 27496000 })], [], [(0x11, 0)], 0⟩
      clock := { State.reset.clock with minutes := 27495000, isSet := true } }
    (after .sweepStep s).record? 0 =
      some { wheel with cls := 12, lastTurn := 27495000, admittedAt := 27496000 } ∧
    (after .sweepStep s).candidates = [] ∧
    (s.record? 0).map (fun r => s.turnLateness r 0) = some (-4320) ∧
    ((s.record? 0).bind fun r => s.brushLateness r 0) = some (-2880) := by decide +kernel

/-- Section 9.4: zone 4 through an alarm, round by round. -/
theorem test_one_zone_through_an_alarm :
    let c : ZoneSettings := ⟨850, 950, 10, 800, 980, 3, 2, 1⟩
    judgeBand c .inBand 975 = .high ∧ judgeAlarm c .clear 975 = .clear ∧
    judgeAlarm c .clear 984 = .pending .high 1 ∧ judgeAlarm c (.pending .high 1) 979 = .pending .high 2 ∧
    judgeAlarm c (.pending .high 2) 990 = .raised .high ∧
    judgeAlarm c (.acknowledged .high) 968 = .settling .high 1 true ∧
    judgeAlarm c (.settling .high 1 true) 975 = .settling .high 1 true ∧
    judgeAlarm c (.settling .high 1 true) 982 = .acknowledged .high ∧
    judgeAlarm c (.settling .high 1 true) 960 = .clear ∧
    judgeAlarm c (.acknowledged .high) 790 = .raised .low ∧ judgeBand c .high 960 = .high ∧
    alarmLatches (.settling .high 1 true) .clear = true ∧
    alarmLatches (.settling .high 1 true) (.acknowledged .high) = false := by decide +kernel

/-- Section 2.7: the windows of a cave of eight aisles. -/
theorem test_resolving_zones :
    let s := { State.reset with shelf := ⟨[], [],
      [(0, ⟨some 1, 0, 1, 0, 7⟩), (1, ⟨some 2, 2, 5, 0, 2⟩), (2, ⟨some 3, 2, 5, 3, 7⟩), (3, ⟨some 4, 0, 7, 0, 7⟩)]⟩ }
    s.zoneOf (slotAt 2 14 6) = 1 ∧ s.zoneOf (slotAt 5 3 2) = 2 ∧ s.zoneOf (slotAt 5 3 3) = 3 ∧
    s.zoneOf (slotAt 12 30 0) = 4 ∧
    (after (.setWindow 3 255 0 7 0 7) s).zoneOf (slotAt 12 30 0) = 0 := by decide +kernel

/-! ## One small step a command -/

theorem test_supply_and_crystal :
    (after (.powerUp true false) State.reset).port.registryAddress = 0x2E ∧
    (after .resetNAssert cave).operating = false ∧
    (after (.resetNRelease false true) (after .resetNAssert cave)).port.registryAddress = 0x2C ∧
    (after .backupSupplyLoss cave).clock.backupLoss = true ∧
    (after (.powerUp false false) (after .backupSupplyLoss cave)).liveCount = 0 ∧
    (after .mainPowerLoss cave).operating = false ∧
    (after .clockMinuteTick { cave with clock := { cave.clock with minutes := 4294967295 } }).clock.minutes = 0 ∧
    host .pause (after .mainPowerLoss cave) = none := by decide +kernel

theorem test_registry_requests :
    host (.admitWheel 0x11 0 0 ⟨0, 0, 0⟩ 0 ⟨0, 0⟩ ⟨0, 0⟩) cave = some ⟨.duplicate, []⟩ ∧
    host (.lookupTag 0x11) cave = some ⟨.ok, be 2 0⟩ ∧ host (.lookupSlot ⟨1, 0, 0⟩) cave = some ⟨.ok, be 2 0⟩ ∧
    (host (.readRecord 0) cave).map (fun r => r.payload.length) = some 36 ∧
    host (.nextRecord 65535) cave = host (.readRecord 0) cave ∧
    host (.nextRecord 0) cave = some ⟨.notFound, []⟩ ∧
    (after (.amendClass 0 31) cave).record? 0 = some { wheel with cls := 31 } ∧
    (after (.amendMakeDay 0 9) cave).record? 0 = some { wheel with makeDay := 9 } ∧
    (after (.amendLastTurn 0 ⟨1, 9999⟩) cave).record? 0 = some { wheel with lastTurn := 5000 } ∧
    (after (.amendLastBrush 0 ⟨1, 5⟩) cave).record? 0 = some { wheel with lastBrush := some 5 } ∧
    (after (.amendIntakeWeight 0 7) cave).record? 0 = some { wheel with intakeWeight := some 7 } ∧
    (after (.amendLastWeight 0 65535) cave).record? 0 = some wheel ∧
    (after (.amendLocation 0 ⟨1, 0, 2⟩) cave).slot 2 = seat ∧
    (after (.amendLocation 0 ⟨1, 0, 2⟩) cave).slot 0 = SlotRecord.cold ∧
    ((after (.hold 0) cave).record? 0).map (fun r => r.holds.host) = some true ∧
    host (.release 0 2) cave = some ⟨.badField, []⟩ ∧
    (after (.retire 0) cave).registry = ⟨[], [(0, 1)], [], 0⟩ ∧
    (after .eraseRegistry cave).registry = State.reset.registry := by decide +kernel

theorem test_shelf_requests :
    (after (.mapRack 1 255 4 5) cave).rackRecord 1 = ⟨none, 4, 5⟩ ∧
    host (.mapRack 0 255 32 8) cave = some ⟨.rackInUse, []⟩ ∧
    host (.readRack 15) cave = some ⟨.ok, [16, 32, 8]⟩ ∧
    host (.readSlot ⟨1, 0, 0⟩) cave =
      some ⟨.ok, [0, 0, 0, 0, 1, 0, 0, 0, 0, 0, 0, 0, 0, 2, 0, 0, 0, 0, 0]⟩ ∧
    (after (.unblock ⟨1, 0, 0⟩) (caveOf wheel [(0, { seat with condition := .blocked, count := 3 })])).slot 0 = seat ∧
    (after (.setWindow 11 8 7 7 7 7) cave).window 11 = ⟨some 8, 7, 7, 7, 7⟩ ∧
    host (.readWindow 0) cave = some ⟨.ok, [255, 0, 0, 0, 0]⟩ := by decide +kernel

theorem test_class_and_candidate_requests :
    host (.setClass 31 1440 0 0 0 100 100 100 100 1 60 60 720) cave = host (.readClass 31) cave ∧
    ((host (.setClass 31 1 0 0 0 100 100 100 100 1 60 60 720) cave).map fun r => r.status) = some .clamped ∧
    (after .sweepStep cave).candidates = [⟨0, ⟨true, false, false, false⟩, 2560, 0⟩] ∧
    host (.readCandidates 1) (after .sweepStep cave) = some ⟨.ok, [1, 1, 0, 0, 1, 0, 0, 0x0A, 0, 0]⟩ := by
  decide +kernel

theorem test_dispatch_requests :
    (after .resume cave).dispatcher.state = .running ∧ (after .pause (after .resume cave)) = after .pause cave ∧
    (host (.setDispatch 0 600 120 240 1) cave).map (fun r => r.status) = some .clamped ∧
    host .readDispatch cave = some ⟨.ok, [0, 30, 2, 0x58, 0, 120, 0, 240, 1]⟩ ∧
    host (.cancelOrders 255) (busyCave (orderOf .issued (turnVisit .waiting)) .claimed) = some ⟨.ok, [1, 0]⟩ ∧
    host (.readOrders 0) (busyCave (orderOf .issued (turnVisit .waiting)) .claimed) =
      some ⟨.ok, [1, 7, 0, 0, 0, 0, 30, 1, 1, 0, 0, 0, 0]⟩ := by decide +kernel

/-- FETCH builds a BATCH from the candidate the sweep offered. -/
theorem test_fetch_builds_a_batch :
    let s := after .resume (after .sweepStep cave)
    robot (.fetch 0) s = some ⟨.ok, [1, 0, 0, 1, 0x11, 0, 0, 0, 0, 0, 0, 0, 0, 0, 0x11]⟩ ∧
    ((after (.fetch 0) s).slot 0).engaged = true ∧ (after (.fetch 0) s).candidates = [] ∧
    s.workAsserted = true ∧ robot (.fetch 8) s = some ⟨.badField, []⟩ := by decide +kernel

theorem test_order_requests :
    (after (.accept 7) (busyCave (orderOf .issued (turnVisit .waiting)) .claimed)).order? 7 =
      some { orderOf .accepted (turnVisit .waiting) with timer := 600 } ∧
    (after (.closeOrder 7) (busyCave (orderOf .issued (turnVisit .waiting)) .claimed)).dispatcher.window = [] ∧
    (after (.orderExpiry 7)
      (busyCave { orderOf .issued (turnVisit .waiting) with timer := 0 } .claimed)).attention.pending = 0x41#8 ∧
    after (.orderExpiry 7) (busyCave (orderOf .issued (turnVisit .waiting)) .claimed) =
      busyCave (orderOf .issued (turnVisit .waiting)) .claimed ∧
    robot (.readOrder 0) (busyCave (orderOf .issued (turnVisit .waiting)) .claimed) = some ⟨.ok, [1, 7, 0, 0, 0]⟩ := by
  decide +kernel

theorem test_visits :
    let w := busyCave (orderOf .accepted (turnVisit .waiting)) .claimed
    let d := busyCave (orderOf .accepted (turnVisit .started)) .inHand
    robot (.visitStart 7 1 0x11) w = some ⟨.proceed, [1]⟩ ∧ robot (.visitStart 7 1 0x12) w = some ⟨.stop, []⟩ ∧
    (after (.visitStart 7 1 0x12) w).discrepancies.length = 1 ∧
    (after (.visitEndDone 7 1 1 4000 0) d).record? 0 =
      some { wheel with lastTurn := 5000, turnCount := 1, lastWeight := some 4000, intakeWeight := some 4000 } ∧
    (after (.visitEndAborted 7 1 0 65535 0) d).attention.pending = 0x81#8 ∧
    ((after (.visitEndUnreachable 7 1 0 65535 0) w).slot 0).count = 1 ∧
    ((after (.visitEndAbsent 7 1 0 65535 0) w).record? 0).map (fun r => r.holds.missing) = some true ∧
    ((after (.visitEndDone 7 1 8 65535 0) (movingCave .started .inHand)).record? 0).map (fun r => r.location) =
      some (some 5) ∧
    ((after (.visitEndDestUnreachable 7 1 0 65535 0) (movingCave .started .inHand)).slot 5).count = 1 := by
  decide +kernel

theorem test_relocation_and_census_requests :
    host (.relocate 0 ⟨1, 0, 5⟩) cave = some ⟨.ok, [1]⟩ ∧
    (after (.unrelocate 0) (queuedCave .queued)).relocations = [] ∧
    host .readRelocations (queuedCave .queued) = some ⟨.ok, [1, 1, 0, 0, 1, 0, 5, 0]⟩ ∧
    (after (.censusRack 16) cave).census = ⟨0, [⟨15, 0⟩]⟩ ∧
    (after .censusRackNone (after (.censusRack 16) cave)).census = ⟨0, []⟩ ∧
    host .readCensus cave = some ⟨.ok, [1, 0, 0, 0, 0, 0, 0, 0, 0, 0]⟩ := by decide +kernel

theorem test_discrepancy_requests :
    (host (.readDiscrepancy 3) (foundCave missingEntry)).map (fun r => r.payload.length) = some 32 ∧
    host (.readDiscrepancyNext 2) (foundCave missingEntry) = host (.readDiscrepancy 3) (foundCave missingEntry) ∧
    (after (.resolveDismiss ⟨1, 0, 0⟩) (foundCave missingEntry)).discrepancies = [] ∧
    ((after (.resolveRescan ⟨1, 0, 0⟩) (foundCave missingEntry)).slot 0).review = true ∧
    ((after (.resolveAdopt ⟨1, 0, 0⟩) (foundCave missingEntry)).record? 0).map (fun r => r.location) = some none := by
  decide +kernel

theorem test_polling :
    (after .roundBoundary (polled .waiting 0)).poller.state = .broadcasting ∧
    (after (.measure true) (polled .broadcasting 0)).poller.driven = [0x00#8, 0x3D#8] ∧
    (after .conversionWaitEnd (polled .converting 0)).poller.turn = 2 ∧
    ((after (.sensorRead (some [0x03#8, 0x84#8, 0x00#8, 0x78#8, 0x00#8, 0x01#8])) (polled .reading 2)).sensor 2).fresh =
      some (900, 120) ∧
    (after (.sensorRead none) (polled .reading 5)).poller.state = .waiting ∧
    (after (.arbitrationLoss true 0x54#8) (polled .reading 5)).poller.lossRole = .serving .registry ∧
    (after (.arbitrationLoss true 0x54#8) (polled .reading 2)) = polled .reading 2 ∧
    (after (.arbitrationLoss true 0x00#8) (polled .broadcasting 0)) = polled .broadcasting 0 ∧
    (after (.arbitrationLoss false 0x3C#8) (polled .broadcasting 0)).poller.lossRole = .offBus ∧
    host .pause (after (.arbitrationLoss false 0x3C#8) (polled .broadcasting 0)) = none ∧
    (after (.busStartCondition false) (polled .reading 2)).poller.bus = .busy ∧
    (after .busStopCondition State.reset).poller.bus = .idle ∧
    (after .busIdleTimeout State.reset).poller.bus = .idle := by decide +kernel

/-- A read is driven at the address its entry held when it began; a change of the entry discards its result (R153). -/
theorem test_a_read_keeps_its_address :
    let s := after (.setSensor 2 0x40 1) (after (.busStartCondition true) (polled .reading 2))
    s.poller.target = 0x10 ∧ s.poller.discard = true ∧ (s.sensor 2).address = 0x40 ∧
    (after (.sensorRead none) s).poller.driven = [0x21#8] ∧
    (after (.sensorRead none) s).sensor 2 = SensorEntry.unpolled 0x40 1 ∧
    (after (.sensorRead none) (polled .reading 2)).poller.driven = [0x21#8] := by decide +kernel

theorem test_climate_requests :
    host (.setSensor 0 0x10 1) (polled .stopped 0) = some ⟨.duplicate, []⟩ ∧
    (after (.setSensor 0 0x77 8) State.reset).sensor 0 = SensorEntry.unpolled 0x77 8 ∧
    host (.readSensor 2) (polled .stopped 0) = some ⟨.ok, [0x10, 1, 0, 0, 0, 0, 0, 0, 0, 0, 0, 0, 0]⟩ ∧
    (after (.setPoll 0 60 250) (polled .stopped 0)).poller.state = .waiting ∧
    host .readPoll State.reset = some ⟨.ok, [1, 0, 60, 0, 250, 0, 0, 0]⟩ ∧
    ((after (.setZone 1 1 2 3 0 9 1 1 0) State.reset).zone 1).active = ⟨1, 2, 3, 0, 9, 1, 1, 0⟩ ∧
    (host (.readZone 8) State.reset).map (fun r => r.payload.length) = some 43 ∧
    ((after (.ackAlarm 1) { cave with zones := [(1, { Zone.cold with alarm := .raised .low })] }).zone 1).alarm =
      .acknowledged .low := by decide +kernel

theorem test_attention_clock_and_restart :
    host .takeAttention cave = some ⟨.ok, [0x01#8, 0xFF#8]⟩ ∧ (after (.setMask 0#8) cave).attnAsserted = false ∧
    host .readStatus cave = some ⟨.ok, [0, 1, 0, 1, 0, 0, 0, 0, 0, 0, 0]⟩ ∧
    (after (.setClock 7) State.reset).clock = ⟨7, true, false, 0, .cold⟩ ∧
    host .readClock cave = some ⟨.ok, [0, 0, 0x13, 0x88, 1, 0]⟩ ∧
    (after (readAt 3) (after .restart cave)).clock.lastStart = .warm ∧
    (after (.replyRead 0x2A ⟨3, true, false⟩) (after .restart cave)).port.registryAddress = 0x2E ∧
    (after .restartDelayExpiry (after .restart cave)).clock.lastStart = .warm ∧
    (after .restartDelayExpiry cave) = cave := by decide +kernel

/-! ## The hypotheses of the obligations are met -/

/-- The cave with one command waiting: the state the witnesses of the step statements use. -/
def waitingCave : State := { cave with pending := [.pause] }

theorem test_hyp_StepRunsTheFrontCommand : waitingCave.pending = [.pause] := rfl

/-- Order 7 with a second left on its timer. -/
def dueCave : State := busyCave { orderOf .issued (turnVisit .waiting) with timer := 1 } .claimed

theorem test_hyp_StepsAlwaysAnswerAndTimePasses :
    (cave.pending = [] ∧ cave.operating = true ∧ (cave.portState .registry).isProcessing = false ∧
      (cave.portState .turner).isProcessing = false) ∧
    ((after .mainPowerLoss cave).pending = [] ∧ (after .mainPowerLoss cave).operating = false) ∧
    (dueCave.pending = [] ∧ dueCave.operating = true ∧
      dueCave.secondPassed.pending = [.orderExpiry 7] ∧ cave.secondPassed.pending = []) := by decide +kernel

/-- The front command of the waiting cave answers a next state. -/
theorem waitingCave_steps : ∃ t, step waitingCave = .next t := ⟨_, rfl⟩

theorem test_hyp_StepsKeepTheTablesWithinCapacity :
    waitingCave.tablesCanonical = true ∧ waitingCave.withinCapacity = true ∧ waitingCave.candidatesRanked ∧
    ∃ t, step waitingCave = .next t :=
  ⟨by decide +kernel, by decide +kernel, ⟨List.Pairwise.nil, List.nodup_nil⟩, waitingCave_steps⟩

theorem test_hyp_StepsKeepTheRegistryConsistent :
    waitingCave.tablesCanonical = true ∧ waitingCave.tagIndexAgrees ∧ waitingCave.overdueCounted = true ∧
    ∃ t, step waitingCave = .next t := by
  refine ⟨by decide +kernel, ?_, by decide +kernel, waitingCave_steps⟩
  intro tag i
  simp only [waitingCave, cave, caveOf, State.record?, Table.read?]
  constructor
  · intro h
    by_cases ht : 17 = tag
    · rw [if_pos ht] at h
      exact ⟨wheel, by rw [if_pos (Option.some.inj h)], ht⟩
    · rw [if_neg ht] at h; cases h
  · rintro ⟨r, h, rfl⟩
    by_cases hi : 0 = i
    · rw [if_pos hi] at h
      cases h
      rw [← hi]; rfl
    · rw [if_neg hi] at h; cases h

/-- The settings of a cave are the cold ones, so they are legal. -/
theorem cave_settingsLegal (r : WheelRecord) (slots : Table SlotRecord) : (caveOf r slots).settingsLegal := by
  refine ⟨fun _ => rfl, rfl, rfl, fun _ => ⟨rfl, rfl⟩, ?_, ?_, ?_, ?_, fun _ => Or.inl rfl, ?_⟩
  · intro z c h; cases h
  · intro p hp
    refine ⟨Nat.le_add_left 1 31, Nat.le_refl 32, Nat.le_add_left 1 7, Nat.le_refl 8, fun n hn => ?_⟩
    have h : p + 1 = n := Option.some.inj hn
    omega
  · intro p q n _ _ hp hq
    have h : p + 1 = q + 1 := Option.some.inj (Eq.trans (b := some n) hp hq.symm)
    omega
  · exact fun n => ⟨Nat.le_refl 0, Nat.zero_le 7, Nat.le_refl 0, Nat.zero_le 7, fun z hz => by cases hz⟩
  · exact fun e f _ _ _ h => absurd rfl h

theorem test_hyp_StepsKeepThePollerAndSettingsLegal :
    waitingCave.tablesCanonical = true ∧ waitingCave.pollerLegal ∧ waitingCave.settingsLegal ∧
    ∃ t, step waitingCave = .next t := by
  refine ⟨by decide +kernel, ⟨⟨fun _ => rfl, fun _ => rfl⟩, fun _ _ => rfl, by decide +kernel, by decide +kernel⟩,
    cave_settingsLegal wheel [(0, seat)], waitingCave_steps⟩

/-- The wheel in hand on its way to slot 5, and the report of its arrival waiting. -/
def arrivingCave : State :=
  { movingCave .started .inHand with pending := [.visitEndDone 7 1 8 65535 0] }

theorem arrivingCave_record (i : Nat) (r : WheelRecord) : arrivingCave.record? i = some r ↔
    i = 0 ∧ r = { wheel with claim := .inHand, relocationPending := true } := by
  simp only [arrivingCave, movingCave, caveOf, State.record?, Table.read?]
  by_cases h : 0 = i
  · subst h; simp [eq_comm]
  · rw [if_neg h]; simp [Ne.symm h]

theorem arrivingCave_slot (p : Nat) : arrivingCave.slot p =
    if p = 0 then { seat with engaged := true }
    else if p = 5 then { SlotRecord.cold with reserved := true, engaged := true } else SlotRecord.cold := by
  simp only [arrivingCave, movingCave, caveOf, State.slot, Table.readD, Table.read?]
  by_cases h : 0 = p
  · rw [if_pos h, if_pos h.symm]; rfl
  · rw [if_neg h, if_neg (Ne.symm h)]
    by_cases h5 : 5 = p
    · rw [if_pos h5, if_pos h5.symm]; rfl
    · rw [if_neg h5, if_neg (Ne.symm h5)]; rfl

theorem arrivingCave_unended : arrivingCave.unended = [moveVisit .started] := by decide +kernel

theorem arrivingCave_handle (i : Nat) : arrivingCave.handleOf i = i := by
  simp [State.handleOf, State.generation, arrivingCave, movingCave, caveOf, Table.readD, Table.read?]

/-- A state with an order outstanding, a wheel in hand, engaged and reserved slots and an issued relocation. -/
theorem arrivingCave_worksAgree : arrivingCave.worksAgree := by
  refine ⟨by decide +kernel, by decide +kernel, ⟨List.Pairwise.nil, List.nodup_nil⟩, ?_, ?_, ?_, ?_, ?_, ?_, ?_, ?_⟩
  · intro tag i
    have ht : arrivingCave.registry.tagIndex.read? tag = if 17 = tag then some 0 else none := rfl
    rw [ht]
    constructor
    · intro h
      by_cases h17 : 17 = tag
      · rw [if_pos h17] at h
        cases h
        exact ⟨_, (arrivingCave_record 0 _).2 ⟨rfl, rfl⟩, h17⟩
      · rw [if_neg h17] at h; cases h
    · rintro ⟨r, h, rfl⟩
      obtain ⟨rfl, rfl⟩ := (arrivingCave_record i r).1 h
      rfl
  · intro i p
    rw [arrivingCave_slot]
    constructor
    · intro h
      by_cases h0 : p = 0
      · rw [if_pos h0] at h
        cases h
        exact ⟨_, (arrivingCave_record 0 _).2 ⟨rfl, rfl⟩, by rw [h0]; rfl⟩
      · rw [if_neg h0] at h; split at h <;> cases h
    · rintro ⟨r, h, hl⟩
      obtain ⟨rfl, rfl⟩ := (arrivingCave_record i r).1 h
      cases hl
      rfl
  · refine ⟨by decide +kernel, ?_⟩
    intro o ho
    rw [List.mem_singleton.1 ho]
    refine ⟨by decide, by decide, by decide, by decide, by decide, by decide +kernel, by decide +kernel,
      fun _ => by decide +kernel, fun h => absurd h (by decide)⟩
  · rw [State.claimsAgree, arrivingCave_unended]
    refine ⟨?_, ?_, by decide +kernel⟩
    · intro i r h
      obtain ⟨rfl, rfl⟩ := (arrivingCave_record i r).1 h
      rw [arrivingCave_handle]
      exact ⟨fun _ => ⟨_, List.mem_singleton.2 rfl, rfl⟩, fun _ h => by cases h⟩
    · intro v hv h hw
      rw [List.mem_singleton.1 hv] at hw ⊢
      cases hw
      exact ⟨_, ⟨(arrivingCave_record 0 _).2 ⟨rfl, rfl⟩, arrivingCave_handle 0⟩, rfl, fun _ => rfl, fun _ => rfl⟩
  · rw [State.engagementsAgree, arrivingCave_unended]
    refine ⟨?_, by decide +kernel⟩
    intro p
    have hv : (∃ v ∈ [moveVisit .started], p ∈ v.slots) ↔ p = 0 ∨ p = 5 := by
      simp [moveVisit, Visit.slots]
      omega
    rw [hv, arrivingCave_slot]
    split
    · simp [*]
    · split <;> simp [*, SlotRecord.cold]
  · rw [State.relocationsAgree, arrivingCave_unended]
    have hr : arrivingCave.relocations = [⟨0, 5, .issued⟩] := rfl
    rw [hr]
    refine ⟨by decide, by decide, ?_, ?_, ?_, ?_, ?_, ?_⟩
    · intro p
      rw [arrivingCave_slot]
      split
      · simp [*, seat, SlotRecord.cold]
      · split
        · simp [*]
        · rename_i h; simp [SlotRecord.cold, Ne.symm h]
    · intro p
      rw [arrivingCave_slot]
      split
      · simp [seat, SlotRecord.cold]
      · split <;> simp [SlotRecord.cold]
    · intro i r h
      obtain ⟨rfl, rfl⟩ := (arrivingCave_record i r).1 h
      rw [arrivingCave_handle]
      simp
    · intro q hq
      rw [List.mem_singleton.1 hq]
      exact ⟨_, (arrivingCave_record 0 _).2 ⟨rfl, rfl⟩, arrivingCave_handle 0⟩
    · intro q hq
      rw [List.mem_singleton.1 hq]
      simp [moveVisit]
    · intro v hv d hd
      rw [List.mem_singleton.1 hv] at hd ⊢
      cases hd
      exact ⟨_, List.mem_singleton.2 rfl, rfl, rfl⟩
  · intro c hc; cases hc
  · intro e he; cases he

/-- The premises of the six statements over `worksAgree`: the wheel arrives and the step is made. -/
theorem arrivingCave_steps : arrivingCave.worksAgree ∧ ∃ t, step arrivingCave = .next t :=
  ⟨arrivingCave_worksAgree, ⟨_, rfl⟩⟩

theorem test_hyp_StepsKeepLocationsAgreed : arrivingCave.worksAgree ∧ ∃ t, step arrivingCave = .next t :=
  arrivingCave_steps

theorem test_hyp_StepsKeepClaimsWithTheirVisits : arrivingCave.worksAgree ∧ ∃ t, step arrivingCave = .next t :=
  arrivingCave_steps

theorem test_hyp_StepsKeepEngagementsWithTheirVisits :
    arrivingCave.worksAgree ∧ ∃ t, step arrivingCave = .next t := arrivingCave_steps

theorem test_hyp_StepsKeepReservationsWithTheirRelocations :
    arrivingCave.worksAgree ∧ ∃ t, step arrivingCave = .next t := arrivingCave_steps

theorem test_hyp_StepsKeepCandidatesUnclaimedAndUnheld :
    arrivingCave.worksAgree ∧ ∃ t, step arrivingCave = .next t := arrivingCave_steps

theorem test_hyp_StepsKeepTheOrderWindowLegal : arrivingCave.worksAgree ∧ ∃ t, step arrivingCave = .next t :=
  arrivingCave_steps

theorem test_hyp_StartsFollowTheBackupLossFlag :
    ((after .backupSupplyLoss cave).clock.backupLoss = true ∧
      (after .backupSupplyLoss cave).supply.resetLow = false) ∧
    (let s := after .resetNAssert (after .backupSupplyLoss cave)
     s.clock.backupLoss = true ∧ s.supply.resetLow = true ∧ s.supply.mainPower = true) ∧
    (cave.tablesCanonical = true ∧ cave.clock.backupLoss = false ∧ cave.supply.resetLow = false) ∧
    (let s := after .resetNAssert cave
     s.tablesCanonical = true ∧ s.clock.backupLoss = false ∧ s.supply.resetLow = true ∧ s.supply.mainPower = true) ∧
    (let s := after .restart cave
     s.tablesCanonical = true ∧ s.operating = true ∧ s.clock.backupLoss = false ∧ s.port.restart ≠ none) := by
  decide +kernel

theorem test_hyp_SupplyEventsAndTheUnpoweredPart :
    (after .mainPowerLoss cave).operating = false ∧ ofSupply .pause = false := by decide +kernel

/-- A refused request at each address, and a handle that names no live record, or one of another generation. -/
theorem test_hyp_RefusedRequestsChangeNothing :
    (requestPort (.retire 5) = some .registry ∧ cave.free .registry = true ∧
      host (.retire 5) cave = some ⟨.staleHandle, []⟩ ∧ Status.staleHandle.isRefusal = true) ∧
    (requestPort (.accept 9) = some .turner ∧ cave.free .turner = true ∧
      robot (.accept 9) cave = some ⟨.unknownOrder, []⟩ ∧ Status.unknownOrder.isRefusal = true) ∧
    (requestHandle (.unrelocate 4095) = some 4095 ∧ cave.named? 4095 = none) ∧
    (requestHandle (.readRecord 4096) = some 4096 ∧ cave.named? 4096 = none) := by decide +kernel

theorem test_hyp_RequestFramesReadBack :
    (Instr.lookupTag (2 ^ 48 - 1)).wf = true ∧ Instr.lookupTag (2 ^ 48 - 1) ≠ .censusRack 0 ∧
    requestPort (.lookupTag (2 ^ 48 - 1)) = some .registry ∧
    (requestFrame (.lookupTag (2 ^ 48 - 1))).isSome = true ∧
    (Instr.censusRack 1).wf = true ∧ Instr.censusRack 1 ≠ .censusRack 0 ∧
    requestPort (.readOrder 255) = some .turner ∧ (requestFrame (.readOrder 255)).isSome = true := by decide +kernel

/-- The cave with a request in the registry's slot. -/
def processingCave (r : Request) : State := { cave with port := { cave.port with registry := .processing r } }

/-- The cave with a reply waiting at the registry address. -/
def readyCave (restart : Option Bool) : State :=
  { cave with port := { cave.port with registry := .ready ⟨.ok, []⟩, restart := restart } }

/-- The cave with its part off the bus since it lost arbitration. -/
def offCave : State := { cave with poller := { cave.poller with lossRole := .offBus } }

theorem test_hyp_WritesReachTheRequestSlot :
    (offCave.operating = true ∧ offCave.poller.lossRole = .offBus) ∧
    (cave.operating = true ∧ cave.poller.lossRole ≠ .offBus ∧ cave.portAt? 0x29 = none ∧ cave.portAt? 0x2C = none) ∧
    (let s := processingCave (.command .pause)
     s.operating = true ∧ s.poller.lossRole ≠ .offBus ∧ s.portAt? 0x2A = some .registry ∧
      (s.portState .registry).isProcessing = true) ∧
    (cave.portAt? 0x2B = some .turner ∧ (cave.portState .turner).isProcessing = false ∧
      completeFrame? [0x40#8, 0x01#8, 0x00#8] = none) ∧
    ((cave.portState .registry).isProcessing = false ∧
      completeFrame? [0x7F#8, 0x00#8, 0x81#8, 0xFF#8] = some [0x7F#8, 0x00#8, 0x81#8] ∧
      judgeFrame .registry [0x7F#8, 0x00#8, 0x81#8] = .inl .badKind) ∧
    ((readyCave (some true)).port.restart = some true ∧
      ((readyCave (some true)).portState .registry).isProcessing = false ∧
      completeFrame? [0x14#8, 0x00#8, 0xEC#8] = some [0x14#8, 0x00#8, 0xEC#8] ∧
      judgeFrame .registry [0x14#8, 0x00#8, 0xEC#8] = .inr (.command .pause)) ∧
    (([0x14#8] : List Byte).length < 2 ∧ (0x7C#8 : Byte).toNat ≤ 124 ∧ 124 < (0x7D#8 : Byte).toNat ∧
      (0x00#8 : Byte).toNat + 3 ≤ ([0x14#8, 0x00#8, 0xEC#8] : List Byte).length ∧
      ([0x14#8, 0x00#8] : List Byte).length < (0x00#8 : Byte).toNat + 3) ∧
    (let s := processingCave (.command .pause)
     requestPort .pause = some .registry ∧ requestPort .resume = some .registry ∧
      s.portState .registry = .processing (.command .pause) ∧ Request.command .pause ≠ .command .resume ∧
      s.port.held = none ∧ (s.setPort .registry .idle).free .registry = true) := by decide +kernel

theorem test_hyp_FramesAreJudgedInOrder :
    (124 < (0x7D#8 : Byte).toNat ∧ (0x7C#8 : Byte).toNat ≤ 124 ∧ byteSum [0x14#8, 0x7C#8, 0x00#8] ≠ 0#8) ∧
    (byteSum [0x2E#8, 0x00#8, 0xD2#8] = 0#8 ∧ kindForm 0x2E = none) ∧
    (byteSum [0x40#8, 0x00#8, 0xC0#8] = 0#8 ∧ kindForm 0x40 = some (.turner, [1]) ∧ PortId.turner ≠ .registry ∧
      [1].contains 0 = false ∧ [1].contains 1 = true) ∧
    (let l : List Byte := [0, 0, 6, 0]
     3 ≤ l.length ∧ ∀ e ∈ [(0, 4), (1, 5), (2, 8), (3, 8), (4, 5), (5, 5), (6, 6)],
       e ≠ ((l.getD 2 0#8).toNat, l.length)) ∧
    (let l : List Byte := [7, 1, 5, 0, 0, 0, 0, 0, 0, 0, 0, 0]
     l.length = 12 ∧ 4 < (l.getD 2 0#8).toNat) ∧
    (let l : List Byte := [1, 0, 0, 3]
     l.length = 4 ∧ 2 < (l.getD 3 0#8).toNat) ∧
    (([0xFE, 0] : List Byte).length = 2 ∧ ([0xFE, 0] : List Byte).getD 0 0#8 ≠ 0xFF#8) ∧
    (cave.named? 0 ≠ none ∧ cave.named? 1 = none ∧ cave.order? 7 = none ∧ cave.operating = true ∧
      (cave.portState .registry).isProcessing = false ∧
      (processingCave (.command .pause)).portState .registry = .processing (.command .pause) ∧
      (processingCave (.badAmend 0)).portState .registry = .processing (.badAmend 0) ∧
      (processingCave (.badAmend 0)).malformedStatus? (.badAmend 0) = some .badField ∧
      (processingCave (.badAmend 0)).port.held = none) := by decide +kernel

theorem test_hyp_ReadsAreAnsweredByThePortState :
    (offCave.operating = true ∧ offCave.poller.lossRole = .offBus ∧ cave.portAt? 0x2C = none) ∧
    (cave.operating = true ∧ cave.poller.lossRole ≠ .offBus ∧ cave.portAt? 0x2A = some .registry ∧
      cave.portState .registry = .idle) ∧
    ((readyCave none).portState .registry = .ready ⟨.ok, []⟩ ∧ (Reply.ok []).frame.length ≤ 3 ∧
      2 < (Reply.ok []).frame.length ∧
      ¬(PortId.registry = .registry ∧ (readyCave none).port.restart = some true)) ∧
    ((processingCave (.command .pause)).portState .registry = .processing (.command .pause)) ∧
    (let s := after (readAt 3) (processingCave (.command .pause))
     let u := State.setPort { s with port := { s.port with held := none } } .registry .idle
     requestPort .pause = some .registry ∧ s.operating = true ∧
      s.portState .registry = .processing (.command .pause) ∧ s.port.held = some ⟨.registry, 3⟩ ∧
      u.free .registry = true ∧ u.Replies .pause .registry u ⟨.ok, []⟩ ∧
      ¬(PortId.registry = .registry ∧ u.port.restart = some true) ∧
      (Reply.ok []).frame.length ≤ 3 ∧ 2 < (Reply.ok []).frame.length) :=
  ⟨by decide +kernel, by decide +kernel, by decide +kernel, by decide +kernel, by decide +kernel, by decide +kernel,
    by decide +kernel, by decide +kernel, by decide +kernel, rfl, by decide +kernel, by decide +kernel,
    by decide +kernel⟩

theorem test_hyp_RestartIsAnsweredThenStarts :
    cave.free .registry = true ∧
    (let s := readyCave (some true)
     s.tablesCanonical = true ∧ s.operating = true ∧ s.clock.backupLoss = false ∧ s.poller.lossRole ≠ .offBus ∧
      s.portAt? 0x2A = some .registry ∧ s.port.registry = .ready ⟨.ok, []⟩ ∧ s.port.restart = some true ∧
      (Reply.ok []).frame.length ≤ 3 ∧ requestPort .pause = some .registry ∧
      s.port.registry.isProcessing = false) := by decide +kernel

theorem test_hyp_AttentionIsLatchedTakenAndMasked :
    cave.attention.pending &&& AttentionKind.restarted.bit = AttentionKind.restarted.bit ∧
    cave.free .registry = true := by decide +kernel

theorem test_hyp_StatusAndClockAreReadAndSet : cave.free .registry = true := by decide +kernel

/-- A registry with every index live. -/
def fullCave : State :=
  { cave with registry := ⟨(List.range 4096).map fun i => (i, wheel), [], [(0x11, 0)], 0⟩ }

theorem test_hyp_AdmitIsRefusedInOrderOrCreates :
    (cave.free .registry = true ∧ timeValue? ⟨0, 0⟩ = some .unsupplied ∧ timeValue? ⟨1, 4294967295⟩ ≠ none ∧
      timeValue? ⟨2, 0⟩ = some .never ∧ State.reset.clock.isSet = false ∧ State.reset.free .registry = true) ∧
    (cave.clock.isSet = true ∧ (31 : Nat) < 32 ∧ cave.registry.tagIndex.read? 0x11 ≠ none) ∧
    (fullCave.registry.tagIndex.read? 0x12 = none ∧ fullCave.lowestFree? = none ∧ fullCave.free .registry = true) ∧
    (cave.registry.tagIndex.read? 0x12 = none ∧ cave.lowestFree? ≠ none ∧ cave.physical? ⟨17, 0, 0⟩ = none ∧
      cave.physical? ⟨16, 32, 0⟩ = none ∧ cave.physical? ⟨16, 31, 8⟩ = none ∧ cave.physical? ⟨16, 31, 7⟩ ≠ none) ∧
    (cave.physical? ⟨1, 0, 0⟩ = some 0 ∧ (cave.slot 0).condition = .opened ∧ (cave.slot 0).occupant ≠ none) ∧
    (let s := caveOf wheel [(0, { SlotRecord.cold with condition := .blocked }),
        (1, { SlotRecord.cold with reserved := true }), (2, { SlotRecord.cold with engaged := true })]
     s.free .registry = true ∧ (s.slot 0).condition = .blocked ∧ (s.slot 1).reserved = true ∧
      (s.slot 2).condition = .opened ∧ (s.slot 2).occupant = none ∧ (s.slot 2).reserved = false ∧
      (s.slot 2).engaged = true ∧ s.physical? ⟨1, 0, 2⟩ = some 2) ∧
    (cave.free .registry = true ∧ cave.registry.records.ordered = true ∧
    timeValue? ⟨0, 0⟩ = some .unsupplied ∧ timeValue? ⟨2, 0⟩ = some .never ∧
    cave.admitRefusal 0x12 31 ⟨1, 0, 1⟩ (some .unsupplied) (some .never) = none ∧
    cave.admitRefusal 0x12 0 ⟨0, 0, 0⟩ (some .unsupplied) (some .unsupplied) = none ∧
    cave.physical? ⟨1, 0, 1⟩ = some 1) := by decide +kernel

theorem test_hyp_RecordsAreFoundAndRead :
    (cave.free .registry = true ∧ cave.registry.tagIndex.read? 0x11 = some 0 ∧
      cave.registry.tagIndex.read? 0x12 = none ∧ cave.physical? ⟨17, 0, 0⟩ = none ∧
      cave.physical? ⟨1, 0, 1⟩ = some 1 ∧ (cave.slot 1).occupant = none ∧ cave.physical? ⟨1, 0, 0⟩ = some 0 ∧
      (cave.slot 0).occupant = some 0 ∧ cave.named? 0 = some 0 ∧ cave.record? 0 = some wheel) ∧
    cave.registry.records.ordered = true ∧
    (0 ≤ 0 ∧ cave.record? 0 = some wheel ∧ ∀ j, 0 ≤ j → j < 0 → cave.record? j = none) ∧
    (∀ j, 4096 ≤ j → cave.record? j = none) ∧ ((4096 : Nat) ≤ 65534 ∧ (65534 : Nat) ≠ 65535) := by
  refine ⟨by decide +kernel, by decide +kernel, ⟨Nat.le_refl 0, rfl, fun j _ h => absurd h (Nat.not_lt_zero j)⟩, ?_,
    by decide⟩
  intro j h
  simp only [cave, caveOf, State.record?, Table.read?]
  rw [if_neg (by omega)]

theorem test_hyp_AmendWritesItsField :
    cave.free .registry = true ∧ cave.named? 0 = some 0 ∧ cave.record? 0 = some wheel ∧ cave.clock.isSet = true ∧
    (let s := { cave with clock := State.reset.clock }
     s.free .registry = true ∧ s.named? 0 = some 0 ∧ s.record? 0 = some wheel ∧ s.clock.isSet = false) := by
  decide +kernel

/-- The cave with its wheel claimed. -/
def claimedCave : State := caveOf { wheel with claim := .claimed } [(0, seat)]

theorem test_hyp_AmendLocationMovesTheWheel :
    (claimedCave.free .registry = true ∧ claimedCave.named? 0 = some 0 ∧
      (claimedCave.record? 0).map (fun r => r.claim) = some .claimed) ∧
    (cave.free .registry = true ∧ wheel.claim = .none ∧ cave.record? 0 = some wheel ∧
      cave.placeRefusal (some 0) ⟨1, 32, 0⟩ = some .slotUnusable ∧ cave.placeRefusal (some 0) ⟨1, 0, 0⟩ = none ∧
      cave.placeRefusal (some 0) ⟨0, 0, 0⟩ = none ∧ cave.placeRefusal (some 0) ⟨1, 0, 2⟩ = none ∧
      cave.physical? ⟨1, 0, 2⟩ = some 2) := by decide +kernel

theorem test_hyp_HoldAndReleaseChangeTheHoldSet :
    cave.free .registry = true ∧ cave.named? 0 = some 0 ∧ cave.record? 0 = some wheel := by decide +kernel

theorem test_hyp_RetireAndEraseRemoveEveryTrace :
    (cave.free .registry = true ∧ cave.named? 0 = some 0 ∧ cave.record? 0 = some wheel ∧ wheel.claim = .none) ∧
    (claimedCave.free .registry = true ∧ claimedCave.named? 0 = some 0 ∧
      (claimedCave.record? 0).map (fun r => r.claim) ≠ some .none) ∧
    (cave.free .registry = true ∧ cave.tablesCanonical = true ∧ cave.dispatcher.state = .paused ∧
      cave.dispatcher.window = []) ∧
    ((after .resume cave).dispatcher.state = .running ∧
      (after .pause (busyCave (orderOf .issued scanVisit) .none)).dispatcher.window ≠ []) := by decide +kernel

theorem test_hyp_MapRackStoresTheRack :
    (cave.free .registry = true ∧ (15 : Nat) < 16 ∧ (16 : Nat) < 17) ∧
    (∃ q, q ≤ 15 ∧ q ≠ 0 ∧ (cave.rackRecord q).logical = some 16) ∧
    (logicalField? 255 = some none ∧ cave.numberTaken 0 none = false ∧ slotRack 0 = 0 ∧ cave.onMap 0 = true ∧
      (⟨none, 32, 8⟩ : RackRecord).maps 0 = false ∧ cave.slotInUse 0 = true) ∧
    (cave.tablesCanonical = true ∧ logicalField? 1 = some (some 1) ∧ cave.numberTaken 0 (some 1) = false ∧
      ∀ q, slotRack q = 1 → cave.onMap q = true → (⟨some 2, 1, 1⟩ : RackRecord).maps q = false →
        cave.slotInUse q = false) := by
  refine ⟨by decide +kernel, ⟨15, by decide +kernel⟩, by decide +kernel, by decide +kernel, by decide +kernel,
    by decide +kernel, ?_⟩
  intro q h _ _
  have hq : 0 ≠ q := by rintro rfl; exact absurd h (by decide +kernel)
  simp only [cave, caveOf, State.slotInUse, State.slot, Table.readD, Table.read?, if_neg hq]
  rfl

theorem test_hyp_SlotsAreReportedAndReturned :
    (cave.free .registry = true ∧ cave.physical? ⟨17, 0, 0⟩ = none ∧ cave.physical? ⟨1, 0, 0⟩ = some 0 ∧
      (cave.slot 0).occupant = some 0 ∧ cave.record? 0 = some wheel ∧ cave.physical? ⟨1, 0, 1⟩ = some 1 ∧
      (cave.slot 1).occupant = none ∧ cave.onMap 4095 = true) ∧
    cave.settingsLegal :=
  ⟨by decide +kernel, cave_settingsLegal wheel [(0, seat)]⟩

theorem test_hyp_WindowsGiveTheZone :
    cave.free .registry = true ∧ (∀ n, n < 12 → (cave.window n).covers 0 = false) ∧
    (let s := { cave with shelf := ⟨[], [], [(11, ⟨some 8, 7, 7, 7, 7⟩)]⟩ }
     (s.window 11).zone = some 8 ∧ (s.window 11).firstAisle ≤ slotAisle 4095 ∧
      slotAisle 4095 ≤ (s.window 11).lastAisle ∧ (s.window 11).lowLevel ≤ slotLevel 4095 ∧
      slotLevel 4095 ≤ (s.window 11).highLevel ∧ ∀ m, m < 11 → (s.window m).covers 4095 = false) := by decide +kernel

theorem test_hyp_ClassesAreStoredInRange : cave.free .registry = true := by decide +kernel

theorem test_hyp_IntervalsAndScoresStayInRange :
    cave.settingsLegal ∧ (cave.classRecord 0).brushBase = 0 ∧
    (let s := washedCave .high .clear 0
     (s.record? 0).bind (fun r => s.brushLateness r 0) = some 340 ∧ s.zoneOf 0 = 1 ∧
      (s.classRecord 3).brushInterval (some (s.zone 1).band) = some 2160 ∧ slotAisle 0 = s.sweep.turnerAisle) ∧
    slotAisle 0 ≠ (washedCave .high .clear 1).sweep.turnerAisle :=
  ⟨cave_settingsLegal wheel [(0, seat)], by decide +kernel, by decide +kernel, by decide +kernel⟩

theorem test_hyp_TheComputationAnswersOneResult :
    State.reset.clock.isSet = false ∧ cave.clock.isSet = true ∧ wheel.location = some 0 ∧
    (∃ v c, cave.interval 0 wheel = some v ∧ v.candidate = some c ∧ c.actions.turn = true) ∧
    (∃ v, claimedCave.interval 0 { wheel with claim := .claimed } = some v ∧ v.candidate = none) :=
  ⟨by decide +kernel, by decide +kernel, by decide +kernel, ⟨_, _, rfl, rfl, by decide +kernel⟩, ⟨_, rfl, rfl⟩⟩

/-- Besides, a sweep visit that sets the flag, one that clears it, one that leaves it, with and without a candidate. -/
theorem test_hyp_ASweepStepJudgesSixteenIndexes :
    cave.operating = true ∧ State.reset.operating = true ∧ State.reset.clock.isSet = false ∧
    cave.record? 0 = some wheel ∧ cave.record? 15 = none ∧
    cave.clock.isSet = true ∧ cave.record? 0 = some wheel ∧
    (cave.sweepVisit 0).record? 0 = some { wheel with overdue := true } ∧ (cave.sweepVisit 0).candidates.length = 1 ∧
    ((caveOf { wheel with lastTurn := 5000, overdue := true } [(0, seat)]).sweepVisit 0).record? 0 =
      some { wheel with lastTurn := 5000, overdue := false } ∧
    ((caveOf { wheel with lastTurn := 9000 } [(0, seat)]).sweepVisit 0).record? 0 =
      some { wheel with lastTurn := 5000 } := by decide +kernel

/-- A Candidate List of `n` entries with falling scores. -/
def listOf (n : Nat) : List Candidate :=
  (List.range n).map fun i => ⟨i, ⟨true, false, false, false⟩, 100 - (i : Int), 0⟩

theorem test_hyp_TheCandidateListKeepsTheBest :
    ((listOf 31).Pairwise (fun a b => a.ranksAhead b = true) ∧
      ((listOf 31).map fun d => handleIndex d.handle).Nodup ∧ (listOf 31).length < 32 ∧
      ∀ d ∈ listOf 31, handleIndex d.handle ≠ 40) ∧
    ((listOf 32).Pairwise (fun a b => a.ranksAhead b = true) ∧
      ((listOf 32).map fun d => handleIndex d.handle).Nodup ∧ (listOf 32).length = 32 ∧
      (∀ d ∈ listOf 32, handleIndex d.handle ≠ 40) ∧
      (listOf 32).getLast? = some ⟨31, ⟨true, false, false, false⟩, 69, 0⟩ ∧
      (⟨40, ⟨true, false, false, false⟩, 70, 0⟩ : Candidate).ranksAhead ⟨31, ⟨true, false, false, false⟩, 69, 0⟩ = true ∧
      (⟨40, ⟨true, false, false, false⟩, 69, 0⟩ : Candidate).ranksAhead ⟨31, ⟨true, false, false, false⟩, 69, 0⟩ =
        false) ∧
    (∃ d ∈ listOf 32, handleIndex d.handle = 31) ∧ cave.free .registry = true := by decide +kernel

theorem test_hyp_DispatchIsSetAndRead : cave.free .registry = true := by decide +kernel

/-- Dispatch RUNNING with the four orders the window holds. -/
def fullWindow : State :=
  { cave with dispatcher := ⟨.running,
    [1, 2, 3, 4].map fun n => { orderOf .issued scanVisit with number := n }, 4, DispatchSettings.cold⟩ }

/-- A part with no mapped rack, so that no census step yields a slot. -/
def bareCave : State :=
  { caveOf wheel [] with shelf := ⟨(List.range 16).map fun p => (p, ⟨none, 32, 8⟩), [], []⟩ }

theorem test_hyp_FetchTakesTheFirstSourceThatYields :
    (cave.free .turner = true ∧ cave.dispatcher.state = .paused ∧ (8 : Nat) ≤ 8 ∧ (8 : Nat) ≠ 15 ∧
      fullWindow.free .turner = true ∧ fullWindow.dispatcher.state = .running ∧
      fullWindow.dispatcher.window.length = 4) ∧
    ((queuedCave .queued).free .turner = true ∧ (queuedCave .queued).dispatcher.state = .running ∧
      (queuedCave .queued).relocationWork? = some { moveVisit .waiting with compared := some 0 }) ∧
    (let s := after .resume (after .sweepStep cave)
     s.dispatcher.state = .running ∧ s.relocationWork? = none ∧ s.clock.isSet = true ∧
      s.candidateWork = [turnVisit .waiting]) ∧
    (let s := after .resume State.reset
     s.free .turner = true ∧ s.relocationWork? = none ∧ s.clock.isSet = false ∧ s.dispatcher.settings.census = true ∧
      s.censusTake.1 = [0, 1, 2, 3, 4, 5, 6, 7]) ∧
    (let s := after .resume (after (.setDispatch 30 600 120 240 0) cave)
     s.free .turner = true ∧ s.relocationWork? = none ∧ s.clock.isSet = true ∧ s.candidates = [] ∧
      s.dispatcher.settings.census = false) ∧
    (let s := after .resume (after (.setDispatch 30 600 120 240 0) State.reset)
     s.free .turner = true ∧ s.relocationWork? = none ∧ s.clock.isSet = false ∧
      s.dispatcher.settings.census = false) ∧
    (let s := after .resume cave
     s.free .turner = true ∧ s.relocationWork? = none ∧ s.clock.isSet = true ∧ s.candidateWork = [] ∧
      s.dispatcher.settings.census = true ∧ s.censusTake.1 = [0, 1, 2, 3, 4, 5, 6, 7]) ∧
    (let s := after .resume bareCave
     s.free .turner = true ∧ s.relocationWork? = none ∧ s.candidateWork = [] ∧
      s.dispatcher.settings.census = true ∧ s.censusTake.1 = []) := by decide +kernel

theorem test_hyp_TheSourcesYieldTheirVisits :
    (let s := queuedCave .queued
     s.relocations.find? s.relocationReady = some ⟨0, 5, .queued⟩ ∧ s.named? 0 = some 0 ∧
      s.record? 0 = some { wheel with relocationPending := true } ∧ wheel.location = some 0) ∧
    cave.relocations.find? cave.relocationReady = none ∧
    (let s := after .sweepStep cave
     s.candidates = [⟨0, ⟨true, false, false, false⟩, 2560, 0⟩] ∧
      s.record? (handleIndex 0) = some { wheel with overdue := true } ∧
      (s.interval 0 { wheel with overdue := true }).isSome = true ∧ s.withinCapacity = true ∧
      (s.candidates.map fun c => handleIndex c.handle).Nodup ∧
      s.candidates.Pairwise (fun a b => a.ranksAhead b = true) ∧ s.survivors.length = 1) ∧
    cave.survivors = [] ∧
    ((cave.slot 0).occupant = some 0 ∧ cave.record? 0 = some wheel ∧ (cave.slot 1).occupant = none) := by decide +kernel

theorem test_hyp_IssuingAnOrderClaimsAndEngages :
    ((moveVisit .waiting).wheel = some 0 ∧ (moveVisit .waiting).dest = some 5 ∧
      (queuedCave .queued).record? (handleIndex 0) ≠ none) ∧
    (fullWindow.dispatcher.window.length ≤ 4 ∧ fullWindow.nextNumber = 5 ∧
      ({ fullWindow with dispatcher := { fullWindow.dispatcher with lastNumber := 255 } }).nextNumber = 5) := by
  decide +kernel

/-- Order 7 in each state, with its one visit waiting. -/
def ordered (st : OrderState) : State := busyCave (orderOf st (turnVisit .waiting)) .claimed

theorem test_hyp_OrdersAreAcceptedAndRead :
    (ordered .issued).free .turner = true ∧ (ordered .issued).free .registry = true ∧
    (ordered .issued).order? 7 = some (orderOf .issued (turnVisit .waiting)) ∧ (ordered .issued).order? 8 = none ∧
    (ordered .accepted).order? 7 = some (orderOf .accepted (turnVisit .waiting)) ∧
    OrderState.accepted ≠ .issued := by decide +kernel

theorem test_hyp_AClosedOrderEndsItsVisits :
    ((ordered .issued).order? 7 = some (orderOf .issued (turnVisit .waiting)) ∧
      (ordered .issued).free .turner = true ∧ (ordered .issued).operating = true ∧
      (orderOf .issued (turnVisit .waiting)).timer ≠ 0) ∧
    (let o := { orderOf .issued (turnVisit .waiting) with timer := 0 }
     (busyCave o .claimed).order? 7 = some o ∧ (busyCave o .claimed).operating = true ∧ o.timer = 0) ∧
    ((turnVisit .waiting).state = .waiting ∧ (turnVisit .started).state = .started ∧
      (turnVisit .started).wheel = some 0 ∧ (ordered .issued).record? (handleIndex 0) ≠ none ∧
      (turnVisit .done).state.ended = true ∧ (moveVisit .started).dest = some 5 ∧
      ({ scanVisit with state := .started }).state = .started ∧ scanVisit.wheel = none) ∧
    (ordered .issued).order? 8 = none := by decide +kernel

theorem test_hyp_CancelOrdersCoversAnAisle :
    cave.free .registry = true ∧ ((8 : Nat) ≤ 8 ∧ (8 : Nat) ≠ 255) ∧ (7 : Nat) < 8 := by decide +kernel

/-- A BRUSH visit of the wheel in a zone that is brush-suspended. -/
def suspendedCave : State :=
  { busyCave (orderOf .accepted { turnVisit .waiting with actions := ⟨false, true, false, false⟩ }) .claimed with
    shelf := ⟨[], [(0, { seat with engaged := true })], [(0, ⟨some 1, 0, 7, 0, 7⟩)]⟩
    zones := [(1, { Zone.cold with alarm := .raised .high })] }

theorem test_hyp_VisitStartIsRefusedCancelledOrChecked :
    ((ordered .accepted).free .turner = true ∧ (ordered .accepted).order? 8 = none ∧
      (orderOf .accepted (turnVisit .waiting)).visit? 2 = none ∧
      (orderOf .accepted (turnVisit .waiting)).visit? 1 = some (turnVisit .waiting) ∧
      (ordered .issued).order? 7 = some (orderOf .issued (turnVisit .waiting)) ∧
      (turnVisit .done).state ≠ .waiting ∧ (orderOf .accepted (turnVisit .started)).visits = [turnVisit .started] ∧
      scanVisit.actions.scan = true ∧ (orderOf .accepted scanVisit).visit? 1 = some scanVisit) ∧
    ((ordered .cancelling).free .turner = true ∧
      (ordered .cancelling).order? 7 = some (orderOf .cancelling (turnVisit .waiting)) ∧
      startRefusal (orderOf .cancelling (turnVisit .waiting)) (some (turnVisit .waiting)) 0x11 = none) ∧
    (let s := ordered .accepted
     let o := orderOf .accepted (turnVisit .waiting)
     s.free .turner = true ∧ s.order? 7 = some o ∧ o.visit? 1 = some (turnVisit .waiting) ∧
      startRefusal o (some (turnVisit .waiting)) 0x12 = none ∧ (s.compare 0 (.tag 0x12)).2 = .mismatch ∧
      startRefusal o (some (turnVisit .waiting)) 0x11 = none ∧ (s.compare 0 (.tag 0x11)).2 ≠ .mismatch ∧
      (s.compare 0 (.tag 0x11)).1.wheelHeld (turnVisit .waiting) = false ∧
      ((s.compare 0 (.tag 0x11)).1.strikeBrush (turnVisit .waiting)).isEmpty = false) ∧
    ((((after (.hold 0) (ordered .accepted)).compare 0 (.tag 0x11)).1).wheelHeld (turnVisit .waiting) = true) ∧
    (suspendedCave.free .turner = true ∧
      (((suspendedCave.compare 0 (.tag 0x11)).1).strikeBrush
        { turnVisit .waiting with actions := ⟨false, true, false, false⟩ }).isEmpty = true) := by decide +kernel

theorem test_hyp_EveryAcceptedVisitEndReleases :
    ((ordered .accepted).free .turner = true ∧ (ordered .accepted).order? 8 = none ∧
      (orderOf .accepted (turnVisit .waiting)).visit? 2 = none ∧ scanVisit.actions.scan = true ∧
      (orderOf .accepted scanVisit).visit? 1 = some scanVisit ∧ (15 : Nat) < 16 ∧
      (turnVisit .skipped).state.ended = true ∧ (turnVisit .waiting).actions.scan = false ∧
      (turnVisit .started).state ≠ .waiting) ∧
    (endRefusal (orderOf .accepted (turnVisit .started)) (some (turnVisit .started)) .done 1 0 = none ∧
      endRefusal (orderOf .accepted (turnVisit .started)) (some (turnVisit .started)) .aborted 0 0 = none ∧
      endRefusal (orderOf .accepted (moveVisit .started)) (some (moveVisit .started)) .destUnreachable 0 0 = none ∧
      endRefusal (orderOf .accepted (turnVisit .waiting)) (some (turnVisit .waiting)) .unreachable 15 0 = none ∧
      endRefusal (orderOf .accepted scanVisit) (some scanVisit) .absent 0 (2 ^ 48 - 1) = none ∧
      endRefusal (orderOf .accepted scanVisit) (some scanVisit) .done 0 0x11 = none) ∧
    ((turnVisit .started).state = .started ∧ actionSet? 0 = some ActionSet.empty ∧ ActionSet.empty.isEmpty = true ∧
      actionSet? 3 = some ⟨true, true, false, false⟩ ∧
      (⟨true, true, false, false⟩ : ActionSet).within ((turnVisit .started).proceeded.getD ActionSet.empty) = false ∧
      actionSet? 15 ≠ none) := by decide +kernel

/-- Order 7 with its visit started and the wheel in hand. -/
def startedCave : State := busyCave (orderOf .accepted (turnVisit .started)) .inHand

theorem test_hyp_WorkAndMovesAreRecorded :
    (startedCave.free .turner = true ∧ startedCave.order? 7 = some (orderOf .accepted (turnVisit .started)) ∧
    (orderOf .accepted (turnVisit .started)).visit? 1 = some (turnVisit .started) ∧
    endRefusal (orderOf .accepted (turnVisit .started)) (some (turnVisit .started)) .done 1 0 = none ∧
    actionSet? 1 = some ⟨true, false, false, false⟩ ∧ (turnVisit .started).wheel = some 0 ∧
    (turnVisit .started).dest = none ∧ startedCave.record? (handleIndex 0) = some { wheel with claim := .inHand }) ∧
    (let s := movingCave .started .inHand
     let o := orderOf .accepted (moveVisit .started)
     s.free .turner = true ∧ s.order? 7 = some o ∧ o.visit? 1 = some (moveVisit .started) ∧
      endRefusal o (some (moveVisit .started)) .done 8 0 = none ∧ (moveVisit .started).wheel = some 0 ∧
      (moveVisit .started).dest = some 5 ∧ (s.record? 0).map (fun r => r.location) = some (some 0) ∧
      s.relocationOf? 0 = some ⟨0, 5, .issued⟩) ∧
    (startedCave.free .turner = true ∧
      endRefusal (orderOf .accepted (turnVisit .started)) (some (turnVisit .started)) .aborted 0 0 = none ∧
      startedCave.record? (handleIndex 0) = some { wheel with claim := .inHand }) := by decide +kernel

theorem test_hyp_OutcomesReachTheirSlot :
    (cave.slot 0).count < 2 ∧ ((caveOf wheel [(0, { seat with count := 1 })]).slot 0).count < 2 ∧
    (let s := caveOf wheel [(0, { seat with count := 2 })]
     2 ≤ (s.slot 0).count ∧ (s.slot 0).occupant = some 0 ∧ s.record? 0 = some wheel ∧
      wheel.holds.blockedSlot = false) ∧
    (moveVisit .started).dest = some 5 ∧ scanVisit.wheel = none := by decide +kernel

/-- The cave with a full Relocation Queue, none of it the wheel's. -/
def fullQueue : State :=
  { cave with relocations := [1, 2, 3, 4, 5, 6, 7, 8].map fun n => ⟨n, 100 + n, .queued⟩ }

theorem test_hyp_RelocationsJoinAndLeaveTheQueue :
    (cave.free .registry = true ∧ cave.named? 0 = some 0 ∧ cave.record? 0 = some wheel ∧
      cave.held 0 wheel = false ∧ wheel.relocationPending = false ∧
      (after (.hold 0) cave).held 0 { wheel with holds := ⟨true, false, false, false⟩ } = true ∧
      (queuedCave .queued).named? 0 = some 0 ∧ fullQueue.free .registry = true ∧ fullQueue.held 0 wheel = false ∧
      fullQueue.relocations.length = 8) ∧
    (cave.relocateRefusal 0 wheel ⟨1, 0, 5⟩ = none ∧ cave.physical? ⟨1, 0, 5⟩ = some 5) ∧
    (cave.relocationOf? 0 = none ∧ (queuedCave .issued).relocationOf? 0 = some ⟨0, 5, .issued⟩ ∧
      (queuedCave .queued).relocationOf? 0 = some ⟨0, 5, .queued⟩ ∧ (queuedCave .queued).free .registry = true) ∧
    (let s := caveOf wheel [(0, seat), (1, { SlotRecord.cold with condition := .blocked }),
        (2, { SlotRecord.cold with reserved := true }), (3, { SlotRecord.cold with engaged := true })]
     s.free .registry = true ∧ s.held 0 wheel = false ∧ s.relocations.length < 8 ∧ s.physical? ⟨17, 0, 0⟩ = none ∧
      s.physical? ⟨1, 0, 1⟩ = some 1 ∧ (s.slot 1).condition = .blocked ∧ (s.slot 2).condition = .opened ∧
      (s.slot 2).reserved = true ∧ (s.slot 0).occupant ≠ none ∧ (s.slot 3).condition = .opened ∧
      (s.slot 3).occupant = none ∧ (s.slot 3).reserved = false ∧ (s.slot 3).engaged = true) ∧
    (queuedCave .queued).relocations[0]? = some ⟨0, 5, .queued⟩ := by decide +kernel

theorem test_hyp_TheCensusYieldsOneRackAtATime :
    (let s := caveOf wheel [(0, { seat with review := true }), (9, { SlotRecord.cold with review := true }),
        (300, { SlotRecord.cold with review := true })]
     s.tablesCanonical = true ∧ s.flaggedSlots.filter s.scanEligible = [0, 9, 300] ∧ s.censusTake.1 = [0, 9]) ∧
    (cave.free .registry = true ∧ cave.rackNumbered? 1 = some 0 ∧ cave.rackNumbered? 16 = some 15 ∧
      (after (.mapRack 15 255 32 8) cave).rackNumbered? 16 = none) ∧
    (let s := { cave with census := ⟨0, [⟨0, 0⟩, ⟨1, 0⟩, ⟨2, 0⟩, ⟨3, 0⟩]⟩ }
     s.free .registry = true ∧ (∃ d ∈ s.census.directed, d.rack = 0) ∧ (∀ d ∈ s.census.directed, d.rack ≠ 15) ∧
      s.census.directed.length = 4) ∧
    (∀ d ∈ cave.census.directed, d.rack ≠ 0) ∧ cave.census.directed.length < 4 := by
  decide +kernel

/-- The cave with rack 1 disabled, and the census at the cursor and with the directed list given. -/
def scanCave (cursor : Nat) (directed : List DirectedRack) : State :=
  { cave with shelf := { cave.shelf with racks := [(1, ⟨none, 32, 8⟩)] }, census := ⟨cursor, directed⟩ }

/-- The walks of O49: an entry that is dropped, one that reaches the end of its rack, and the last walk position a full
batch can leave an entry at and the first it cannot; a cursor before and on an eligible slot, and at the end of the
cave. -/
theorem test_hyp_TheCensusWalks :
    (let s := scanCave 0 [⟨1, 0⟩, ⟨9, 253⟩, ⟨2, 0⟩]
     s.flaggedSlots.filter s.scanEligible = [] ∧ s.directedBatch ⟨1, 0⟩ = [] ∧
      s.directedBatch ⟨9, 253⟩ = [2557, 2558, 2559] ∧ s.censusTake = ([2557, 2558, 2559], ⟨0, [⟨2, 0⟩]⟩)) ∧
    (scanCave 0 [⟨2, 247⟩]).censusTake.2 = ⟨0, [⟨2, 255⟩]⟩ ∧ (scanCave 0 [⟨2, 248⟩]).censusTake.2 = ⟨0, []⟩ ∧
    (scanCave 0 [⟨1, 0⟩]).censusTake = ([0, 1, 2, 3, 4, 5, 6, 7], ⟨8, []⟩) ∧
    ((scanCave 511 []).scanEligible 511 = false ∧ (scanCave 511 []).scanEligible 512 = true ∧
      (scanCave 511 []).censusTake = ([512, 513, 514, 515, 516, 517, 518, 519], ⟨520, []⟩)) ∧
    (scanCave 4095 []).censusTake = ([4095], ⟨0, []⟩) := by decide +kernel

/-- A cave whose racks are all disabled. -/
def barredCave : State :=
  { cave with shelf := { cave.shelf with racks := (List.range 16).map fun p => (p, ⟨none, 32, 8⟩) } }

/-- No slot of it is eligible. -/
theorem test_hyp_TheCensusFindsNothing :
    barredCave.census.cursor < 4096 ∧ barredCave.flaggedSlots.filter barredCave.scanEligible = [] ∧
    barredCave.census.directed = [] ∧ ∀ p, p < 4096 → barredCave.scanEligible p = false := by
  refine ⟨by decide +kernel, by decide +kernel, rfl, fun p hp => ?_⟩
  have h : ∀ q, q < 16 → (barredCave.rackRecord q).logical = none := by decide +kernel
  have := h (slotRack p) (by simp only [slotRack]; omega)
  simp [State.scanEligible, State.usable, State.onMap, RackRecord.maps, this]

theorem test_hyp_ReportsAreJudgedByTheMap :
    let s := { cave with registry := ⟨[(0, wheel), (1, { wheel with tag := 0x12, location := none })], [],
      [(0x11, 0), (0x12, 1)], 0⟩ }
    (s.slot 0).occupant = some 0 ∧ s.record? 0 = some wheel ∧ wheel.tag ≠ 0 ∧
    s.registry.tagIndex.read? 0x12 = some 1 ∧ 0x12 ≠ wheel.tag ∧ s.registry.tagIndex.read? 0x13 = none ∧
    (s.slot 1).occupant = none := by decide +kernel

/-- The cave with every position of the discrepancy table taken, none of them by slot 0. -/
def fullTable : State :=
  { cave with discrepancies := (List.range 16).map fun k => (k, { missingEntry with slot := k + 9 }) }

/-- A MISPLACED entry at slot 1, whose seen record is the wheel of slot 0. -/
def misplacedEntry : Discrepancy := ⟨1, .misplaced, none, some 0x11, some 0, 4000, [(0, .misplaced)]⟩

theorem test_hyp_ComparisonsConfirmOrEnterAFinding :
    (cave.findingAt 0 (.tag 0x11) = none ∧ cave.entryAt? 0 = none ∧
      (foundCave missingEntry).findingAt 0 (.tag 0x11) = none ∧
      (foundCave missingEntry).entryAt? 0 = some (3, missingEntry)) ∧
    (cave.findingAt 0 .noWheel = some ⟨.missing, some 0, none, none⟩ ∧ cave.freePosition? = some 0 ∧
      (foundCave missingEntry).findingAt 0 .noWheel ≠ none ∧ fullTable.findingAt 0 .noWheel ≠ none ∧
      fullTable.entryAt? 0 = none ∧ fullTable.freePosition? = none) ∧
    (let f : Finding := ⟨.missing, some 0, none, none⟩
     (f.entry 0 5000 none).holds = [(0, .missing)] ∧ (0, HoldReason.missing) ∈ f.missingPairs none) ∧
    (let f : Finding := ⟨.misplaced, none, some 0x11, some 0⟩
     (f.entry 1 5000 none).holds = [(0, .misplaced)]) ∧
    (let s := foundCave { missingEntry with expected := some 1, holds := [(1, .missing)] }
     let e := (Finding.entry ⟨.missing, some 0, none, none⟩ 0 5000 none)
     s.entryAt? 0 ≠ none ∧ s.findingAt 0 .noWheel = some ⟨.missing, some 0, none, none⟩ ∧
      (∀ x ∈ (s.compare 0 .noWheel).1.discrepancies, x.2.listsMissing 1 = false) ∧
      ∀ g ∈ e.holds, handleIndex g.1 ≠ handleIndex 1) := by decide +kernel

theorem test_hyp_DiscrepanciesAreReadAndResolved :
    (let s := foundCave missingEntry
     s.free .registry = true ∧ s.discrepancies.ordered = true ∧ s.discrepancies.read? 3 = some missingEntry ∧
      s.discrepancies.read? 15 = none ∧ (3 ≤ 3 ∧ ∀ m, m < 3 → s.discrepancies.read? m = none) ∧
      s.physical? ⟨1, 0, 0⟩ = some 0 ∧ s.entryAt? 0 = some (3, missingEntry) ∧ s.physical? ⟨1, 0, 1⟩ = some 1 ∧
      s.entryAt? 1 = none ∧ s.physical? ⟨17, 0, 0⟩ = none ∧ (0, HoldReason.missing) ∈ missingEntry.holds ∧
      ∀ x ∈ s.discrepancies.clear 3, x.2.listsMissing 0 = false) ∧
    (∀ m, 0 ≤ m → cave.discrepancies.read? m = none) ∧ cave.discrepancies.ordered = true ∧
    (let s := { foundCave missingEntry with discrepancies := [(3, missingEntry), (4, { missingEntry with slot := 9 })] }
     s.entryAt? 0 = some (3, missingEntry) ∧ (∃ x ∈ s.discrepancies.clear 3, x.2.listsMissing 0 = true) ∧
      (∀ g ∈ missingEntry.holds, handleIndex g.1 = handleIndex 0 → g.1 = 0) ∧
      s.record? (handleIndex 0) = some wheel) :=
  ⟨by decide +kernel, fun _ _ => rfl, rfl, by decide +kernel⟩

/-- A wheel that is expected at slot 1. -/
def expectedWheel : WheelRecord := { wheel with tag := 0x12, location := some 1 }

/-- The wheel of slot 0 seen in slot 1, where another is expected. -/
def overCave : State :=
  { cave with
    registry := ⟨[(0, wheel), (1, expectedWheel)], [], [(0x11, 0), (0x12, 1)], 0⟩
    shelf := ⟨[], [(0, seat), (1, { SlotRecord.cold with occupant := some 1 })], []⟩
    discrepancies := [(3, { misplacedEntry with expected := some 1 })] }

theorem test_hyp_AdoptTakesTheReportAsTrue :
    ((let e := { missingEntry with kind := .unreadable }
     (foundCave e).free .registry = true ∧ (foundCave e).physical? ⟨1, 0, 0⟩ = some 0 ∧
      (foundCave e).entryAt? 0 = some (3, e) ∧ e.kind = .unreadable) ∧
    (let e := { missingEntry with expected := some 1 }
     (foundCave e).entryAt? 0 = some (3, e) ∧ e.kind ≠ .unreadable ∧ ((foundCave e).slot 0).occupant = some 0 ∧
      e.expected ≠ some ((foundCave e).handleOf 0)) ∧
    (let s := { claimedCave with discrepancies := [(3, misplacedEntry)] }
     s.free .registry = true ∧ s.physical? ⟨1, 0, 1⟩ = some 1 ∧ s.entryAt? 1 = some (3, misplacedEntry) ∧
      s.unseats 1 misplacedEntry = false ∧ (s.record? 0).map (fun r => r.claim) = some .claimed) ∧
    (let s := foundCave missingEntry
     s.entryAt? 0 = some (3, missingEntry) ∧ s.adoptRefusal 0 missingEntry = none ∧ (s.slot 0).occupant = some 0 ∧
      s.record? 0 = some wheel ∧ wheel.location = some 0) ∧
    (let e := { missingEntry with kind := .foreign, seenTag := some 0x99 }
     (foundCave e).entryAt? 0 = some (3, e) ∧ (foundCave e).adoptRefusal 0 e = none) ∧
    (let s := foundCave misplacedEntry
     s.entryAt? 1 = some (3, misplacedEntry) ∧ s.adoptRefusal 1 misplacedEntry = none ∧ (s.slot 1).occupant = none ∧
      s.record? (handleIndex 0) = some wheel ∧ wheel.location = some 0)) ∧
    (let s := { foundCave misplacedEntry with
        shelf := ⟨[], [(0, seat), (1, { SlotRecord.cold with engaged := true })], []⟩ }
     s.entryAt? 1 = some (3, misplacedEntry) ∧ s.unseats 1 misplacedEntry = false ∧
      s.record? 0 = some wheel ∧ wheel.claim = .none ∧ (s.slot 1).engaged = true) ∧
    (let s := { foundCave missingEntry with shelf := ⟨[], [(0, { seat with engaged := true })], []⟩ }
     s.entryAt? 0 = some (3, missingEntry) ∧ s.unseats 0 missingEntry = false ∧ (s.slot 0).engaged = true ∧
      ¬(missingEntry.kind = .misplaced ∧ missingEntry.seenRecord ≠ none)) ∧
    (let s := { foundCave misplacedEntry with
        shelf := ⟨[], [(0, seat), (1, { SlotRecord.cold with reserved := true })], []⟩
        relocations := [⟨9, 1, .queued⟩] }
     s.entryAt? 1 = some (3, misplacedEntry) ∧ s.unseats 1 misplacedEntry = false ∧ (s.slot 1).engaged = false ∧
      (s.slot 0).engaged = false ∧ (s.slot 1).reserved = true ∧ (∃ q ∈ s.relocations, q.dest = 1 ∧ q.wheel ≠ 0)) ∧
    (let s := { foundCave misplacedEntry with
        shelf := ⟨[], [(0, seat), (1, { SlotRecord.cold with reserved := true })], []⟩
        relocations := [⟨0, 1, .queued⟩] }
     s.adoptRefusal 1 misplacedEntry = none ∧ s.relocationOf? 0 = some ⟨0, 1, .queued⟩) ∧
    (let e := { misplacedEntry with expected := some 1 }
     overCave.free .registry = true ∧ overCave.entryAt? 1 = some (3, e) ∧ overCave.adoptRefusal 1 e = none ∧
      (overCave.slot 1).occupant = some 1 ∧ overCave.record? 1 = some expectedWheel ∧
      expectedWheel.location = some 1 ∧ overCave.relocationOf? 0 = none) := by
  refine ⟨?_, ?_⟩ <;> decide +kernel

theorem test_hyp_RoundsBeginAndLeadToReading :
    ((polled .stopped 0).operating = true ∧ (polled .stopped 0).tablesCanonical = true ∧
      (polled .stopped 0).poller.roundTimer = none ∧ (polled .waiting 0).poller.roundTimer ≠ none ∧
      (polled .waiting 0).tablesCanonical = true ∧ (polled .reading 2).poller.state ≠ .waiting ∧
      (polled .reading 2).poller.roundTimer ≠ none ∧ (polled .reading 2).tablesCanonical = true) ∧
    ((polled .broadcasting 0).operating = true ∧ (polled .broadcasting 0).canTransact = true ∧
      (polled .converting 0).configured 2 = true ∧ ∀ j, j < 2 → (polled .converting 0).configured j = false) ∧
    (let s := after (.setSensor 2 0 0) (after (.setSensor 5 0 0) (polled .converting 0))
     s.operating = true ∧ s.poller.state = .converting ∧ ∀ j, j < 16 → s.configured j = false) ∧
    (let s := after (readAt 3) (after (.writeTransaction 0x2A [0x14#8, 0x00#8, 0xEC#8]) (polled .broadcasting 0))
     s.operating = true ∧ s.poller.state = .broadcasting ∧ s.canTransact = false) := by decide +kernel

theorem test_hyp_ASensorReadWritesItsEntry :
    let s := polled .reading 2
    let d := { s with poller := { s.poller with discard := true } }
    s.operating = true ∧ s.canTransact = true ∧ s.poller.turn < 5 ∧ s.configured 5 = true ∧
    (∀ j, j < 5 → s.poller.turn < j → s.configured j = false) ∧ s.poller.discard = false ∧
    s.ownAddress (s.sensor 2).address = false ∧ d.poller.discard = true ∧ d.canTransact = true ∧
    byteSum [0#8, 0#8, 0#8, 0#8, 0#8, 1#8] ≠ 0#8 ∧ byteSum [0#8, 0#8, 0#8, 0#8, 1#8, 0xFF#8] = 0#8 ∧
    byteSum [0x03#8, 0x84#8, 0#8, 0x78#8, 0#8, 0x01#8] = 0#8 ∧
    (after (.busStartCondition true) s).poller.begun = true ∧ s.poller.begun = false ∧
    (after (.busStartCondition false) s).canTransact = false ∧
    (let f := { s with poller := { s.poller with sensors :=
        [(2, { SensorEntry.unpolled 0x10 1 with state := .failed }), (5, SensorEntry.unpolled 0x30 2)] } }
     (f.sensor 2).state = .failed ∧ f.ownAddress (f.sensor 2).address = false ∧ f.configured 5 = true) ∧
    (let o := { s with poller := { s.poller with sensors :=
        [(2, SensorEntry.unpolled 0x2B 1), (5, SensorEntry.unpolled 0x30 2)] } }
     o.ownAddress (o.sensor 2).address = true ∧ o.canTransact = true ∧ o.poller.discard = false ∧
      o.configured 5 = true) := by
  decide +kernel

theorem test_hyp_TheLastReadJudgesEveryZone :
    (let s := polled .reading 5
     s.operating = true ∧ s.tablesCanonical = true ∧ s.canTransact = true ∧ s.poller.settings.run = .run ∧
      s.poller.turn < 16 ∧ s.configured s.poller.turn = true ∧
      (∀ j, j < 16 → s.poller.turn < j → s.configured j = false) ∧
      s.takeRead s.poller.turn none ≠ s) ∧
    (let l : List ZoneInput := [⟨false, some (900, 120)⟩, ⟨true, none⟩]
     (l.filterMap fun e => e.fresh) ≠ [] ∧ (l.filter fun e : ZoneInput => e.failed).length = 1) ∧
    (let l : List ZoneInput := [⟨false, none⟩]
     (l.filterMap fun e => e.fresh) = [] ∧ (l.filter fun e : ZoneInput => e.failed).length < l.length) ∧
    (([] : List ZoneInput).filter fun e : ZoneInput => e.failed).length = ([] : List ZoneInput).length ∧
    (0 < 1 ∧ roundedMean 5 2 = 3 ∧ roundedMean (-5) 2 = -2) ∧
    (let s := after (.setPoll 1 60 250) (polled .reading 5)
     s.runCondition = false ∧ s.tablesCanonical = true ∧ (polled .reading 5).runCondition = true) ∧
    ((polled .reading 5).configured 2 = true ∧ (polled .reading 5).configured 3 = false) := by decide +kernel

theorem test_hyp_LossesAreRetriedAndTheBusFollowed :
    (let s := polled .reading 5
     let r (n : Nat) := { s with poller := { s.poller with retries := n } }
     s.operating = true ∧ s.transacting = true ∧ s.canTransact = true ∧
      s.portAt? ((0x54#8 : Byte).toNat / 2) = some .registry ∧ s.portAt? ((0x00#8 : Byte).toNat / 2) = none ∧
      s.ownAddress s.readAddress = false ∧ s.canLose true 0x60#8 = true ∧ s.canLose true 0x61#8 = false ∧
      s.canLose false 0xFF#8 = true ∧ (r 7).configured (r 7).poller.turn = true ∧ (r 7).poller.retries < 8 ∧
      8 ≤ (r 8).poller.retries ∧ (r 8).transacting = true ∧ (r 8).canTransact = true ∧
      (r 8).canLose false 0x00#8 = true ∧ ∀ j, j < 16 → (r 8).poller.turn < j → (r 8).configured j = false) ∧
    (let s := { polled .reading 2 with poller := { (polled .reading 2).poller with retries := 8 } }
     s.canTransact = true ∧ s.canLose false 0x00#8 = true ∧ 8 ≤ s.poller.retries ∧ s.configured 5 = true ∧
      ∀ j, j < 5 → s.poller.turn < j → s.configured j = false) ∧
    (let s := polled .broadcasting 0
     let t := { s with poller := { s.poller with retries := 8 } }
     t.operating = true ∧ t.transacting = true ∧ t.canTransact = true ∧ t.canLose false 0x00#8 = true ∧
      t.runCondition = true ∧ (after (.setPoll 1 60 250) t).runCondition = false ∧
      (after (.setPoll 1 60 250) t).poller.retries = 8 ∧ (after (.setPoll 1 60 250) t).canTransact = true ∧
      (after (.setPoll 1 60 250) t).tablesCanonical = true) ∧
    (let s := { polled .reading 2 with poller := { (polled .reading 2).poller with
        sensors := [(2, SensorEntry.unpolled 0x2A 1)] } }
     s.ownAddress s.readAddress = true ∧ s.firstByte? = none) ∧
    (let s := polled .reading 2
     s.operating = true ∧ s.transacting = true ∧ s.poller.begun = false ∧ s.canTransact = true ∧
      s.firstByte? ≠ none ∧ (polled .waiting 0).transacting = false ∧
      (after (.busStartCondition false) s).canTransact = false ∧
      (after (.busStartCondition true) s).poller.begun = true) ∧
    (State.reset.operating = true ∧ State.reset.poller.awaitingIdle = true ∧
      (polled .reading 2).poller.awaitingIdle = false) := by decide +kernel

/-- A read whose entry was made unused in its middle is lost: with another entry left, and with none. -/
theorem test_hyp_LossOfAnUnusedEntry :
    let s := after (.setSensor 2 0 0) (after (.busStartCondition true) (polled .reading 2))
    let u := after (.setSensor 5 0 0) s
    s.operating = true ∧ s.transacting = true ∧ s.canTransact = true ∧ s.canLose false 0x00#8 = true ∧
     s.poller.retries < 8 ∧ s.poller.turn = 2 ∧ s.configured 2 = false ∧ s.configured 5 = true ∧
     (∀ j, j < 5 → 2 < j → s.configured j = false) ∧ u.canTransact = true ∧ u.canLose false 0x00#8 = true ∧
     ∀ j, j < 16 → u.configured j = false := by decide +kernel

theorem test_hyp_SensorsAndPollAreSetAndRead :
    ((polled .stopped 0).free .registry = true ∧ (polled .stopped 0).ownAddress 0x2B = true ∧
      (polled .stopped 0).ownAddress 119 = false ∧
      (∃ e, e < 16 ∧ e ≠ 0 ∧ ((polled .stopped 0).sensor e).address = 0x30) ∧
      (7 < (8 : Nat)) ∧ (119 : Nat) < 120) ∧
    ((polled .stopped 0).sensorRefusal 15 8 1 = none ∧ (polled .stopped 0).sensorRefusal 15 119 8 = none ∧
      (polled .reading 2).sensorRefusal 2 0 0 = none ∧ (polled .reading 2).free .registry = true ∧
      (polled .reading 2).configured (polled .reading 2).poller.turn = true ∧
      (after (.setSensor 15 8 1) (polled .stopped 0)).runCondition = true ∧
      (polled .waiting 0).free .registry = true ∧
      (after (.setSensor 2 0 0) (after (.setSensor 5 0 0) (polled .waiting 0))).runCondition = false ∧
      (after (.setSensor 5 0 0) (polled .waiting 0)).tablesCanonical = true ∧
      (after (.setSensor 5 0 0) (polled .waiting 0)).free .registry = true ∧
      (after (.setSensor 5 0 0) (polled .waiting 0)).sensorRefusal 2 0 0 = none ∧
      (after (.setSensor 2 0 0) (polled .waiting 0)).runCondition = true ∧
      State.reset.free .registry = true ∧ State.reset.sensorRefusal 0 8 1 = none ∧
      (after (.setSensor 0 8 1) State.reset).runCondition = false) ∧
    (let s := polled .reading 2
     s.sensorRefusal 2 0 0 = none ∧ s.poller.begun = false ∧ s.configured 5 = true ∧
      (∀ j, j < 5 → 2 < j → s.configured j = false) ∧ (polled .reading 5).sensorRefusal 5 0 0 = none ∧
      (∀ j, j < 16 → 5 < j → (polled .reading 5).configured j = false) ∧
      (after (.busStartCondition true) s).poller.begun = true) ∧
    ((polled .stopped 0).tablesCanonical = true ∧ (1 : Nat) < 2 ∧ (polled .stopped 0).configuredCount = 2 ∧
      (polled .waiting 0).tablesCanonical = true ∧ State.reset.configuredCount = 0) := by
  refine ⟨⟨by decide +kernel, by decide +kernel, by decide +kernel, ⟨5, by decide +kernel⟩, by decide +kernel,
    by decide +kernel⟩, by decide +kernel, by decide +kernel, by decide +kernel⟩

theorem test_hyp_ZonesAreSetReadAndAcknowledged :
    (cave.free .registry = true ∧ cave.poller.state = .stopped ∧ (polled .waiting 0).poller.state ≠ .stopped ∧
      (polled .waiting 0).free .registry = true) ∧
    (let s (a : Alarm) := { cave with
        zones := [(1, { Zone.cold with alarm := a }), (8, { Zone.cold with alarm := a })] }
     (s (.raised .high)).free .registry = true ∧ ((s (.raised .high)).zone 8).alarm = .raised .high ∧
      ((s (.settling .low 2 false)).zone 1).alarm = .settling .low 2 false ∧ (cave.zone 1).alarm = .clear ∧
      ((s (.settling .low 2 true)).zone 1).alarm = .settling .low 2 true) ∧
    (ZoneSettings.clamped ⟨800, 700, 0, 0, 1000, 1, 1, 0⟩ = ⟨800, 700, 0, 0, 1000, 1, 1, 0⟩ ∧ 700 < 800) := by
  decide +kernel

theorem test_hyp_BandsAndAlarmsFollowTheirTables :
    ZoneSettings.cold.inOrder = true ∧ ZoneSettings.cold.bandHi < 951 ∧ 849 < ZoneSettings.cold.bandLo ∧
    940 + ZoneSettings.cold.hysteresis ≤ ZoneSettings.cold.bandHi ∧
    ZoneSettings.cold.bandHi < 941 + ZoneSettings.cold.hysteresis ∧
    ZoneSettings.cold.bandLo + ZoneSettings.cold.hysteresis ≤ 860 ∧
    859 < ZoneSettings.cold.bandLo + ZoneSettings.cold.hysteresis ∧ ZoneSettings.cold.alarmHi < 981 ∧
    970 + ZoneSettings.cold.hysteresis ≤ ZoneSettings.cold.alarmHi ∧
    ZoneSettings.cold.alarmHi < 971 + ZoneSettings.cold.hysteresis ∧ (981 : Nat) ≤ 1000 := by decide +kernel

end Sys2Proof.Tests
end

/-! SUPPORT. The answers of ADMIT, LOOKUP_TAG, LOOKUP_SLOT, READ_RECORD, NEXT_RECORD, HOLD and RELEASE at a registry
port that can take them, and the obligations they settle. -/

namespace Sys2Proof.Machine

/-! ## A registry request at a free port -/

/-- What the owner of a registry request answers is what the request replies. -/
theorem State.replies_of_owner {s t : State} {c : Instr} {owner : State → State × Reply} {a : Reply}
    (hc : exec c s = s.host c owner) (hf : s.free .registry = true) (ho : owner s = (t, a)) :
    s.Replies c .registry t a :=
  hc.trans (State.host_of_free hf ho)

/-- What the owner answers for the record a handle names is what the request of that handle replies. -/
theorem State.replies_of_named {s t : State} {c : Instr} {h i : Nat} {r : WheelRecord}
    {owner : State → Nat → WheelRecord → State × Reply} {a : Reply}
    (hc : exec c s = s.host c fun s => s.withHandle h (owner s)) (hf : s.free .registry = true)
    (hn : s.named? h = some i) (hr : s.record? i = some r) (ho : owner s i r = (t, a)) :
    s.Replies c .registry t a :=
  State.replies_of_owner hc hf ((State.withHandle_of_named hn hr (owner s)).trans ho)

/-- A tag is valid when it is neither of the two values 00_scope 4.3 excludes. -/
theorem validTag_iff (tag : Nat) : validTag tag = true ↔ tag ≠ 0 ∧ tag ≠ 2 ^ 48 - 1 := by
  simp [validTag]

/-- A slot field is NONE exactly when its rack byte is 0. -/
theorem isNone_iff (l : LSlot) : isNone l = true ↔ l.rack = 0 := by
  simp [isNone]

theorem isNone_of_rack_ne {l : LSlot} (h : l.rack ≠ 0) : isNone l = false := by
  simp [isNone, h]

/-! ## HOLD and RELEASE (R16, R17, R21) -/

/-- A change that is seen in one record alone, and in no other part of the registry. -/
theorem RecordBecomes.of_reads {s t : State} {i : Nat} {r : WheelRecord}
    (hrec : ∀ j, t.record? j = if j = i then some r else s.record? j)
    (hgen : t.registry.generations = s.registry.generations) (htag : t.registry.tagIndex = s.registry.tagIndex)
    (hover : t.registry.overdueCount = s.registry.overdueCount) : RecordBecomes s t i r :=
  ⟨by simp [hrec], fun j hj => by simp [hrec, hj], Registry.eq_of_records hgen htag hover⟩

theorem State.recordBecomes_addHold {s : State} {i : Nat} {r : WheelRecord} (hr : s.record? i = some r)
    (reason : HoldReason) : RecordBecomes s (s.addHold i reason) i { r with holds := r.holds.put reason true } := by
  apply RecordBecomes.of_reads <;> simp [hr]

theorem State.recordBecomes_removeHold {s : State} {i : Nat} {r : WheelRecord} (hr : s.record? i = some r)
    (reason : HoldReason) : RecordBecomes s (s.removeHold i reason) i { r with holds := r.holds.put reason false } := by
  apply RecordBecomes.of_reads <;> simp [hr]

/-- A hold that joins changes the registry and the Candidate List alone. -/
theorem State.addHold_frame (s : State) (i : Nat) (reason : HoldReason) :
    s.addHold i reason =
      { s with registry := (s.addHold i reason).registry, candidates := (s.addHold i reason).candidates } := by
  apply State.ext <;> simp

/-- A hold that leaves changes the registry alone. -/
theorem State.removeHold_frame (s : State) (i : Nat) (reason : HoldReason) :
    s.removeHold i reason = { s with registry := (s.removeHold i reason).registry } := by
  apply State.ext <;> simp

theorem State.hold_replies {s : State} {h i : Nat} {r : WheelRecord} (hf : s.free .registry = true)
    (hn : s.named? h = some i) (hr : s.record? i = some r) :
    s.Replies (.hold h) .registry (s.addHold i .host) ⟨.ok, []⟩ :=
  State.replies_of_named (owner := fun s i _ => (s.addHold i .host).done) rfl hf hn hr rfl

/-- The reason a RELEASE names, and the hold set it leaves, by the number it carries (R17, Table 10-3). -/
theorem storedReason?_of_mem {n : Nat} {v b : Holds}
    (h : (n, v) ∈ [(0, { b with host := false }), (1, { b with missing := false }),
      (3, { b with blockedSlot := false }), (4, { b with unconfirmed := false })]) :
    ∃ reason, storedReason? n = some reason ∧ v = b.put reason false := by
  simp only [List.mem_cons, Prod.mk.injEq, List.not_mem_nil, or_false] at h
  obtain ⟨rfl, rfl⟩ | ⟨rfl, rfl⟩ | ⟨rfl, rfl⟩ | ⟨rfl, rfl⟩ := h
  · exact ⟨.host, rfl, rfl⟩
  · exact ⟨.missing, rfl, rfl⟩
  · exact ⟨.blockedSlot, rfl, rfl⟩
  · exact ⟨.unconfirmed, rfl, rfl⟩

/-- MISPLACED, which is never stored, and a number above the hold reasons name no stored reason (R17). -/
theorem storedReason?_eq_none {n : Nat} (h : n = 2 ∨ 4 < n) : storedReason? n = none := by
  unfold storedReason?
  rw [if_neg (by omega), if_neg (by omega), if_neg (by omega), if_neg (by omega)]

theorem State.release_replies {s : State} {h i n : Nat} {r : WheelRecord} {reason : HoldReason}
    (hf : s.free .registry = true) (hn : s.named? h = some i) (hr : s.record? i = some r)
    (hq : storedReason? n = some reason) :
    s.Replies (.release h n) .registry (s.removeHold i reason) ⟨.ok, []⟩ :=
  State.replies_of_named rfl hf hn hr (by simp [hq, State.done, Reply.ok])

theorem State.release_refused {s : State} {h i n : Nat} {r : WheelRecord} (hf : s.free .registry = true)
    (hn : s.named? h = some i) (hr : s.record? i = some r) (hq : storedReason? n = none) :
    s.Replies (.release h n) .registry s ⟨.badField, []⟩ :=
  State.replies_of_named rfl hf hn hr (by simp [hq, State.refuse, Reply.bare])

/-- Settles O27: HOLD is `addHold` of HOST and RELEASE is `removeHold` of the reason its number names; both change one
record, and HOLD takes the entry of a record that did not hold HOST. -/
theorem holdAndReleaseChangeTheHoldSet : Obligations.HoldAndReleaseChangeTheHoldSet := by
  intro s h i r hf hn hr
  refine ⟨⟨s.addHold i .host, ?_, s.addHold_frame i .host, ?_, ?_⟩, ?_, ?_⟩
  · exact State.hold_replies hf hn hr
  · exact State.recordBecomes_addHold hr .host
  · exact State.candidates_addHold hr .host
  · intro n v hv
    obtain ⟨reason, hq, rfl⟩ := storedReason?_of_mem hv
    exact ⟨s.removeHold i reason, State.release_replies hf hn hr hq, s.removeHold_frame i reason,
      State.recordBecomes_removeHold hr reason⟩
  · intro n hbad
    exact State.release_refused hf hn hr (storedReason?_eq_none hbad)

/-! ## The tables a reader walks (R11) -/

/-- From a bound on, the first pair of an ordered table is that of the lowest number listed there. -/
theorem Table.find?_from_eq_some {α : Type} {t : Table α} {n i : Nat} {v : α} (ho : t.ordered = true) (hni : n ≤ i)
    (hi : t.read? i = some v) (hgap : ∀ j, n ≤ j → j < i → t.read? j = none) :
    t.find? (fun e => decide (n ≤ e.1)) = some (i, v) := by
  induction t with
  | nil => cases hi
  | cons e rest ih =>
    obtain ⟨k, w⟩ := e
    obtain ⟨hk, ho⟩ := (Table.ordered_cons k w rest).1 ho
    by_cases hnk : n ≤ k
    · have hki : k = i := by
        by_contra hne
        rw [Table.read?_cons, if_neg hne] at hi
        have hlt : k < i := by
          by_contra hle
          have := Table.read?_of_lt (t := rest) (k := i) fun e he => by have := hk e he; omega
          simp [this] at hi
        simpa using hgap k hnk hlt
      subst hki
      rw [Table.read?_cons, if_pos rfl] at hi
      cases hi
      simp [hnk]
    · rw [List.find?_cons_of_neg (by simpa using hnk)]
      rw [Table.read?_cons, if_neg (by omega)] at hi
      refine ih ho hi fun j hj hji => ?_
      have := hgap j hj hji
      rwa [Table.read?_cons, if_neg (by omega)] at this

/-- Every pair of a table has its number listed. -/
theorem Table.read?_ne_none_of_mem {α : Type} {t : Table α} {e : Nat × α} (h : e ∈ t) : t.read? e.1 ≠ none := by
  induction t with
  | nil => cases h
  | cons x rest ih =>
    rw [Table.read?_cons]
    split
    · simp
    · rename_i hne
      rcases List.mem_cons.1 h with rfl | h
      · exact absurd rfl hne
      · exact ih h

/-- From a bound on, a table that lists no number there has no pair there. -/
theorem Table.find?_from_eq_none {α : Type} {t : Table α} {n : Nat} (h : ∀ j, n ≤ j → t.read? j = none) :
    t.find? (fun e => decide (n ≤ e.1)) = none := by
  rw [List.find?_eq_none]
  intro e he
  simpa using fun hn => Table.read?_ne_none_of_mem he (h e.1 hn)

/-! ## LOOKUP_TAG, LOOKUP_SLOT, READ_RECORD and NEXT_RECORD (R8 to R11) -/

/-- LOOKUP_TAG of a valid tag answers what the tag index holds for it (R8). -/
theorem State.lookupTag_replies {s : State} {tag : Nat} (hf : s.free .registry = true) (h0 : tag ≠ 0)
    (h1 : tag ≠ 2 ^ 48 - 1) :
    s.Replies (.lookupTag tag) .registry s (match s.registry.tagIndex.read? tag with
      | none => ⟨.notFound, []⟩
      | some i => ⟨.ok, be 2 (s.handleOf i)⟩) := by
  refine State.replies_of_owner rfl hf ?_
  rw [if_pos ((validTag_iff tag).2 ⟨h0, h1⟩)]
  cases s.registry.tagIndex.read? tag <;> rfl

theorem State.lookupTag_refused {s : State} {tag : Nat} (hf : s.free .registry = true)
    (h : tag = 0 ∨ tag = 2 ^ 48 - 1) : s.Replies (.lookupTag tag) .registry s ⟨.badField, []⟩ := by
  refine State.replies_of_owner rfl hf ?_
  rw [if_neg (by rw [validTag_iff]; omega)]
  rfl

/-- LOOKUP_SLOT of a slot that is not NONE answers what the Shelf Map holds there (R9). -/
theorem State.lookupSlot_replies {s : State} {l : LSlot} (hf : s.free .registry = true) (hl : l.rack ≠ 0) :
    s.Replies (.lookupSlot l) .registry s (match s.physical? l with
      | none => ⟨.slotUnusable, []⟩
      | some p => match (s.slot p).occupant with
        | none => ⟨.notFound, []⟩
        | some i => ⟨.ok, be 2 (s.handleOf i)⟩) := by
  refine State.replies_of_owner rfl hf ?_
  rw [if_neg (by rwa [isNone_iff])]
  cases hp : s.physical? l with
  | none => rfl
  | some p => dsimp only; cases (s.slot p).occupant <;> rfl

theorem State.lookupSlot_refused {s : State} {l : LSlot} (hf : s.free .registry = true) (hl : l.rack = 0) :
    s.Replies (.lookupSlot l) .registry s ⟨.badField, []⟩ := by
  refine State.replies_of_owner rfl hf ?_
  rw [if_pos ((isNone_iff l).2 hl)]
  rfl

/-- NEXT_RECORD answers the first live record from its bound on: the index after the one given, or 0 for START (R11). -/
theorem State.nextRecord_replies {s : State} {after bound : Nat} (hf : s.free .registry = true)
    (hb : (after < 4096 ∧ bound = after + 1) ∨ (after = 65535 ∧ bound = 0)) :
    s.Replies (.nextRecord after) .registry s (match s.nextLive? bound with
      | none => ⟨.notFound, []⟩
      | some e => ⟨.ok, s.encodeRecord e.1 e.2⟩) := by
  refine State.replies_of_owner rfl hf ?_
  have hbound : (if after = Config.indexStart then 0 else after + 1) = bound := by
    rcases hb with ⟨h, rfl⟩ | ⟨rfl, rfl⟩
    · exact if_neg (by simp only [Config.indexStart]; omega)
    · rfl
  have hin : after < Config.recordCount ∨ after = Config.indexStart := hb.imp And.left And.left
  rw [if_pos hin, hbound]
  cases s.nextLive? bound <;> rfl

theorem State.nextRecord_refused {s : State} {after : Nat} (hf : s.free .registry = true) (h : 4096 ≤ after)
    (hs : after ≠ 65535) : s.Replies (.nextRecord after) .registry s ⟨.badField, []⟩ := by
  refine State.replies_of_owner rfl hf ?_
  rw [if_neg (by simp only [Config.recordCount, Config.indexStart]; omega)]
  rfl

/-- The record a NEXT_RECORD finds is the live one with the lowest index from its bound on. -/
theorem State.nextLive?_eq_some {s : State} {bound i : Nat} {r : WheelRecord}
    (ho : s.registry.records.ordered = true) (hi : bound ≤ i) (hr : s.record? i = some r)
    (hgap : ∀ j, bound ≤ j → j < i → s.record? j = none) : s.nextLive? bound = some (i, r) :=
  Table.find?_from_eq_some ho hi hr hgap

/-- A NEXT_RECORD finds nothing where no index from its bound on is live. -/
theorem State.nextLive?_eq_none {s : State} {bound : Nat} (h : ∀ j, bound ≤ j → s.record? j = none) :
    s.nextLive? bound = none :=
  Table.find?_from_eq_none h

/-- Settles O24: each reader answers what the tag index, the Shelf Map or the ordered record table holds, and leaves
the state as it was. -/
theorem recordsAreFoundAndRead : Obligations.RecordsAreFoundAndRead := by
  refine ⟨fun s hf => ⟨?tagFound, ?tagUnknown, State.lookupTag_refused hf (.inl rfl),
    State.lookupTag_refused hf (.inr rfl), fun l hl => State.lookupSlot_refused hf hl, ?slotOff, ?slotEmpty,
    ?slotOccupied, ?record⟩, fun s after bound hf ho hb => ⟨?nextFound, ?nextNone⟩,
    fun s after hf h hs => State.nextRecord_refused hf h hs⟩
  case tagFound =>
    intro tag i h0 h1 hi
    simpa only [hi] using State.lookupTag_replies hf h0 h1
  case tagUnknown =>
    intro tag h0 h1 hi
    simpa only [hi] using State.lookupTag_replies hf h0 h1
  case slotOff =>
    intro l hl hp
    simpa only [hp] using State.lookupSlot_replies hf hl
  case slotEmpty =>
    intro l p hl hp hocc
    simpa only [hp, hocc] using State.lookupSlot_replies hf hl
  case slotOccupied =>
    intro l p i hl hp hocc
    simpa only [hp, hocc] using State.lookupSlot_replies hf hl
  case record =>
    intro h i r hn hr
    exact State.replies_of_named rfl hf hn hr rfl
  case nextFound =>
    intro i r hi hr hgap
    simpa only [State.nextLive?_eq_some ho hi hr hgap] using State.nextRecord_replies hf hb
  case nextNone =>
    intro hnone
    simpa only [State.nextLive?_eq_none hnone] using State.nextRecord_replies hf hb

/-! ## The tests of ADMIT (R6) -/

/-- Tests 5 to 7 of R6 on a slot of the map, for a wheel that occupies none. -/
theorem State.placeRefusal_of_physical {s : State} {l : LSlot} {p : Nat} (hl : l.rack ≠ 0)
    (hp : s.physical? l = some p) : s.placeRefusal none l =
      if (s.slot p).condition = .blocked then some .slotUnusable
      else if (s.slot p).occupant ≠ none ∨ (s.slot p).reserved = true then some .slotTaken
      else if (s.slot p).engaged = true then some .busy
      else none := by
  have hself : ((s.slot p).occupant.isSome = true ∧ (s.slot p).occupant ≠ none) ↔ (s.slot p).occupant ≠ none := by
    cases (s.slot p).occupant <;> simp
  simp only [State.placeRefusal, isNone_of_rack_ne hl, Bool.false_eq_true, if_false, hp, hself]

theorem State.placeRefusal_of_off_map {s : State} {l : LSlot} {self : Option Nat} (hl : l.rack ≠ 0)
    (hp : s.physical? l = none) : s.placeRefusal self l = some .slotUnusable := by
  simp [State.placeRefusal, isNone_of_rack_ne hl, hp]

theorem State.admitRefusal_of_clock_unset {s : State} (h : s.clock.isSet = false) (tag cls : Nat) (l : LSlot)
    (lt lb : Option TimeValue) : s.admitRefusal tag cls l lt lb = some .clockUnset := by
  simp [State.admitRefusal, h]

/-- Test 2 of R6. -/
theorem State.admitRefusal_of_bad_field {s : State} {tag cls : Nat} {vt : TimeValue} (hset : s.clock.isSet = true)
    (h : tag = 0 ∨ tag = 2 ^ 48 - 1 ∨ 31 < cls ∨ vt = .never) (l : LSlot) (lb : Option TimeValue) :
    s.admitRefusal tag cls l (some vt) lb = some .badField := by
  have htest : validTag tag = false ∨ Config.classCount ≤ cls ∨ some vt = none ∨ some vt = some .never ∨
      lb = none := by
    rcases h with rfl | rfl | hcls | rfl
    · exact .inl rfl
    · exact .inl rfl
    · exact .inr (.inl hcls)
    · exact .inr (.inr (.inr (.inl rfl)))
  rw [State.admitRefusal, if_neg (by simp [hset]), if_pos htest]

/-- The tests of R6 that are left where the clock is set and every field is legal. -/
theorem State.admitRefusal_of_fields {s : State} {tag cls : Nat} {vt : TimeValue} (hset : s.clock.isSet = true)
    (h0 : tag ≠ 0) (h1 : tag ≠ 2 ^ 48 - 1) (hcls : cls ≤ 31) (hvt : vt ≠ .never) (l : LSlot) (vb : TimeValue) :
    s.admitRefusal tag cls l (some vt) (some vb) =
      if s.registry.tagIndex.read? tag ≠ none then some .duplicate
      else if s.lowestFree? = none then some .full
      else s.placeRefusal none l := by
  have hvalid : validTag tag = true := (validTag_iff tag).2 ⟨h0, h1⟩
  have hclass : ¬ Config.classCount ≤ cls := by simp only [Config.classCount]; omega
  simp only [State.admitRefusal, hset, hvalid, hclass, hvt, Option.isSome_iff_ne_none, Bool.true_eq_false,
    reduceCtorEq, Option.some.injEq, or_self, if_false]

/-- An ADMIT that no test of R6 refuses finds a free index. -/
theorem State.lowestFree?_of_admitRefusal {s : State} {tag cls : Nat} {l : LSlot} {lt lb : Option TimeValue}
    (h : s.admitRefusal tag cls l lt lb = none) : ∃ i, s.lowestFree? = some i := by
  rw [← Option.ne_none_iff_exists']
  intro hfull
  simp only [State.admitRefusal, hfull, if_true] at h
  split at h
  · cases h
  · split at h
    · cases h
    · split at h <;> cases h

theorem State.admitWheel_refused {s : State} {tag cls day w : Nat} {l : LSlot} {lt lb : TimeField} {vt vb : TimeValue}
    {st : Status} (hf : s.free .registry = true) (hlt : timeValue? lt = some vt) (hlb : timeValue? lb = some vb)
    (h : s.admitRefusal tag cls l (some vt) (some vb) = some st) :
    s.Replies (.admitWheel tag cls day l w lt lb) .registry s ⟨st, []⟩ :=
  State.replies_of_owner rfl hf (by simp [State.ownAdmit, hlt, hlb, h, State.refuse, Reply.bare])

/-! ## The record ADMIT creates (R7) -/

@[simp] theorem State.record?_admitAt (s : State) (i j : Nat) (r : WheelRecord) :
    (s.admitAt i r).record? j = if j = i then some r else s.record? j :=
  State.record?_setRecord s i j r

theorem State.slot_admitAt (s : State) (i p : Nat) (r : WheelRecord) : (s.admitAt i r).slot p = s.slot p := rfl

/-- The state an accepted ADMIT leaves: the record at a free index, in the slot its location field names. -/
def State.admitted (s : State) (i : Nat) (r : WheelRecord) (l : LSlot) : State :=
  (s.admitAt i r).locateAt i (s.place? l)

theorem State.place?_eq (s : State) (l : LSlot) : s.place? l = if l.rack = 0 then none else s.physical? l := by
  simp only [State.place?, isNone_iff]

/-- An ADMIT that passes the tests of R6 creates its record at the lowest free index and answers its handle. -/
theorem State.admitWheel_replies {s : State} {tag cls day w i : Nat} {l : LSlot} {lt lb : TimeField} {vt vb : TimeValue}
    (hf : s.free .registry = true) (hlt : timeValue? lt = some vt) (hlb : timeValue? lb = some vb)
    (h : s.admitRefusal tag cls l (some vt) (some vb) = none) (hi : s.lowestFree? = some i) :
    s.Replies (.admitWheel tag cls day l w lt lb) .registry
      (s.admitted i (admittedRecord s.clock.minutes tag cls day (weightValue w) vt vb) l)
      ⟨.ok, be 2 (s.handleOf i)⟩ :=
  State.replies_of_owner rfl hf
    (by simp [State.ownAdmit, hlt, hlb, h, hi, State.admitted, Reply.ok])

theorem State.admitted_frame (s : State) (i : Nat) (r : WheelRecord) (l : LSlot) :
    s.admitted i r l = { s with registry := (s.admitted i r l).registry, shelf := (s.admitted i r l).shelf } := by
  apply State.ext <;> simp [State.admitted, State.admitAt]

/-- The new record stands at its index, at the place its location field names; every other record stands. -/
theorem State.record?_admitted (s : State) (i j : Nat) {r : WheelRecord} (hr : r.location = none) (l : LSlot) :
    (s.admitted i r l).record? j = if j = i then some { r with location := s.place? l } else s.record? j := by
  simp only [State.admitted, State.record?_locateAt, State.record?_admitAt, if_true, Option.map_some, hr]
  split
  · cases s.place? l <;> rfl
  · rfl

theorem State.generations_admitted (s : State) (i : Nat) (r : WheelRecord) (l : LSlot) :
    (s.admitted i r l).registry.generations = s.registry.generations := by
  simp [State.admitted, State.admitAt]

theorem State.overdueCount_admitted (s : State) (i : Nat) (r : WheelRecord) (l : LSlot) :
    (s.admitted i r l).registry.overdueCount = s.registry.overdueCount := by
  simp [State.admitted, State.admitAt]

/-- The tag of the new record joins the tag index (R4). -/
theorem State.tagIndex_admitted (s : State) (i : Nat) (r : WheelRecord) (l : LSlot) (g : Nat) :
    (s.admitted i r l).registry.tagIndex.read? g = if g = r.tag then some i else s.registry.tagIndex.read? g := by
  simp [State.admitted, State.admitAt, Table.read?_write]

theorem State.shelf_admitted_unlocated (s : State) (i : Nat) (r : WheelRecord) {l : LSlot} (hl : l.rack = 0) :
    (s.admitted i r l).shelf = s.shelf := by
  rw [State.admitted, State.place?_eq, if_pos hl]
  rfl

/-- A located record becomes the occupant of its slot (R32). -/
theorem State.slotBecomes_admitted (s : State) (i : Nat) (r : WheelRecord) {l : LSlot} {p : Nat} (hl : l.rack ≠ 0)
    (hp : s.physical? l = some p) :
    SlotBecomes s (s.admitted i r l) p { s.slot p with occupant := some i } := by
  have hplace : s.place? l = some p := by rw [State.place?_eq, if_neg hl, hp]
  refine ⟨?_, fun q hq => ?_, ShelfMap.eq_of_slots ?_ ?_⟩
  · simp [State.admitted, hplace, State.slot_admitAt]
  · simp [State.admitted, hplace, State.slot_admitAt, hq.symm]
  · simp [State.admitted, State.admitAt]
  · simp [State.admitted, State.admitAt]

/-- Settles O23: the tests of R6 are `admitRefusal`, taken apart in its own order; past them, `lowestFree?` gives the
index and `admitted` the record, the tag index and the slot. -/
theorem admitIsRefusedInOrderOrCreates : Obligations.AdmitIsRefusedInOrderOrCreates := by
  constructor
  · intro s tag cls day w p l lt lb vt vb hf hlt hlb
    refine ⟨fun hclock => ?clock, fun hset hbad => ?fields, fun hset h0 h1 hcls hvt => ?later⟩
    case clock => exact State.admitWheel_refused hf hlt hlb (State.admitRefusal_of_clock_unset hclock ..)
    case fields => exact State.admitWheel_refused hf hlt hlb (State.admitRefusal_of_bad_field hset hbad ..)
    have htests := State.admitRefusal_of_fields hset h0 h1 hcls hvt l vb
    refine ⟨fun hdup => ?duplicate, fun hnew hfull => ?full, fun hnew hroom hl => ?place⟩
    case duplicate => exact State.admitWheel_refused hf hlt hlb (by rw [htests, if_pos hdup])
    case full => exact State.admitWheel_refused hf hlt hlb (by rw [htests, if_neg (by simp [hnew]), if_pos hfull])
    have hplace : s.admitRefusal tag cls l (some vt) (some vb) = s.placeRefusal none l := by
      rw [htests, if_neg (by simp [hnew]), if_neg hroom]
    refine ⟨fun hp => ?off, fun hp hc => ?blocked, fun hp hc ht => ?taken, fun hp hc ho hv he => ?engaged⟩
    case off => exact State.admitWheel_refused hf hlt hlb (by rw [hplace, State.placeRefusal_of_off_map hl hp])
    all_goals refine State.admitWheel_refused hf hlt hlb ?_
    all_goals rw [hplace, State.placeRefusal_of_physical hl hp]
    case blocked => rw [if_pos hc]
    case taken => rw [if_neg (by simp [hc]), if_pos ht]
    case engaged => rw [if_neg (by simp [hc]), if_neg (by simp [ho, hv]), if_pos he]
  · intro s tag cls day w l lt lb vt vb hf ho hlt hlb hpass
    obtain ⟨i, hi⟩ := State.lowestFree?_of_admitRefusal hpass
    obtain ⟨hi4096, hfree, hlower⟩ := State.lowestFree?_spec ho hi
    refine ⟨i, s.admitted i (admittedRecord s.clock.minutes tag cls day (weightValue w) vt vb) l, hi4096, hfree, hlower,
      State.admitWheel_replies hf hlt hlb hpass hi, s.admitted_frame .., ?record, fun j hj => ?others,
      s.generations_admitted .., s.overdueCount_admitted .., s.tagIndex_admitted i _ l,
      s.shelf_admitted_unlocated i _, fun p => s.slotBecomes_admitted i _⟩
    case record =>
      rw [s.record?_admitted i i rfl l, if_pos rfl, s.place?_eq l]
      cases vt <;> cases vb <;> rfl
    case others => rw [s.record?_admitted i j rfl l, if_neg hj]

end Sys2Proof.Machine

/-! SUPPORT. The answers of SET_WINDOW at a registry port that can take it, the zone the windows give a slot, and the
obligation they settle (R39, R40). -/

namespace Sys2Proof.Machine

/-! ## SET_WINDOW (R39) -/

/-- OFF and the zones 1 to 8 are the zone fields SET_WINDOW takes. -/
theorem windowZone?_of_valid {z : Nat} (h : (1 ≤ z ∧ z ≤ 8) ∨ z = 255) :
    windowZone? z = some (if z = 255 then none else some z) := by
  unfold windowZone?
  by_cases hoff : z = 255
  · rw [if_pos hoff, if_pos hoff]
  · rw [if_neg hoff, if_neg hoff, if_pos (h.resolve_right hoff)]

theorem windowZone?_eq_none {z : Nat} (h : z = 0 ∨ 8 < z) (hoff : z ≠ 255) : windowZone? z = none := by
  unfold windowZone?
  rw [if_neg hoff, if_neg (by omega)]

/-- The state with one window replaced, as an accepted SET_WINDOW leaves it. -/
def State.putWindow (s : State) (n : Nat) (w : Window) : State :=
  { s with shelf := { s.shelf with windows := s.shelf.windows.writeD Window.cold n w } }

@[simp] theorem State.window_putWindow (s : State) (n m : Nat) (w : Window) :
    (s.putWindow n w).window m = if m = n then w else s.window m :=
  Table.readD_writeD s.shelf.windows Window.cold w n m

theorem State.putWindow_frame (s : State) (n : Nat) (w : Window) :
    s.putWindow n w = { s with shelf := { s.shelf with windows := (s.putWindow n w).shelf.windows } } := rfl

/-- A SET_WINDOW whose fields lie in the ranges of R39 replaces its window. -/
theorem State.setWindow_replies {s : State} {n z fa la lo hi : Nat} (hf : s.free .registry = true) (hn : n ≤ 11)
    (hz : (1 ≤ z ∧ z ≤ 8) ∨ z = 255) (ha : fa ≤ la) (hla : la ≤ 7) (hl : lo ≤ hi) (hhi : hi ≤ 7) :
    s.Replies (.setWindow n z fa la lo hi) .registry
      (s.putWindow n ⟨if z = 255 then none else some z, fa, la, lo, hi⟩) ⟨.ok, []⟩ := by
  refine State.replies_of_owner rfl hf ?_
  rw [windowZone?_of_valid hz]
  exact if_pos ⟨Nat.lt_succ_of_le hn, hla, hhi, ha, hl⟩

/-- A SET_WINDOW of a zone field that names no zone is refused. -/
theorem State.setWindow_refused_of_zone {s : State} {n z fa la lo hi : Nat} (hf : s.free .registry = true)
    (hz : windowZone? z = none) : s.Replies (.setWindow n z fa la lo hi) .registry s ⟨.badField, []⟩ := by
  refine State.replies_of_owner rfl hf ?_
  rw [hz]
  rfl

/-- A SET_WINDOW of a window that does not exist, or of aisles or levels out of range or out of order, is refused. -/
theorem State.setWindow_refused_of_range {s : State} {n z fa la lo hi : Nat} (hf : s.free .registry = true)
    (h : ¬(n < 12 ∧ la ≤ 7 ∧ hi ≤ 7 ∧ fa ≤ la ∧ lo ≤ hi)) :
    s.Replies (.setWindow n z fa la lo hi) .registry s ⟨.badField, []⟩ := by
  cases hz : windowZone? z with
  | none => exact State.setWindow_refused_of_zone hf hz
  | some zone =>
    refine State.replies_of_owner rfl hf ?_
    rw [hz]
    exact if_neg h

/-! ## The zone of a slot (R40) -/

/-- A window covers a slot when it is not OFF and the slot's aisle and level lie in its ranges. -/
theorem Window.covers_iff (w : Window) (p : Nat) : w.covers p = true ↔
    w.zone.isSome = true ∧ (w.firstAisle ≤ slotAisle p ∧ slotAisle p ≤ w.lastAisle) ∧
      w.lowLevel ≤ slotLevel p ∧ slotLevel p ≤ w.highLevel := by
  simp only [Window.covers, Bool.and_eq_true, decide_eq_true_eq, and_assoc]

theorem State.zoneOf_of_uncovered {s : State} {p : Nat} (h : ∀ n, n < 12 → (s.window n).covers p = false) :
    s.zoneOf p = 0 := by
  have hfind : ((List.range 12).find? fun n => (s.window n).covers p) = none :=
    List.find?_range_eq_none.2 fun n hn => by simp [h n hn]
  rw [State.zoneOf, hfind]

/-- The first window that covers a slot gives the slot its zone. -/
theorem State.zoneOf_of_first {s : State} {p n z : Nat} (hn : n < 12) (hz : (s.window n).zone = some z)
    (hcov : (s.window n).covers p = true) (hfirst : ∀ m, m < n → (s.window m).covers p = false) :
    s.zoneOf p = z := by
  have hfind : ((List.range 12).find? fun m => (s.window m).covers p) = some n :=
    List.find?_range_eq_some.2 ⟨hcov, List.mem_range.2 hn, fun m hm => by simp [hfirst m hm]⟩
  rw [State.zoneOf, hfind]
  exact congrArg (Option.getD · 0) hz

/-- Settles O31: in the ranges of R39 SET_WINDOW is `putWindow`, and outside them its zone field or its ranges refuse
it; the zone of a slot is what the search for the first covering window finds. -/
theorem windowsGiveTheZone : Obligations.WindowsGiveTheZone := by
  refine ⟨fun s n z fa la lo hi hf => ⟨fun hbad => ?refused, fun hn hz ha hla hl hhi => ?replaced⟩,
    fun s p => ⟨State.zoneOf_of_uncovered, fun n z hn hz hfa hla hlo hhi hfirst => ?first⟩⟩
  case refused =>
    by_cases hz : (z = 0 ∨ 8 < z) ∧ z ≠ 255
    · obtain ⟨hrange, hoff⟩ := hz
      exact State.setWindow_refused_of_zone hf (windowZone?_eq_none hrange hoff)
    · exact State.setWindow_refused_of_range hf (by omega)
  case replaced =>
    exact ⟨_, State.setWindow_replies hf hn hz ha hla hl hhi, s.putWindow_frame .., by simp, fun m hm => by simp [hm]⟩
  case first =>
    have hcov : (s.window n).covers p = true :=
      (Window.covers_iff _ p).2 ⟨by rw [hz]; rfl, ⟨hfa, hla⟩, hlo, hhi⟩
    exact State.zoneOf_of_first hn hz hcov hfirst

end Sys2Proof.Machine

/-! SUPPORT. The ranges of the class fields, the answers of SET_CLASS and READ_CLASS at a registry port that can take
them, and the obligation they settle (R43 to R45). -/

namespace Sys2Proof.Machine

/-! ## The ranges of Table 3-1 -/

/-- The ranges of Table 3-1, field by field; a range from 0 bounds its field from above alone. -/
theorem ClassRecord.clamped_mk (bt bb st g ca tl th bh w lt lb ol : Nat) :
    ClassRecord.clamped ⟨bt, bb, st, g, ca, tl, th, bh, w, lt, lb, ol⟩ =
      ⟨max 60 (min 43200 bt), if bb = 0 then 0 else max 60 (min 43200 bb), min 255 st, min 100 g,
        max 100 (min 400 ca), max 25 (min 400 tl), max 25 (min 400 th), max 25 (min 400 bh), max 1 (min 8 w),
        min 1440 lt, min 1440 lb, max 60 (min 10080 ol)⟩ := by
  simp only [ClassRecord.clamped, clampBrushBase, clampTo, Nat.zero_max]

/-- The status of a setting stored compares what was stored with what was asked for, in either direction. -/
theorem storedStatus_eq_ite {α : Type} [DecidableEq α] (asked stored : α) :
    storedStatus asked stored = if stored = asked then .ok else .clamped := by
  simp only [storedStatus, eq_comm]

/-! ## SET_CLASS and READ_CLASS (R44, R45) -/

/-- The state with one class record replaced, as an accepted SET_CLASS leaves it. -/
def State.putClass (s : State) (k : Nat) (c : ClassRecord) : State :=
  { s with classes := s.classes.writeD ClassRecord.cold k c }

@[simp] theorem State.classRecord_putClass (s : State) (k j : Nat) (c : ClassRecord) :
    (s.putClass k c).classRecord j = if j = k then c else s.classRecord j :=
  Table.readD_writeD s.classes ClassRecord.cold c k j

theorem State.putClass_frame (s : State) (k : Nat) (c : ClassRecord) :
    s.putClass k c = { s with classes := (s.putClass k c).classes } := rfl

/-- A SET_CLASS of a class of the table stores its fields brought into their ranges, and reports them. -/
theorem State.setClass_replies {s : State} {k bt bb st g ca tl th bh w lt lb ol : Nat} {asked : ClassRecord}
    (hf : s.free .registry = true) (hk : k ≤ 31) (ha : asked = ⟨bt, bb, st, g, ca, tl, th, bh, w, lt, lb, ol⟩) :
    s.Replies (.setClass k bt bb st g ca tl th bh w lt lb ol) .registry (s.putClass k asked.clamped)
      ⟨if asked.clamped = asked then .ok else .clamped, encodeClass asked.clamped⟩ := by
  subst ha
  refine State.replies_of_owner rfl hf ?_
  rw [← storedStatus_eq_ite]
  exact if_pos (Nat.lt_succ_of_le hk)

theorem State.setClass_refused {s : State} {k bt bb st g ca tl th bh w lt lb ol : Nat}
    (hf : s.free .registry = true) (hk : 31 < k) :
    s.Replies (.setClass k bt bb st g ca tl th bh w lt lb ol) .registry s ⟨.badField, []⟩ :=
  State.replies_of_owner rfl hf (if_neg (Nat.not_lt.2 hk))

theorem State.readClass_replies {s : State} {k : Nat} (hf : s.free .registry = true) (hk : k ≤ 31) :
    s.Replies (.readClass k) .registry s ⟨.ok, encodeClass (s.classRecord k)⟩ :=
  State.replies_of_owner rfl hf (if_pos (Nat.lt_succ_of_le hk))

theorem State.readClass_refused {s : State} {k : Nat} (hf : s.free .registry = true) (hk : 31 < k) :
    s.Replies (.readClass k) .registry s ⟨.badField, []⟩ :=
  State.replies_of_owner rfl hf (if_neg (Nat.not_lt.2 hk))

/-- Settles O32: the class number decides between refusal and answer, and an accepted SET_CLASS is `putClass` of the
clamped record, whose fields `ClassRecord.clamped_mk` gives. -/
theorem classesAreStoredInRange : Obligations.ClassesAreStoredInRange := by
  intro s k bt bb st g ca tl th bh w lt lb ol hf
  refine ⟨fun hk => ?refused, fun hk => ⟨State.readClass_replies hf hk, ?stored⟩⟩
  case refused => exact ⟨State.setClass_refused hf hk, State.readClass_refused hf hk⟩
  case stored =>
    exact ⟨_, _, s.putClass_frame k _, by rw [State.classRecord_putClass, if_pos rfl], fun j hj => by simp [hj],
      State.setClass_replies hf hk rfl, ClassRecord.clamped_mk ..⟩

end Sys2Proof.Machine

/-! SUPPORT. What an offer does to the Candidate List, case by case, the answers of READ_CANDIDATES at a registry port
that can take it, and the obligation they settle (R68 to R70, R75). -/

namespace Sys2Proof.Machine

/-! ## The rank (R68) -/

theorem Candidate.ranksAhead_iff (a b : Candidate) : a.ranksAhead b = true ↔
    b.score < a.score ∨ (a.score = b.score ∧ handleIndex a.handle < handleIndex b.handle) := by
  simp only [Candidate.ranksAhead, Bool.or_eq_true, Bool.and_eq_true, decide_eq_true_eq]

/-! ## An offer (R69, R70) -/

section Offer

variable {l : List Candidate} {c : Candidate}

/-- The test by which an offer finds an entry of its record fails where no entry names that record. -/
theorem any_entry_eq_false (hn : ∀ d ∈ l, handleIndex d.handle ≠ handleIndex c.handle) :
    (l.any fun d => decide (handleIndex d.handle = handleIndex c.handle)) = false := by
  simpa using hn

/-- The offer of a record with an entry takes that entry out and puts the new one in its place in rank order. -/
theorem offerTo_of_entry (he : ∃ d ∈ l, handleIndex d.handle = handleIndex c.handle) :
    offerTo l c = rankInsert c (l.filter fun d => decide (handleIndex d.handle ≠ handleIndex c.handle)) :=
  if_pos (by simpa using he)

theorem offerTo_of_room (hn : ∀ d ∈ l, handleIndex d.handle ≠ handleIndex c.handle) (hl : l.length < 32) :
    offerTo l c = rankInsert c l := by
  rw [offerTo, any_entry_eq_false hn, if_neg Bool.false_ne_true, if_pos hl]

/-- A full list compares the offer with its last entry, and drops the one of the two that ranks behind. -/
theorem offerTo_of_full (hn : ∀ d ∈ l, handleIndex d.handle ≠ handleIndex c.handle) (hl : l.length = 32)
    {e : Candidate} (he : l.getLast? = some e) :
    offerTo l c = if c.ranksAhead e then rankInsert c l.dropLast else l := by
  rw [offerTo, any_entry_eq_false hn, if_neg Bool.false_ne_true, if_neg (by simp [Config.candidateMax, hl]), he]

/-- Where each record has at most one entry, taking out the entry of one that has one makes the list one shorter. -/
theorem length_filter_other_records (hnd : (l.map fun d => handleIndex d.handle).Nodup) {i : Nat}
    (he : ∃ d ∈ l, handleIndex d.handle = i) :
    (l.filter fun d => decide (handleIndex d.handle ≠ i)).length + 1 = l.length := by
  have hmem : i ∈ l.map fun d => handleIndex d.handle := List.mem_map.2 he
  have hfilter : (l.filter fun d => decide (handleIndex d.handle ≠ i)).map (fun d => handleIndex d.handle) =
      (l.map fun d => handleIndex d.handle).erase i := by
    rw [hnd.erase_eq_filter, List.filter_map]
    simp [Function.comp_def, bne, Bool.beq_eq_decide_eq]
  have hlen := congrArg List.length hfilter
  rw [List.length_map] at hlen
  rw [hlen, List.length_erase_add_one hmem, List.length_map]

/-- The offer of a record with an entry replaces that entry: the list keeps its length, the new entry is in it, and
the entries of the other records are those it had. -/
theorem offerTo_replaces_entry (hnd : (l.map fun d => handleIndex d.handle).Nodup)
    (he : ∃ d ∈ l, handleIndex d.handle = handleIndex c.handle) :
    (offerTo l c).length = l.length ∧ c ∈ offerTo l c ∧
      ∀ d, handleIndex d.handle ≠ handleIndex c.handle → (d ∈ offerTo l c ↔ d ∈ l) := by
  rw [offerTo_of_entry he]
  refine ⟨?length, mem_rankInsert.2 (.inl rfl), fun d hd => ?others⟩
  case length => rw [length_rankInsert, length_filter_other_records hnd he]
  case others =>
    have hne : d ≠ c := fun e => hd (e ▸ rfl)
    simp [mem_rankInsert, hne, hd]

/-- An offer leaves the list as it is or inserts its entry by rank into some of the list's own entries, fewer than 32
and none of its record. -/
theorem offerTo_cases (hl : l.length ≤ 32) : offerTo l c = l ∨
    ∃ k, k.Sublist l ∧ k.length < 32 ∧ (∀ d ∈ k, handleIndex d.handle ≠ handleIndex c.handle) ∧
      offerTo l c = rankInsert c k := by
  by_cases he : ∃ d ∈ l, handleIndex d.handle = handleIndex c.handle
  · have hshort : (l.filter fun d => decide (handleIndex d.handle ≠ handleIndex c.handle)).length < l.length :=
      List.length_filter_lt_length_iff_exists.2 (by simpa using he)
    exact .inr ⟨_, List.filter_sublist, hshort.trans_le hl, fun d hd => by simpa using List.of_mem_filter hd,
      offerTo_of_entry he⟩
  have hn : ∀ d ∈ l, handleIndex d.handle ≠ handleIndex c.handle := fun d hd e => he ⟨d, hd, e⟩
  rcases hl.lt_or_eq with hroom | hfull
  · exact .inr ⟨l, .refl l, hroom, hn, offerTo_of_room hn hroom⟩
  have hlast := List.getLast?_eq_some_getLast (l := l) fun e => by simp [e] at hfull
  rw [offerTo_of_full hn hfull hlast]
  split
  · exact .inr ⟨l.dropLast, l.dropLast_sublist, by simp [hfull], fun d hd => hn d (List.mem_of_mem_dropLast hd), rfl⟩
  · exact .inl rfl

theorem length_offerTo_le (hl : l.length ≤ 32) : (offerTo l c).length ≤ 32 := by
  obtain hsame | ⟨k, -, hk, -, hins⟩ := offerTo_cases (c := c) hl
  · rwa [hsame]
  · rwa [hins, length_rankInsert]

theorem offerTo_ranked (hr : l.Pairwise fun a b => a.ranksAhead b = true) (hl : l.length ≤ 32) :
    (offerTo l c).Pairwise fun a b => a.ranksAhead b = true := by
  obtain hsame | ⟨k, hsub, -, hn, hins⟩ := offerTo_cases (c := c) hl
  · rwa [hsame]
  · rw [hins]
    exact rankInsert_ranked (hr.sublist hsub) hn

end Offer

/-! ## READ_CANDIDATES (R75) -/

theorem State.readCandidates_refused {s : State} {n : Nat} (hf : s.free .registry = true) (hn : n = 0 ∨ 32 < n) :
    s.Replies (.readCandidates n) .registry s ⟨.badField, []⟩ :=
  State.replies_of_owner rfl hf (if_neg (by simp only [Config.candidateMax]; omega))

theorem State.readCandidates_replies {s : State} {n : Nat} (hf : s.free .registry = true) (h1 : 1 ≤ n) (h32 : n ≤ 32) :
    s.Replies (.readCandidates n) .registry s ⟨.ok,
      be 1 s.candidates.length ++ be 1 n ++ ((s.candidates.drop (n - 1)).take 15).flatMap encodeCandidate⟩ :=
  State.replies_of_owner rfl hf (if_pos ⟨h1, h32⟩)

/-- Settles O36: each case of R70 is a branch of `offerTo`, the bound and the rank order come from `offerTo_cases`, and
the first rank of a READ_CANDIDATES decides between refusal and report. -/
theorem theCandidateListKeepsTheBest : Obligations.TheCandidateListKeepsTheBest := by
  refine ⟨Candidate.ranksAhead_iff, fun l c hr hnd hl => ⟨offerTo_of_room, fun hn hfull => ⟨?ahead, ?behind⟩,
    offerTo_replaces_entry hnd, length_offerTo_le hl, offerTo_ranked hr hl⟩,
    fun s n hf => ⟨State.readCandidates_refused hf, State.readCandidates_replies hf⟩⟩
  case ahead => exact fun e he ha => by rw [offerTo_of_full hn hfull he, if_pos ha]
  case behind => exact fun e he hb => by rw [offerTo_of_full hn hfull he, if_neg (by simp [hb])]

end Sys2Proof.Machine

/-! SUPPORT. A latch of a kind already pending, the answers of TAKE_ATTENTION and SET_MASK at a registry port that can
take them, when ATTN is driven, and the obligation they settle (R192, R193). -/

namespace Sys2Proof.Machine

/-! ## The pending set (R192) -/

/-- A union with a set that is contained already adds nothing. -/
theorem bits_or_of_contained {w : Nat} {p b : BitVec w} (h : p &&& b = b) : p ||| b = p := by
  have absorb : p ||| (p &&& b) = p := by ext i hi; simp +contextual
  rwa [h] at absorb

theorem State.latch_eq (s : State) (k : AttentionKind) :
    s.latch k = { s with attention := ⟨s.attention.pending ||| k.bit, s.attention.mask⟩ } := rfl

/-- A second cause of a kind adds nothing: the set records that a kind has occurred, not how often. -/
theorem State.latch_of_pending {s : State} {k : AttentionKind} (h : s.attention.pending &&& k.bit = k.bit) :
    s.latch k = s := by
  rw [State.latch_eq, bits_or_of_contained h]

/-- While the part works, ATTN is driven exactly while an enabled kind is pending. -/
theorem State.attnAsserted_iff {s : State} (ho : s.operating = true) :
    s.attnAsserted = true ↔ s.attention.pending &&& s.attention.mask ≠ 0x00#8 := by
  rw [State.attnAsserted, ho, Bool.true_and, decide_eq_true_iff]

/-! ## TAKE_ATTENTION and SET_MASK (R193) -/

theorem State.takeAttention_replies {s : State} (hf : s.free .registry = true) :
    s.Replies .takeAttention .registry { s with attention := ⟨0x00#8, s.attention.mask⟩ }
      ⟨.ok, [s.attention.pending, s.attention.mask]⟩ :=
  State.replies_of_owner rfl hf rfl

theorem State.setMask_replies {s : State} (m : Byte) (hf : s.free .registry = true) :
    s.Replies (.setMask m) .registry { s with attention := ⟨s.attention.pending, m⟩ } ⟨.ok, [m]⟩ :=
  State.replies_of_owner rfl hf rfl

/-- Settles O21: a latch is a union with the pending set, each of the two requests replies what its owner answers, and
a part whose port is free works, so ATTN follows the two sets alone. -/
theorem attentionIsLatchedTakenAndMasked : Obligations.AttentionIsLatchedTakenAndMasked := by
  refine ⟨fun s k => ⟨s.latch_eq k, State.latch_of_pending⟩, fun s m hf => ?requests⟩
  case requests =>
    obtain ⟨hworks, -⟩ := (s.free_iff .registry).1 hf
    exact ⟨State.takeAttention_replies hf, State.setMask_replies m hf, State.attnAsserted_iff hworks⟩

end Sys2Proof.Machine

/-! SUPPORT. What a step can do, said once for all commands: every command answers, a request is served at the port of
its kind, and serving writes the port, runs the owner, and may begin a warm start; and the obligations on the machine,
the supply, the status and the dispatch settings. -/

namespace Sys2Proof.Machine

/-! ## Every command answers -/

/-- No command faults and none is refused. -/
theorem exec_answers (c : Instr) (s : State) : ∃ t, exec c s = .next t := by
  cases c <;> exact ⟨_, rfl⟩

/-- A request command is served at the port its kind belongs to, by an owner that the command alone decides. -/
theorem exec_of_request {c : Instr} {p : PortId} (h : requestPort c = some p) :
    ∃ owner : State → State × Reply, ∀ s, exec c s = .next (s.serve p c owner) := by
  cases c <;> simp [requestPort, requestOf, kindForm] at h <;> subst h <;> exact ⟨_, fun _ => rfl⟩

/-- What the owner of a turner request answers is what the request replies. -/
theorem State.replies_of_robot {s t : State} {c : Instr} {owner : State → State × Reply} {a : Reply}
    (hc : exec c s = s.robot c owner) (hf : s.free .turner = true) (ho : owner s = (t, a)) :
    s.Replies c .turner t a :=
  hc.trans (State.robot_of_free hf ho)

/-! ## The port around an owner (R181, R183) -/

/-- The state with the Bus Port replaced. -/
def State.withPort (s : State) (x : BusPort) : State := { s with port := x }

@[simp] theorem State.withPort_fields (s : State) (x : BusPort) :
    (s.withPort x).registry = s.registry ∧ (s.withPort x).shelf = s.shelf ∧ (s.withPort x).classes = s.classes ∧
    (s.withPort x).sweep = s.sweep ∧ (s.withPort x).candidates = s.candidates ∧
    (s.withPort x).dispatcher = s.dispatcher ∧ (s.withPort x).relocations = s.relocations ∧
    (s.withPort x).census = s.census ∧ (s.withPort x).discrepancies = s.discrepancies ∧
    (s.withPort x).poller = s.poller ∧ (s.withPort x).zones = s.zones ∧ (s.withPort x).port = x ∧
    (s.withPort x).attention = s.attention ∧ (s.withPort x).clock = s.clock ∧ (s.withPort x).supply = s.supply ∧
    (s.withPort x).pending = s.pending := by
  refine ⟨?_, ?_, ?_, ?_, ?_, ?_, ?_, ?_, ?_, ?_, ?_, ?_, ?_, ?_, ?_, ?_⟩ <;> rfl

theorem State.setPort_port (s : State) (p : PortId) (x : PortState) :
    ∃ y : BusPort, s.setPort p x = s.withPort y := by
  cases p <;> exact ⟨_, rfl⟩

/-- A reply that is collected writes the port alone, or begins the start that a RESTART asked for. -/
theorem State.collected_cases (s : State) (r : ReplyReader) :
    s.collected r = s.warmStart ∨ ∃ y : BusPort, s.collected r = s.withPort y := by
  unfold State.collected
  split
  · exact .inl rfl
  · exact .inr (s.setPort_port _ _)

theorem State.sendReply_cases (s : State) (reply : Reply) (r : ReplyReader) :
    ∃ y : BusPort, s.sendReply reply r = s.withPort y ∨
      s.sendReply reply r = (s.withPort y).warmStart := by
  unfold State.sendReply
  dsimp only
  split
  · rcases State.collected_cases { s with port := { s.port with sent := clockedBytes reply.frame r.clocked } } r with
      hstart | ⟨y, hy⟩
    · exact ⟨_, .inr hstart⟩
    · exact ⟨y, .inl hy⟩
  · obtain ⟨y, hy⟩ := State.setPort_port { s with port := { s.port with sent := clockedBytes reply.frame r.clocked } }
      r.port (.ready reply)
    exact ⟨y, .inl hy⟩

/-- A reply that is placed writes the port, and where a held read collects it may begin a warm start. -/
theorem State.placeReply_cases (s : State) (p : PortId) (reply : Reply) (held : Option ReplyReader) :
    ∃ y : BusPort, s.placeReply p reply held = s.withPort y ∨
      s.placeReply p reply held = (s.withPort y).warmStart := by
  cases held with
  | none =>
    obtain ⟨y, hy⟩ := s.setPort_port p (.ready reply)
    exact ⟨y, .inl hy⟩
  | some r => exact s.sendReply_cases reply r

theorem State.takeSlot_port (s : State) (p : PortId) : ∃ x : BusPort, s.takeSlot p = s.withPort x :=
  State.setPort_port { s with port := { s.port with held := s.port.held.filter fun r => decide (r.port ≠ p) } } p .idle

theorem State.discardKept_port (s : State) (p : PortId) : ∃ x : BusPort, s.discardKept p = s.withPort x := by
  unfold State.discardKept
  split
  · exact ⟨_, rfl⟩
  · exact ⟨s.port, rfl⟩

/-- An owner that takes the request of its slot runs on a state whose port was written, and its answer's port is written
after it; a held read that collects a RESTART's reply starts the part. -/
theorem State.ownerTakes_cases (s : State) (p : PortId) (owner : State → State × Reply) :
    ∃ x y : BusPort, s.ownerTakes p owner = (owner (s.withPort x)).1.withPort y ∨
      s.ownerTakes p owner = ((owner (s.withPort x)).1.withPort y).warmStart := by
  obtain ⟨x, hx⟩ := s.takeSlot_port p
  unfold State.ownerTakes
  rw [hx]
  exact ⟨x, State.placeReply_cases ..⟩

/-- What serving a request can do: nothing, or the owner's work between two writes of the port, with a warm start after
it where a RESTART's reply is collected at once. -/
theorem State.serve_cases (s : State) (p : PortId) (i : Instr) (owner : State → State × Reply) :
    s.serve p i owner = s ∨
    ∃ x y : BusPort, s.serve p i owner = (owner (s.withPort x)).1.withPort y ∨
      s.serve p i owner = ((owner (s.withPort x)).1.withPort y).warmStart := by
  unfold State.serve
  split
  · split
    · split
      · exact .inr (s.ownerTakes_cases p owner)
      · exact .inl rfl
    · split
      · exact .inl rfl
      · obtain ⟨x, hx⟩ := s.discardKept_port p
        rw [hx]
        exact .inr ⟨x, State.placeReply_cases ..⟩
  · exact .inl rfl

/-- An owner takes a request that no row spells by refusing it; any other request is left where it is. -/
theorem State.takeMalformed_cases (s : State) (p : PortId) :
    s.takeMalformed p = s ∨ ∃ st, s.takeMalformed p = s.ownerTakes p fun u => u.refuse st := by
  unfold State.takeMalformed
  split
  · split
    · exact .inl rfl
    · exact .inr ⟨_, rfl⟩
  · exact .inl rfl

/-! ## What a warm start leaves alone (R198) -/

@[simp] theorem State.warmStart_fields (s : State) :
    s.warmStart.supply = s.supply ∧ s.warmStart.pending = s.pending ∧ s.warmStart.classes = s.classes ∧
    s.warmStart.census = s.census ∧ s.warmStart.discrepancies = s.discrepancies ∧
    s.warmStart.port = s.portAfterStart ∧ s.warmStart.attention = Attention.afterStart := by
  unfold State.warmStart
  refine ⟨?_, ?_, ?_, ?_, ?_, ?_, ?_⟩ <;> dsimp only <;> split <;> simp [State.warmConverted]

/-- Taking what no row spells leaves the supply and the queue alone. -/
theorem State.takeMalformed_supply (s : State) (p : PortId) :
    (s.takeMalformed p).supply = s.supply ∧ (s.takeMalformed p).pending = s.pending := by
  rcases s.takeMalformed_cases p with h | ⟨st, h⟩
  · simp [h]
  · obtain ⟨x, y, hs | hs⟩ := s.ownerTakes_cases p fun u => u.refuse st
    · rw [h, hs]
      simp [State.refuse]
    · rw [h, hs]
      simp [State.refuse]

theorem State.ownersTake_supply (s : State) :
    s.ownersTake.supply = s.supply ∧ s.ownersTake.pending = s.pending := by
  unfold State.ownersTake
  split
  · simp [State.takeMalformed_supply]
  · simp

theorem State.operating_congr {s t : State} (h : t.supply = s.supply) : t.operating = s.operating := by
  simp [State.operating, h]

/-! ## A second passes (R83, R103) -/

/-- A second passes for the timers, the poller's counts, the second of the minute and the queue alone. -/
theorem State.secondPassed_frame (s : State) :
    s.secondPassed = { s with
      dispatcher := s.secondPassed.dispatcher, poller := s.secondPassed.poller, clock := s.secondPassed.clock
      pending := s.secondPassed.pending } := by
  unfold State.secondPassed State.countersPassed
  dsimp only
  split <;> rfl

theorem State.secondPassed_clock (s : State) :
    s.secondPassed.clock = { s.clock with second := min 60 (s.clock.second + 1) } := by
  unfold State.secondPassed State.countersPassed
  dsimp only
  split <;> rfl

/-- The counts of a part that works move by one second, and what falls due is queued. -/
theorem State.secondPassed_of_operating {s : State} (h : s.operating = true) :
    s.secondPassed.dispatcher = { s.dispatcher with window := s.dispatcher.window.map Order.secondPassed } ∧
    s.secondPassed.poller = s.poller.secondPassed ∧
    s.secondPassed.pending = s.pending ++ s.secondPassed.dueExpiries := by
  have hc : s.countersPassed.operating = true := by
    rw [← h]
    exact State.operating_congr (by unfold State.countersPassed; split <;> rfl)
  have hcounters : s.countersPassed = { s with
      dispatcher := { s.dispatcher with window := s.dispatcher.window.map Order.secondPassed }
      poller := s.poller.secondPassed } := if_pos h
  unfold State.secondPassed
  dsimp only
  rw [if_pos hc, hcounters]
  exact ⟨rfl, rfl, rfl⟩

/-- The counts of a part that does not work stand still. -/
theorem State.secondPassed_of_not_operating {s : State} (h : s.operating = false) :
    s.secondPassed.dispatcher = s.dispatcher ∧ s.secondPassed.poller = s.poller ∧
    s.secondPassed.pending = s.pending := by
  unfold State.secondPassed State.countersPassed
  simp [h]

/-- Settles O1: on a queue with a front command, `step` is `exec` of it. -/
theorem stepRunsTheFrontCommand : Obligations.StepRunsTheFrontCommand := by
  intro s c rest h
  rw [step, h]

/-- Settles O2: every arm of `exec` answers, and on an empty queue the step is `ownersTake` and then `secondPassed`,
whose effect turns on whether the part works. -/
theorem stepsAlwaysAnswerAndTimePasses : Obligations.StepsAlwaysAnswerAndTimePasses := by
  refine ⟨fun s => ?answers, fun s u hq hu => ⟨u.secondPassed, ?empty, u.secondPassed_frame, u.secondPassed_clock,
    fun ho => ?works, fun ho => ?idle, fun hr ht => ?free⟩⟩
  case answers =>
    cases hp : s.pending with
    | nil => exact ⟨s.ownersTake.secondPassed, by rw [step, hp]⟩
    | cons c rest =>
      obtain ⟨t, ht⟩ := exec_answers c { s with pending := rest }
      exact ⟨t, by rw [step, hp]; exact ht⟩
  case empty => rw [step, hq, hu]
  case works =>
    obtain ⟨hsupply, hpending⟩ := s.ownersTake_supply
    have hou : u.operating = true := by rw [hu, State.operating_congr hsupply, ho]
    obtain ⟨hd, hp, hexpiries⟩ := State.secondPassed_of_operating hou
    refine ⟨hd, hp, ?_⟩
    rw [hexpiries, hu, hpending, hq]
    rfl
  case idle =>
    have hus : u = s := by rw [hu, State.ownersTake, if_neg (by simp [ho])]
    subst hus
    obtain ⟨hd, hp, hpending⟩ := State.secondPassed_of_not_operating ho
    exact ⟨rfl, hd, hp, hpending.trans hq⟩
  case free => rw [hu, State.ownersTake_of_not_processing hr ht]

end Sys2Proof.Machine

/-! SUPPORT. What the starts make of the state, read at every number, and the obligations on the starts and on RESTART
(R178, R196 to R199). -/

namespace Sys2Proof.Machine

/-! ## The canonical tables, one by one -/

theorem State.tablesCanonical_iff (s : State) : s.tablesCanonical = true ↔
    s.registry.records.ordered = true ∧ s.registry.generations.canonical (fun _ => 0) = true ∧
    s.registry.tagIndex.ordered = true ∧ s.shelf.racks.canonical RackRecord.cold = true ∧
    s.shelf.slots.canonical (fun _ => SlotRecord.cold) = true ∧
    s.shelf.windows.canonical (fun _ => Window.cold) = true ∧
    s.classes.canonical (fun _ => ClassRecord.cold) = true ∧ s.discrepancies.ordered = true ∧
    s.poller.sensors.canonical (fun _ => SensorEntry.cold) = true ∧
    s.zones.canonical (fun _ => Zone.cold) = true := by
  simp only [State.tablesCanonical, Bool.and_eq_true, and_assoc]

theorem State.slots_ordered {s : State} (h : s.tablesCanonical = true) : s.shelf.slots.ordered = true := by
  obtain ⟨-, -, -, -, hslots, -⟩ := s.tablesCanonical_iff.1 h
  exact Table.ordered_of_canonical hslots

theorem State.records_ordered {s : State} (h : s.tablesCanonical = true) : s.registry.records.ordered = true :=
  (s.tablesCanonical_iff.1 h).1

theorem State.sensors_ordered {s : State} (h : s.tablesCanonical = true) : s.poller.sensors.ordered = true := by
  obtain ⟨-, -, -, -, -, -, -, -, hsensors, -⟩ := s.tablesCanonical_iff.1 h
  exact Table.ordered_of_canonical hsensors

theorem State.zones_canonical {s : State} (h : s.tablesCanonical = true) :
    s.zones.canonical (fun _ => Zone.cold) = true := by
  obtain ⟨-, -, -, -, -, -, -, -, -, hzones⟩ := s.tablesCanonical_iff.1 h
  exact hzones

/-! ## The conversion a warm start makes, read at every number (R198) -/

theorem State.record?_warmConverted (s : State) (i : Nat) :
    s.warmConverted.record? i = (s.record? i).map WheelRecord.afterWarm :=
  Table.read?_mapValues s.registry.records (fun _ r => r.afterWarm) i

theorem State.slot_warmConverted {s : State} (h : s.tablesCanonical = true) (p : Nat) :
    s.warmConverted.slot p = { s.slot p with engaged := false } :=
  Table.readD_mapD s.shelf.slots (fun _ => SlotRecord.cold) (fun _ v => { v with engaged := false }) p
    (State.slots_ordered h) rfl

theorem State.sensor_warmConverted {s : State} (h : s.tablesCanonical = true) (e : Nat) :
    s.warmConverted.sensor e = (s.sensor e).afterWarm :=
  Table.readD_mapD s.poller.sensors (fun _ => SensorEntry.cold) (fun _ v => v.afterWarm) e
    (State.sensors_ordered h) rfl

theorem State.zone_warmConverted {s : State} (h : s.tablesCanonical = true) (z : Nat) :
    s.warmConverted.zone z = (s.zone z).afterWarm :=
  Table.readD_mapD s.zones (fun _ => Zone.cold) (fun _ v => v.afterWarm) z
    (Table.ordered_of_canonical (State.zones_canonical h)) rfl

theorem State.zones_canonical_warmConverted {s : State} (h : s.tablesCanonical = true) :
    s.warmConverted.zones.canonical (fun _ => Zone.cold) = true :=
  Table.canonical_mapD s.zones (fun _ => Zone.cold) (fun _ z => z.afterWarm) (Table.ordered_of_canonical (State.zones_canonical h))

theorem State.runCondition_warmConverted {s : State} (h : s.tablesCanonical = true) :
    s.warmConverted.runCondition = s.runCondition := by
  have haddress : ∀ e, s.warmConverted.configured e = s.configured e := fun e => by
    rw [State.configured, State.sensor_warmConverted h]
    rfl
  simp only [State.runCondition, haddress]
  rfl

/-- A record after a warm start is the one R198 describes. -/
theorem WheelRecord.converted_afterWarm (r : WheelRecord) : RecordConverted r r.afterWarm := by
  unfold RecordConverted WheelRecord.afterWarm
  cases hc : r.claim <;> cases r <;> simp_all [Holds.put]

/-! ## The state after a warm start -/

/-- The poller comes up by the run condition; everything else is the conversion's. -/
theorem State.warmStart_of_run {s : State} (h : s.tablesCanonical = true) (hr : s.runCondition = true) :
    s.warmStart = s.warmConverted.startPoller :=
  if_pos ((State.runCondition_warmConverted h).trans hr)

theorem State.warmStart_of_no_run {s : State} (h : s.tablesCanonical = true) (hr : s.runCondition = false) :
    s.warmStart = s.warmConverted.stopPoller :=
  if_neg (by simp [State.runCondition_warmConverted h, hr])

/-- What a warm start writes beside the poller's state and the zones is what the conversion wrote. -/
theorem State.warmStart_kept (s : State) :
    s.warmStart.registry = s.warmConverted.registry ∧ s.warmStart.shelf = s.warmConverted.shelf ∧
    s.warmStart.sweep = s.warmConverted.sweep ∧ s.warmStart.candidates = s.warmConverted.candidates ∧
    s.warmStart.dispatcher = s.warmConverted.dispatcher ∧ s.warmStart.relocations = s.warmConverted.relocations ∧
    s.warmStart.clock = s.warmConverted.clock ∧
    s.warmStart.poller = { s.warmConverted.poller with
      state := s.warmStart.poller.state, roundTimer := s.warmStart.poller.roundTimer } := by
  unfold State.warmStart
  dsimp only
  split <;> exact ⟨rfl, rfl, rfl, rfl, rfl, rfl, rfl, rfl⟩

theorem State.record?_warmStart (s : State) (i : Nat) :
    s.warmStart.record? i = (s.record? i).map WheelRecord.afterWarm := by
  rw [← State.record?_warmConverted, State.record?, State.record?, s.warmStart_kept.1]

theorem State.slot_warmStart {s : State} (h : s.tablesCanonical = true) (p : Nat) :
    s.warmStart.slot p = { s.slot p with engaged := false } := by
  rw [← State.slot_warmConverted h, State.slot, State.slot, s.warmStart_kept.2.1]

theorem State.sensor_warmStart {s : State} (h : s.tablesCanonical = true) (e : Nat) :
    s.warmStart.sensor e = (s.sensor e).afterWarm := by
  obtain ⟨-, -, -, -, -, -, -, hp⟩ := s.warmStart_kept
  rw [← State.sensor_warmConverted h, State.sensor, State.sensor, hp]

/-- A zone after a warm start: its settings, the staged ones active where the poller stays stopped. -/
theorem State.zone_warmStart {s : State} (h : s.tablesCanonical = true) (z : Nat) :
    s.warmStart.zone z =
      if s.runCondition = true then (s.zone z).afterWarm else (s.zone z).afterWarm.activate := by
  split
  · rename_i hr
    rw [State.warmStart_of_run h hr, State.startPoller_views s.warmConverted z |>.2.2.2.2.2.2.1]
    exact State.zone_warmConverted h z
  · rename_i hr
    rw [State.warmStart_of_no_run h (by simpa using hr), ← State.zone_warmConverted h]
    exact State.zone_activateStaged _ z (State.zones_canonical_warmConverted h)

/-- The poller and the zones come up by the run condition (R198). -/
theorem State.warmStart_poller_zones {s : State} (h : s.tablesCanonical = true) :
    if s.runCondition then
      s.warmStart.poller.state = .waiting ∧ s.warmStart.poller.roundTimer = some 0 ∧
      ∀ z, (s.warmStart.zone z).active = (s.zone z).active ∧ (s.warmStart.zone z).staged = (s.zone z).staged
    else
      s.warmStart.poller.state = .stopped ∧ s.warmStart.poller.roundTimer = none ∧
      ∀ z, (s.warmStart.zone z).active = (s.zone z).staged.getD (s.zone z).active ∧
        (s.warmStart.zone z).staged = none := by
  split
  · rename_i hr
    refine ⟨by rw [State.warmStart_of_run h hr]; rfl, by rw [State.warmStart_of_run h hr]; rfl, fun z => ?_⟩
    rw [State.zone_warmStart h, if_pos hr]
    exact ⟨rfl, rfl⟩
  · rename_i hr
    have hstop := State.warmStart_of_no_run h (by simpa using hr)
    refine ⟨by rw [hstop]; rfl, by rw [hstop]; rfl, fun z => ?_⟩
    rw [State.zone_warmStart h, if_neg hr, Zone.activate_eq]
    exact ⟨rfl, rfl⟩

/-- Everything retained is kept or converted (R198). -/
theorem State.retainedConverted_warmStart {s : State} (h : s.tablesCanonical = true) :
    RetainedConverted s s.warmStart := by
  obtain ⟨hregistry, hshelf, -, -, hdispatcher, hrelocations, hclock, hpoller⟩ := s.warmStart_kept
  obtain ⟨-, -, hclasses, hcensus, hdiscrepancies, -, -⟩ := s.warmStart_fields
  refine ⟨fun i hi => by rw [State.record?_warmStart, hi]; rfl,
    fun i r hr => ⟨r.afterWarm, by rw [State.record?_warmStart, hr]; rfl, r.converted_afterWarm⟩,
    by rw [hregistry]; rfl, by rw [hregistry]; rfl, by rw [hregistry]; rfl, State.slot_warmStart h,
    by rw [hshelf]; rfl, by rw [hshelf]; rfl, hclasses, by rw [hdispatcher]; rfl, by rw [hrelocations]; rfl, hcensus,
    hdiscrepancies, by rw [hpoller]; rfl, fun e => ?_, by rw [hclock]; rfl, by rw [hclock]; rfl,
    State.warmStart_poller_zones h⟩
  rw [State.sensor_warmStart h]
  exact ⟨rfl, rfl⟩

/-- Every volatile item has its start value (R198). -/
theorem State.volatileAtStart_warmStart {s : State} (h : s.tablesCanonical = true) : VolatileAtStart s.warmStart := by
  obtain ⟨-, -, hsweep, hcandidates, hdispatcher, -, hclock, hpoller⟩ := s.warmStart_kept
  obtain ⟨-, -, -, -, -, hport, hattention⟩ := s.warmStart_fields
  refine ⟨by rw [hdispatcher]; rfl, by rw [hdispatcher]; rfl, by rw [hdispatcher]; rfl, by rw [hcandidates]; rfl,
    by rw [hsweep]; rfl, fun p => by rw [State.slot_warmStart h], fun z => ?zone, fun e => ?sensor,
    by rw [hpoller]; rfl, by rw [hpoller]; rfl, by rw [hpoller]; rfl, by rw [hpoller]; rfl,
    by rw [hport]; rfl, by rw [hport]; rfl, by rw [hport]; rfl, by rw [hport]; rfl, hattention, by rw [hclock]; rfl⟩
  case zone =>
    rw [State.zone_warmStart h, Zone.activate_eq, Zone.afterWarm]
    split <;> exact ⟨rfl, rfl, rfl, rfl, rfl, rfl, rfl, rfl⟩
  case sensor =>
    rw [State.sensor_warmStart h]
    exact ⟨rfl, rfl, rfl, rfl, rfl⟩

/-- A warm start is the one R198 describes. -/
theorem State.warmStarted {s : State} (h : s.tablesCanonical = true) : WarmStarted s s.warmStart := by
  obtain ⟨-, -, -, -, -, -, hclock, -⟩ := s.warmStart_kept
  exact ⟨State.retainedConverted_warmStart h, State.volatileAtStart_warmStart h, by rw [hclock]; rfl⟩

/-! ## Cold starts (R197) -/

/-- A cold start is the one R197 describes. -/
theorem State.coldStarted (s : State) : ColdStarted s.coldStart := by
  refine ⟨⟨rfl, rfl, fun _ => ⟨rfl, rfl⟩, fun _ => rfl, rfl, fun _ => rfl, fun _ => rfl, fun _ => rfl, fun _ => rfl,
    rfl, rfl, rfl, rfl, fun _ => ⟨rfl, rfl⟩, fun _ => rfl, rfl, rfl, rfl⟩, ?_, rfl⟩
  exact ⟨rfl, rfl, rfl, rfl, rfl, fun _ => rfl, fun _ => ⟨rfl, rfl, rfl, rfl, rfl, rfl, rfl, rfl⟩,
    fun _ => ⟨rfl, rfl, rfl, rfl, rfl⟩, rfl, rfl, rfl, rfl, rfl, rfl, rfl, rfl, rfl, rfl⟩

/-! ## The events that start the part (R196, R199) -/

/-- The supply with main power, RESET_N high and the straps at the levels given. -/
def Supply.started (addr1 addr0 : Bool) : Supply := ⟨true, false, addr1, addr0⟩

/-- A start of a part that has its supply ends with the part at work, at the address its straps select. -/
theorem State.start_spec (s : State) (a b : Bool) (hs : s.supply = Supply.started a b) :
    s.start.pending = s.pending ∧ s.start.port.registryAddress = 0x2A + 4 * a.toNat + 2 * b.toNat ∧
    s.start.operating = true := by
  have haddress : s.portAfterStart.registryAddress = 0x2A + 4 * a.toNat + 2 * b.toNat := by
    simp [State.portAfterStart, hs, Supply.started, strapAddress]
  unfold State.start
  split
  · exact ⟨rfl, haddress, by simp [State.operating, State.coldStart, hs, Supply.started]⟩
  · obtain ⟨-, hpending, -, -, -, hport, -⟩ := s.warmStart_fields
    exact ⟨hpending, by rw [hport, haddress], by simp [State.operating, hs, Supply.started]⟩

theorem State.powerUp_eq_start {s : State} (h : s.supply.resetLow = false) (a b : Bool) :
    s.powerUp a b = State.start { s with supply := Supply.started a b } := by
  unfold State.powerUp
  simp [h, Supply.started]

theorem State.resetRelease_eq_start {s : State} (h : s.supply.resetLow = true) (hm : s.supply.mainPower = true)
    (a b : Bool) : s.resetRelease a b = State.start { s with supply := Supply.started a b } := by
  unfold State.resetRelease
  simp [h, hm, Supply.started]

/-- Settles O13: POWER_UP and RESET_N_RELEASE are `start` with the straps they carry, which the backup-loss flag makes
cold or warm, and RESTART_DELAY_EXPIRY is a warm start. -/
theorem startsFollowTheBackupLossFlag : Obligations.StartsFollowTheBackupLossFlag := by
  refine ⟨fun s a b hloss => ?cold, fun s a b hcan hkept => ?warm⟩
  case cold =>
    obtain ⟨hpending, haddress, hworks⟩ := State.start_spec { s with supply := Supply.started a b } a b rfl
    have hcold : State.start { s with supply := Supply.started a b } =
        State.coldStart { s with supply := Supply.started a b } := if_pos hloss
    have hstart := State.coldStarted { s with supply := Supply.started a b }
    rw [← hcold] at hstart
    exact ⟨fun hr => ⟨_, congrArg Host.Outcome.next (State.powerUp_eq_start hr a b), hstart, hpending, haddress, hworks⟩,
      fun hr hm => ⟨_, congrArg Host.Outcome.next (State.resetRelease_eq_start hr hm a b), hstart, hpending, haddress, hworks⟩⟩
  case warm =>
    obtain ⟨hpending, haddress, hworks⟩ := State.start_spec { s with supply := Supply.started a b } a b rfl
    have hwarm : State.start { s with supply := Supply.started a b } =
        State.warmStart { s with supply := Supply.started a b } := if_neg (by simp [hkept])
    have hstart : WarmStarted s (State.start { s with supply := Supply.started a b }) := by
      rw [hwarm]
      exact State.warmStarted (s := { s with supply := Supply.started a b }) hcan
    refine ⟨fun hr => ⟨_, congrArg Host.Outcome.next (State.powerUp_eq_start hr a b), hstart, hpending, haddress, hworks⟩,
      fun hr hm => ⟨_, congrArg Host.Outcome.next (State.resetRelease_eq_start hr hm a b), hstart, hpending, haddress, hworks⟩,
      fun ho hrestart => ?expiry⟩
    case expiry =>
      obtain ⟨hsupply, hqueue, -, -, -, hport, -⟩ := s.warmStart_fields
      refine ⟨s.warmStart, congrArg Host.Outcome.next (if_pos ⟨ho, Option.isSome_iff_ne_none.2 hrestart⟩), State.warmStarted hcan,
        hsupply, hqueue, by rw [hport]; rfl⟩

/-! ## RESTART (R199) -/

theorem State.offBus_eq_false {s : State} (h : s.poller.lossRole ≠ .offBus) : s.offBus = false := by
  simp [State.offBus, h]

/-- A transaction at one of the part's own addresses reaches its port while the part does not stay off the bus. -/
theorem State.reached?_of_portAt? {s : State} (h : s.poller.lossRole ≠ .offBus) (a : Nat) :
    s.reached? a = s.portAt? a := by
  rw [State.reached?, State.offBus_eq_false h]
  rfl

/-- A request that comes while a RESTART's reply stands uncollected is served as if that reply had been discarded. -/
theorem State.serve_discards {s : State} (ho : s.operating = true) (hb : s.offBus = false)
    (hp : s.port.registry.isProcessing = false) (hr : s.port.restart = some true) (c : Instr)
    (owner : State → State × Reply) : s.serve .registry c owner =
      State.serve { s with port := { s.port with restart := some false } } .registry c owner := by
  have hdiscard : s.discardKept .registry = { s with port := { s.port with restart := some false } } :=
    if_pos ⟨rfl, hr⟩
  have hkept : State.discardKept { s with port := { s.port with restart := some false } } .registry =
      { s with port := { s.port with restart := some false } } := if_neg (by simp)
  rw [State.serve_of_not_processing (p := .registry) ho hp, if_neg (by simp [hb]), hdiscard,
    State.serve_of_not_processing (s := { s with port := { s.port with restart := some false } }) (p := .registry) ho hp,
    if_neg (by simpa [State.offBus] using hb), hkept]

/-- Settles O20: the owner of RESTART asks for a start, a reader who clocks its reply in collects it, and a request that
comes first discards it. -/
theorem restartIsAnsweredThenStarts : Obligations.RestartIsAnsweredThenStarts := by
  refine ⟨fun s hf => State.replies_of_owner rfl hf rfl,
    fun s a k r hcan ho hloss hbus hat hready hrestart hlen => ?collected,
    fun s c hport ho hbus hp hrestart => ?discarded⟩
  case collected =>
    let s1 := s.strapped k.addr1 k.addr0
    let s2 : State := { s1 with port := { s1.port with acked := 1, sent := clockedBytes r.frame k.clocked } }
    have hread : s1.readAt a k.clocked = s2.warmStart := by
      have hreached : s1.reached? a = some .registry := (State.reached?_of_portAt? (s := s1) hbus a).trans hat
      rw [State.readAt, hreached]
      have hstate : (s1.acks 1).portState .registry = .ready r := hready
      simp only [State.readBegun, hstate, State.sendReply]
      rw [if_pos hlen, State.collected, if_pos ⟨rfl, hrestart⟩]
      rfl
    obtain ⟨hsupply, -, -, -, -, hport, -⟩ := s2.warmStart_fields
    refine ⟨s2.warmStart, ?_, State.warmStarted (s := s2) hcan, hsupply, by rw [hport]; rfl⟩
    rw [← hread]
    exact congrArg Host.Outcome.next (if_pos ho)
  case discarded =>
    obtain ⟨owner, howner⟩ := exec_of_request hport
    rw [howner, howner, State.serve_discards ho (State.offBus_eq_false hbus) hp hrestart]

end Sys2Proof.Machine

/-! SUPPORT. The bytes of a number, what a part that does not work answers, and the obligations on reset, the supply, the
status, the clock and the dispatch settings (R78, R79, R194 to R197). -/

namespace Sys2Proof.Machine

/-! ## The bytes of a number (R188) -/

@[simp] theorem length_be (k n : Nat) : (be k n).length = k := by
  induction k with
  | zero => rfl
  | succ k ih => rw [be, List.length_cons, ih]

theorem be_one (n : Nat) : be 1 n = [BitVec.ofNat 8 n] := by
  simp [be]

theorem be_two (n : Nat) : be 2 n = [BitVec.ofNat 8 (n / 256), BitVec.ofNat 8 n] := by
  simp [be]

/-! ## A part that does not work (R196) -/

/-- A part without power or in a start does nothing at a command that is not of the supply, the reset pin or the
crystal. -/
theorem exec_of_not_operating {s : State} {c : Instr} (h : s.operating = false) (hc : ofSupply c = false) :
    exec c s = .next s := by
  cases hreq : requestPort c with
  | some p =>
    obtain ⟨owner, howner⟩ := exec_of_request hreq
    rw [howner, State.serve_of_not_operating h]
  | none =>
    cases c <;> simp [requestPort, requestOf, kindForm] at hreq <;> simp [ofSupply] at hc
    all_goals simp [exec, execSweepStep, execOrderExpiry, execRoundBoundary, execMeasure, execConversionWaitEnd,
      execSensorRead, execArbitrationLoss, execBusStartCondition, execBusStopCondition, execBusIdleTimeout,
      execWriteTransaction, execReplyRead, execClockHoldTimeout, execRestartDelayExpiry, h]

/-- The three lines of a part that does not work are released. -/
theorem State.lines_of_not_operating {s : State} (h : s.operating = false) :
    s.attnAsserted = false ∧ s.workAsserted = false ∧ s.alarmAsserted = false := by
  simp [State.attnAsserted, State.workAsserted, State.alarmAsserted, h]

/-- Settles O14: each supply event is the one update its row names, and every other command is guarded by the part
working. -/
theorem supplyEventsAndTheUnpoweredPart : Obligations.SupplyEventsAndTheUnpoweredPart := by
  refine ⟨fun s => ⟨?reset, ?power, rfl, ?tick⟩, fun s c h hc => exec_of_not_operating h hc⟩
  case reset =>
    have hstops : State.operating { s with supply := { s.supply with resetLow := true } } = false := by
      simp [State.operating]
    exact ⟨_, rfl, rfl, rfl, hstops, State.lines_of_not_operating hstops⟩
  case power =>
    have hstops : State.operating { s with supply := { s.supply with mainPower := false } } = false := by
      simp [State.operating]
    exact ⟨_, rfl, rfl, rfl, hstops, State.lines_of_not_operating hstops⟩
  case tick =>
    refine ⟨_, rfl, rfl, rfl, ?_⟩
    dsimp only [Config.minuteModulus]
    split
    · rename_i hlast
      rw [hlast]
    · rfl

/-! ## Reset (R197) -/

/-- The settings of reset are the cold defaults, which lie in their ranges. -/
theorem settingsLegal_reset : State.reset.settingsLegal := by
  have hclass : ClassRecord.cold.clamped = ClassRecord.cold := by decide
  have hzone : ZoneSettings.cold.clamped = ZoneSettings.cold ∧ ZoneSettings.cold.inOrder = true := by decide
  have hwindow : Window.cold.firstAisle ≤ Window.cold.lastAisle ∧ Window.cold.lastAisle ≤ 7 ∧
      Window.cold.lowLevel ≤ Window.cold.highLevel ∧ Window.cold.highLevel ≤ 7 := by decide
  refine ⟨fun _ => hclass, by decide, by decide, fun _ => hzone, ?staged, ?racks, ?numbers, ?windows, ?sensors,
    ?addresses⟩
  case staged =>
    intro z c h
    cases h
  case racks =>
    intro p hp
    refine ⟨Nat.le_of_ble_eq_true rfl, Nat.le_refl 32, Nat.le_of_ble_eq_true rfl, Nat.le_refl 8, fun n hn => ?_⟩
    cases hn
    omega
  case numbers =>
    intro p q n _ _ hp hq
    cases hp
    have : q + 1 = p + 1 := Option.some.inj hq
    omega
  case windows =>
    intro n
    obtain ⟨haisles, hlast, hlevels, hhigh⟩ := hwindow
    exact ⟨haisles, hlast, hlevels, hhigh, fun z hz => (by cases hz)⟩
  case sensors => exact fun e => .inl rfl
  case addresses =>
    intro e f _ _ _ h
    exact absurd rfl h

/-- Nothing is recorded, ordered or queued at reset, so that what every step keeps holds of nothing. -/
theorem worksAgree_reset : State.reset.worksAgree := by
  have hnone : ∀ i r, State.reset.record? i ≠ some r := fun i r h => by cases h
  refine ⟨by decide, by decide, ⟨.nil, .nil⟩, fun tag i => ?tags, fun i p => ?places, ⟨.nil, ?orders⟩,
    ⟨fun i r h => absurd h (hnone i r), ?claims, .nil⟩, ⟨fun p => ?engaged, .nil⟩,
    ⟨.nil, .nil, fun p => ?reserved, fun p h => ?empty, fun i r h => absurd h (hnone i r), ?queue, ?issued, ?moves⟩,
    ?candidates, ?seen⟩
  case tags => exact ⟨fun h => (by cases h), fun ⟨r, h, _⟩ => absurd h (hnone i r)⟩
  case places => exact ⟨fun h => (by cases h), fun ⟨r, h, _⟩ => absurd h (hnone i r)⟩
  case engaged => exact ⟨fun h => (by cases h), fun ⟨v, hv, _⟩ => (by cases hv)⟩
  case reserved => exact ⟨fun h => (by cases h), fun ⟨q, hq, _⟩ => (by cases hq)⟩
  case empty => rfl
  all_goals exact fun x hx => by cases hx

/-- Settles O3: reset is a cold start with nothing recorded, so each invariant holds of empty tables and lists. -/
theorem resetIsAColdStartAndLegal : Obligations.ResetIsAColdStartAndLegal := by
  obtain ⟨hcanonical, hcapacity, hranked, htags, -⟩ := worksAgree_reset
  refine ⟨⟨?cold, rfl, rfl, rfl, by decide, by decide, by decide⟩, hcanonical, hcapacity, hranked, htags, by decide,
    ⟨by decide, fun _ _ => rfl, by decide, by decide⟩, settingsLegal_reset, worksAgree_reset⟩
  case cold =>
    refine ⟨⟨rfl, rfl, fun _ => ⟨rfl, rfl⟩, fun _ => rfl, rfl, fun _ => rfl, fun _ => rfl, fun _ => rfl, fun _ => rfl,
      rfl, rfl, rfl, rfl, fun _ => ⟨rfl, rfl⟩, fun _ => rfl, rfl, rfl, rfl⟩, ?_, rfl⟩
    exact ⟨rfl, rfl, rfl, rfl, rfl, fun _ => rfl, fun _ => ⟨rfl, rfl, rfl, rfl, rfl, rfl, rfl, rfl⟩,
      fun _ => ⟨rfl, rfl, rfl, rfl, rfl⟩, rfl, rfl, rfl, rfl, rfl, rfl, rfl, rfl, rfl, rfl⟩

/-! ## Status and clock (R194, R195) -/

/-- The eleven bytes of READ_STATUS. -/
def State.statusBytes (s : State) : List Byte :=
  [BitVec.ofNat 8 s.clock.lastStart.number,
   BitVec.ofNat 8 (s.clock.isSet.toNat + 2 * (decide (s.dispatcher.state = .running)).toNat +
     4 * s.poller.overran.toNat),
   BitVec.ofNat 8 (s.liveCount / 256), BitVec.ofNat 8 s.liveCount,
   BitVec.ofNat 8 (s.registry.overdueCount / 256), BitVec.ofNat 8 s.registry.overdueCount,
   BitVec.ofNat 8 s.dispatcher.window.length, BitVec.ofNat 8 s.candidates.length,
   BitVec.ofNat 8 s.relocations.length, BitVec.ofNat 8 s.discrepancies.length,
   BitVec.ofNat 8 s.poller.state.number]

theorem State.readStatus_replies {s : State} (hf : s.free .registry = true) :
    s.Replies .readStatus .registry s ⟨.ok, s.statusBytes⟩ := by
  refine State.replies_of_owner rfl hf ?_
  simp only [State.report, Reply.ok, be_one, be_two]
  rfl

theorem State.readClock_replies {s : State} (hf : s.free .registry = true) : s.Replies .readClock .registry s
    ⟨.ok, be 4 s.clock.minutes ++ [BitVec.ofNat 8 s.clock.isSet.toNat, BitVec.ofNat 8 s.clock.backupLoss.toNat]⟩ := by
  refine State.replies_of_owner rfl hf ?_
  simp only [State.report, Reply.ok, beFlag, be_one, List.append_assoc, List.cons_append, List.nil_append]

/-- Settles O22: READ_STATUS is `statusBytes`, read byte by byte, and the two clock requests reply what their owners
answer. -/
theorem statusAndClockAreReadAndSet : Obligations.StatusAndClockAreReadAndSet := by
  refine ⟨fun s hf => ⟨s.statusBytes, rfl, State.readStatus_replies hf, ?start, rfl, rfl, rfl, rfl, rfl, rfl, rfl, rfl,
    rfl, rfl⟩, fun s m hf => ⟨State.replies_of_owner rfl hf rfl, State.readClock_replies hf⟩⟩
  case start =>
    change BitVec.ofNat 8 s.clock.lastStart.number = _
    cases s.clock.lastStart <;> rfl

/-! ## Dispatch (R78, R79) -/

/-- The ranges of R79, field by field. -/
theorem DispatchSettings.clamped_mk (a o v b : Nat) (c : Bool) : DispatchSettings.clamped ⟨a, o, v, b, c⟩ =
    ⟨max 5 (min 120 a), max 30 (min 3600 o), max 10 (min 600 v), min 4095 b, c⟩ := by
  simp only [DispatchSettings.clamped, clampTo, Nat.zero_max]

/-- The census field of SET_DISPATCH is a yes or a no. -/
theorem yesNo?_eq {c : Nat} : yesNo? c = if c ≤ 1 then some (decide (c = 1)) else none := by
  rcases c with _ | _ | c <;> simp [yesNo?]

/-- A SET_DISPATCH stores its fields brought into their ranges, and reports them. -/
theorem State.setDispatch_replies {s : State} {a o v b c : Nat} {d : DispatchSettings} (hf : s.free .registry = true)
    (hc : c ≤ 1) (hd : d = DispatchSettings.clamped ⟨a, o, v, b, decide (c = 1)⟩) :
    s.Replies (.setDispatch a o v b c) .registry { s with dispatcher := { s.dispatcher with settings := d } }
      ⟨if d = ⟨a, o, v, b, decide (c = 1)⟩ then .ok else .clamped, encodeDispatch d⟩ := by
  refine State.replies_of_owner rfl hf ?_
  rw [yesNo?_eq, if_pos hc, hd, ← storedStatus_eq_ite]

theorem State.setDispatch_refused {s : State} {a o v b c : Nat} (hf : s.free .registry = true) (hc : 1 < c) :
    s.Replies (.setDispatch a o v b c) .registry s ⟨.badField, []⟩ := by
  refine State.replies_of_owner rfl hf ?_
  rw [yesNo?_eq, if_neg (Nat.not_le.2 hc)]
  rfl

/-- Settles O37: each request replies what its owner answers, and the census field decides whether SET_DISPATCH is
taken. -/
theorem dispatchIsSetAndRead : Obligations.DispatchIsSetAndRead := by
  refine ⟨fun s hf => ⟨State.replies_of_owner rfl hf rfl, State.replies_of_owner rfl hf rfl⟩, fun s a o v b c hf =>
    ⟨State.replies_of_owner rfl hf rfl, State.setDispatch_refused hf, fun hc => ⟨_, rfl, ?stored⟩⟩⟩
  case stored => exact State.setDispatch_replies hf hc (DispatchSettings.clamped_mk ..).symm

end Sys2Proof.Machine

/-! SUPPORT. What the climate poller and the zone monitor keep: their tables canonical, every setting in its range, and
the poller's state legal, operation by operation (R145 to R163). -/

namespace Sys2Proof.Machine

/-! ## The sensor table and the zones, canonical -/

/-- The tables the poller and the zone monitor write are canonical. -/
def State.climateCanonical (s : State) : Prop :=
  s.poller.sensors.canonical (fun _ => SensorEntry.cold) = true ∧ s.zones.canonical (fun _ => Zone.cold) = true

theorem State.climateCanonical_of_tables {s : State} (h : s.tablesCanonical = true) : s.climateCanonical := by
  obtain ⟨-, -, -, -, -, -, -, -, hsensors, hzones⟩ := s.tablesCanonical_iff.1 h
  exact ⟨hsensors, hzones⟩

theorem State.climateCanonical_setZone {s : State} (h : s.climateCanonical) (z : Nat) (v : Zone) :
    (s.setZone z v).climateCanonical :=
  ⟨h.1, Table.canonical_writeD s.zones (fun _ => Zone.cold) z v h.2⟩

theorem State.climateCanonical_setSensorEntry {s : State} (h : s.climateCanonical) (e : Nat) (v : SensorEntry) :
    (s.setSensorEntry e v).climateCanonical :=
  ⟨Table.canonical_writeD s.poller.sensors (fun _ => SensorEntry.cold) e v h.1, h.2⟩

theorem State.climateCanonical_activateStaged {s : State} (h : s.climateCanonical) :
    s.activateStaged.climateCanonical :=
  ⟨h.1, Table.canonical_mapD s.zones (fun _ => Zone.cold) (fun _ z => z.activate) (Table.ordered_of_canonical h.2)⟩

theorem State.climateCanonical_stopPoller {s : State} (h : s.climateCanonical) : s.stopPoller.climateCanonical :=
  State.climateCanonical_activateStaged
    (s := { s with poller := { s.poller with state := .stopped, roundTimer := none } }) h

theorem State.climateCanonical_followRunCondition {s : State} (h : s.climateCanonical) :
    s.followRunCondition.climateCanonical := by
  unfold State.followRunCondition
  split
  · split
    · exact h
    · exact h
  · split
    · exact h
    · exact State.climateCanonical_stopPoller h
  · exact h

theorem State.climateCanonical_judgeZone {s : State} (h : s.climateCanonical) (z : Nat) :
    (s.judgeZone z).climateCanonical := by
  have hz := State.climateCanonical_setZone h z ((s.zone z).judge (s.zoneInputs z))
  have htables : (s.judgeZone z).poller = (s.setZone z ((s.zone z).judge (s.zoneInputs z))).poller ∧
      (s.judgeZone z).zones = (s.setZone z ((s.zone z).judge (s.zoneInputs z))).zones := by
    unfold State.judgeZone
    dsimp only
    constructor <;> (repeat' split) <;> rfl
  rw [State.climateCanonical, htables.1, htables.2]
  exact hz

theorem State.climateCanonical_handover {s : State} (h : s.climateCanonical) : s.handover.climateCanonical := by
  unfold State.handover
  generalize zoneNumbers = l
  induction l generalizing s with
  | nil => exact h
  | cons z l ih => exact ih (State.climateCanonical_judgeZone h z)

theorem State.climateCanonical_countRounds {s : State} (h : s.climateCanonical) : s.countRounds.climateCanonical :=
  ⟨Table.canonical_mapD s.poller.sensors (fun _ => SensorEntry.cold)
    (fun _ e => if e.address = 0 then e else e.afterRound) (Table.ordered_of_canonical h.1), h.2⟩

theorem State.climateCanonical_endRound {s : State} (h : s.climateCanonical) : s.endRound.climateCanonical := by
  unfold State.endRound
  dsimp only
  split
  · exact h
  · exact State.climateCanonical_stopPoller h

theorem State.climateCanonical_evaluateRound {s : State} (h : s.climateCanonical) :
    s.evaluateRound.climateCanonical := by
  have hstart : State.climateCanonical { s with poller := { s.poller with state := .evaluating } } := h
  unfold State.evaluateRound
  exact State.climateCanonical_endRound (State.climateCanonical_countRounds (State.climateCanonical_handover hstart))

theorem State.climateCanonical_turnFrom {s : State} (h : s.climateCanonical) (e : Nat) :
    (s.turnFrom e).climateCanonical := by
  unfold State.turnFrom
  split
  · exact h
  · exact State.climateCanonical_evaluateRound h

theorem State.climateCanonical_takeRead {s : State} (h : s.climateCanonical) (e : Nat) (a : Option (List Byte)) :
    (s.takeRead e a).climateCanonical := by
  rcases State.takeRead_eq (s := s) (e := e) (a := a) rfl with ht | ht <;> rw [ht] <;>
    exact State.climateCanonical_setSensorEntry h e _

theorem State.climateCanonical_exhausted {s : State} (h : s.climateCanonical) : s.exhausted.climateCanonical := by
  unfold State.exhausted
  split
  · exact State.climateCanonical_endRound h
  · exact State.climateCanonical_turnFrom (s := { s with poller := { s.poller with retries := 0 } }) h _

theorem State.climateCanonical_passUnused {s : State} (h : s.climateCanonical) : s.passUnused.climateCanonical := by
  unfold State.passUnused
  split
  · exact State.climateCanonical_turnFrom (s := { s with poller := { s.poller with retries := 0 } }) h _
  · exact h

/-! ## Legal zones and legal sensor entries -/

/-- A settings record stands in its ranges and in the order of R161. -/
def ZoneSettings.legal (c : ZoneSettings) : Prop := c.clamped = c ∧ c.inOrder = true

/-- A zone's records, active and staged, are legal. -/
def Zone.legal (z : Zone) : Prop := z.active.legal ∧ ∀ c, z.staged = some c → c.legal

/-- Every zone is legal. -/
def State.zonesLegal (s : State) : Prop := ∀ z, (s.zone z).legal

/-- Every sensor entry is legal, and no two configured entries have one address. -/
def State.sensorsLegal (s : State) : Prop :=
  (∀ e, (s.sensor e).legal) ∧
  ∀ e f, e < 16 → f < 16 → (s.sensor e).address = (s.sensor f).address → (s.sensor e).address ≠ 0 → e = f

theorem Zone.legal_activate {z : Zone} (h : z.legal) : z.activate.legal := by
  unfold Zone.activate
  split
  · exact h
  · rename_i c hc
    exact ⟨h.2 c hc, fun c' hc' => (by cases hc')⟩

/-- Judging a zone leaves its settings alone. -/
theorem Zone.judge_settings (z : Zone) (l : List ZoneInput) :
    (z.judge l).active = z.active ∧ (z.judge l).staged = z.staged := by
  unfold Zone.judge
  dsimp only
  split
  · exact ⟨rfl, rfl⟩
  · split <;> exact ⟨rfl, rfl⟩

theorem Zone.legal_judge {z : Zone} (h : z.legal) (l : List ZoneInput) : (z.judge l).legal := by
  obtain ⟨hactive, hstaged⟩ := z.judge_settings l
  rw [Zone.legal, hactive, hstaged]
  exact h

/-- What keeps the address and the zone of every entry keeps the entries legal. -/
theorem State.sensorsLegal_of_places {s t : State} (h : s.sensorsLegal)
    (hp : ∀ e, (t.sensor e).address = (s.sensor e).address ∧ (t.sensor e).zone = (s.sensor e).zone) :
    t.sensorsLegal := by
  refine ⟨fun e => ?_, fun e f => ?_⟩
  · rw [SensorEntry.legal, (hp e).1, (hp e).2]
    exact h.1 e
  · rw [(hp e).1, (hp f).1]
    exact h.2 e f

theorem State.zone_stopPoller {s : State} (h : s.climateCanonical) (z : Nat) :
    s.stopPoller.zone z = (s.zone z).activate :=
  State.zone_activateStaged { s with poller := { s.poller with state := .stopped, roundTimer := none } } z h.2

theorem State.sensor_countRounds {s : State} (h : s.climateCanonical) (e : Nat) :
    s.countRounds.sensor e = if (s.sensor e).address = 0 then s.sensor e else (s.sensor e).afterRound :=
  Table.readD_mapD s.poller.sensors (fun _ => SensorEntry.cold)
    (fun _ e => if e.address = 0 then e else e.afterRound) e (Table.ordered_of_canonical h.1) rfl

/-! ## A legal poller -/

/-- What a round in progress keeps, in whichever of its states: its timer runs, and every setting is legal. -/
structure State.RoundLegal (s : State) : Prop where
  timer : s.poller.roundTimer ≠ none
  retries : s.poller.retries ≤ 8
  settings : s.poller.settings.clamped = s.poller.settings
  zones : s.zonesLegal
  sensors : s.sensorsLegal

/-- The poller and its settings are legal: what O6 keeps of them. -/
structure State.ClimateLegal (s : State) : Prop where
  poller : s.pollerLegal
  settings : s.poller.settings.clamped = s.poller.settings
  zones : s.zonesLegal
  sensors : s.sensorsLegal

theorem State.ClimateLegal.round {s : State} (h : s.ClimateLegal) (hs : s.poller.state ≠ .stopped) : s.RoundLegal := by
  obtain ⟨hstopped, -, -, hretries⟩ := h.poller
  exact ⟨fun htimer => hs (hstopped.2 htimer), hretries, h.settings, h.zones, h.sensors⟩

/-- A round in one of its own states is a legal poller. -/
theorem State.RoundLegal.climate {s : State} (h : s.RoundLegal) (hs : s.poller.state ≠ .stopped)
    (he : s.poller.state ≠ .evaluating) : s.ClimateLegal :=
  ⟨⟨⟨fun h1 => absurd h1 hs, fun h1 => absurd h1 h.timer⟩, fun h1 => absurd h1 hs, he, h.retries⟩, h.settings,
    h.zones, h.sensors⟩

/-- A stopped poller has nothing staged, since the stop made it active. -/
theorem State.RoundLegal.stop {s : State} (hc : s.climateCanonical) (h : s.RoundLegal) : s.stopPoller.ClimateLegal := by
  refine ⟨⟨⟨fun _ => rfl, fun _ => rfl⟩, fun _ z => ?_, by simp [State.stopPoller, State.activateStaged], h.retries⟩,
    h.settings, fun z => ?_, h.sensors⟩
  · rw [State.zone_stopPoller hc, Zone.activate_eq]
  · rw [State.zone_stopPoller hc]
    exact Zone.legal_activate (h.zones z)

theorem State.RoundLegal.judgeZone {s : State} (h : s.RoundLegal) (z : Nat) : (s.judgeZone z).RoundLegal := by
  have hp := (s.judgeZone_fields z).2.2.2.2.2.2.2.2.2.1
  refine ⟨by rw [hp]; exact h.timer, by rw [hp]; exact h.retries, by rw [hp]; exact h.settings, fun y => ?_,
    State.sensorsLegal_of_places h.sensors fun e => by simp⟩
  rw [State.zone_judgeZone]
  split
  · exact Zone.legal_judge (h.zones z) _
  · exact h.zones y

theorem State.RoundLegal.handover {s : State} (h : s.RoundLegal) : s.handover.RoundLegal := by
  unfold State.handover
  generalize zoneNumbers = l
  induction l generalizing s with
  | nil => exact h
  | cons z l ih => exact ih (h.judgeZone z)

theorem State.RoundLegal.countRounds {s : State} (hc : s.climateCanonical) (h : s.RoundLegal) :
    s.countRounds.RoundLegal := by
  refine ⟨h.timer, h.retries, h.settings, h.zones, State.sensorsLegal_of_places h.sensors fun e => ?_⟩
  rw [State.sensor_countRounds hc]
  split <;> exact ⟨rfl, rfl⟩

theorem State.RoundLegal.endRound {s : State} (hc : s.climateCanonical) (h : s.RoundLegal) :
    s.endRound.ClimateLegal := by
  unfold State.endRound
  dsimp only
  split
  · exact State.RoundLegal.climate ⟨h.timer, Nat.zero_le 8, h.settings, h.zones, h.sensors⟩ (by simp) (by simp)
  · exact State.RoundLegal.stop (s := { s with poller := { s.poller with
      overran := s.poller.overran && s.poller.boundaryFell, retries := 0, begun := false, discard := false } }) hc
      ⟨h.timer, Nat.zero_le 8, h.settings, h.zones, h.sensors⟩

theorem State.RoundLegal.evaluateRound {s : State} (hc : s.climateCanonical) (h : s.RoundLegal) :
    s.evaluateRound.ClimateLegal := by
  have h1 : State.RoundLegal { s with poller := { s.poller with state := .evaluating } } :=
    ⟨h.timer, h.retries, h.settings, h.zones, h.sensors⟩
  have hc0 : State.climateCanonical { s with poller := { s.poller with state := .evaluating } } := hc
  have hc1 := State.climateCanonical_handover hc0
  unfold State.evaluateRound
  exact (h1.handover.countRounds hc1).endRound (State.climateCanonical_countRounds hc1)

theorem State.RoundLegal.turnFrom {s : State} (hc : s.climateCanonical) (h : s.RoundLegal) (e : Nat) :
    (s.turnFrom e).ClimateLegal := by
  unfold State.turnFrom
  split
  · exact State.RoundLegal.climate ⟨h.timer, h.retries, h.settings, h.zones, h.sensors⟩ (by simp) (by simp)
  · exact h.evaluateRound hc

theorem State.RoundLegal.exhausted {s : State} (hc : s.climateCanonical) (h : s.RoundLegal) :
    s.exhausted.ClimateLegal := by
  unfold State.exhausted
  split
  · exact h.endRound hc
  · exact State.RoundLegal.turnFrom (s := { s with poller := { s.poller with retries := 0 } }) hc
      ⟨h.timer, Nat.zero_le 8, h.settings, h.zones, h.sensors⟩ _

theorem State.RoundLegal.takeRead {s : State} (h : s.RoundLegal) (e : Nat) (a : Option (List Byte)) :
    (s.takeRead e a).RoundLegal := by
  have hp := s.poller_takeRead e a
  refine ⟨by rw [hp]; exact h.timer, by rw [hp]; exact h.retries, by rw [hp]; exact h.settings, fun z => ?_,
    State.sensorsLegal_of_places h.sensors fun j => ?_⟩
  · have hz : (s.takeRead e a).zone z = s.zone z := by rw [State.zone, State.zone, (s.takeRead_fields e a).2.2.2.2.2.2.2.2.2.1]
    rw [hz]
    exact h.zones z
  · rw [State.sensor_takeRead]
    split
    · rename_i hj
      subst hj
      exact ⟨rfl, rfl⟩
    · exact ⟨rfl, rfl⟩

/-! ## What each command of the poller and the zone monitor keeps -/

/-- A change of the poller, the zones and the attention set alone, which keeps their tables canonical and the poller
and its settings legal. -/
structure ClimateKept (s t : State) : Prop where
  frame : t = { s with poller := t.poller, zones := t.zones, attention := t.attention }
  canonical : s.climateCanonical → t.climateCanonical
  legal : s.climateCanonical → s.ClimateLegal → t.ClimateLegal

theorem ClimateKept.refl (s : State) : ClimateKept s s := ⟨rfl, id, fun _ => id⟩

/-- The poller follows the run condition from STOPPED and from WAITING (R149). -/
theorem State.ClimateLegal.followRunCondition {s : State} (hc : s.climateCanonical) (h : s.ClimateLegal) :
    s.followRunCondition.ClimateLegal := by
  obtain ⟨-, -, -, hretries⟩ := h.poller
  unfold State.followRunCondition
  split
  · split
    · exact State.RoundLegal.climate (s := s.startPoller)
        ⟨by simp [State.startPoller], hretries, h.settings, h.zones, h.sensors⟩ (by simp [State.startPoller])
        (by simp [State.startPoller])
    · exact h
  · rename_i hs
    split
    · exact h
    · exact (h.round (by simp [hs])).stop hc
  · exact h

theorem State.ClimateLegal.passUnused {s : State} (hc : s.climateCanonical) (h : s.ClimateLegal) :
    s.passUnused.ClimateLegal := by
  unfold State.passUnused
  split
  · rename_i hp
    obtain ⟨-, hr, hset, hz, hsens⟩ := h.round (by simp [hp.1])
    exact State.RoundLegal.turnFrom (s := { s with poller := { s.poller with retries := 0 } }) hc
      ⟨(h.round (by simp [hp.1])).timer, Nat.zero_le 8, hset, hz, hsens⟩ _
  · exact h

theorem State.boundary_kept (s : State) : ClimateKept s s.boundary := by
  refine ⟨by apply State.ext <;> simp, fun hc => ?canonical, fun hc h => ?legal⟩
  case canonical =>
    unfold State.boundary
    split
    · exact hc
    · dsimp only
      split
      · exact hc
      · exact ⟨Table.canonical_mapD s.poller.sensors (fun _ => SensorEntry.cold) (fun _ e => { e with fresh := none })
          (Table.ordered_of_canonical hc.1), (State.climateCanonical_activateStaged hc).2⟩
      · exact hc
  case legal =>
    unfold State.boundary
    split
    · exact h
    · dsimp only
      split
      · exact h
      · rename_i hs
        have hr := h.round (by simp [hs])
        refine State.RoundLegal.climate ⟨by simp [State.beginRound, State.activateStaged], Nat.zero_le 8, hr.settings,
          fun z => ?_, State.sensorsLegal_of_places hr.sensors fun e => ?_⟩ (by simp [State.beginRound])
          (by simp [State.beginRound])
        · have hz : State.zone (State.beginRound { s with poller := { s.poller with
              roundTimer := some s.poller.settings.period } }) z = (s.zone z).activate :=
            State.zone_activateStaged s z hc.2
          rw [hz]
          exact Zone.legal_activate (hr.zones z)
        · have he : State.sensor (State.beginRound { s with poller := { s.poller with
              roundTimer := some s.poller.settings.period } }) e = { s.sensor e with fresh := none } :=
            Table.readD_mapD s.poller.sensors (fun _ => SensorEntry.cold) (fun _ e => { e with fresh := none }) e
              (Table.ordered_of_canonical hc.1) rfl
          rw [he]
          exact ⟨rfl, rfl⟩
      · rename_i hstopped hwaiting
        have hr := h.round hstopped
        obtain ⟨-, -, heval, -⟩ := h.poller
        exact State.RoundLegal.climate ⟨by simp, hr.retries, hr.settings, hr.zones, hr.sensors⟩ hstopped heval

theorem State.measured_kept {s : State} (a : Bool) (hs : s.poller.state = .broadcasting) :
    ClimateKept s (s.measured a) := by
  refine ⟨by apply State.ext <;> simp, fun hc => hc, fun _ h => ?_⟩
  have hr := h.round (by simp [hs])
  exact State.RoundLegal.climate ⟨hr.timer, Nat.zero_le 8, hr.settings, hr.zones, hr.sensors⟩
    (by simp [State.measured]) (by simp [State.measured])

theorem State.waitEnded_kept {s : State} (hs : s.poller.state = .converting) : ClimateKept s s.waitEnded := by
  refine ⟨by apply State.ext <;> simp, fun hc => ?_, fun hc h => ?_⟩
  · exact State.climateCanonical_turnFrom (s := { s with poller := { s.poller with waitLeft := 0 } }) hc 0
  · have hr := h.round (by simp [hs])
    exact State.RoundLegal.turnFrom (s := { s with poller := { s.poller with waitLeft := 0 } }) hc
      ⟨hr.timer, hr.retries, hr.settings, hr.zones, hr.sensors⟩ 0

theorem State.readEnded_kept {s : State} (a : Option (List Byte)) (hs : s.poller.state = .reading) :
    ClimateKept s (s.readEnded a) := by
  refine ⟨by apply State.ext <;> simp, fun hc => ?canonical, fun hc h => ?legal⟩
  case canonical =>
    unfold State.readEnded
    dsimp only
    refine State.climateCanonical_turnFrom (s := State.endTransaction _ _) ?_ _
    split
    · exact hc
    · exact State.climateCanonical_takeRead hc _ a
  case legal =>
    have hr := h.round (by simp [hs])
    have hread : (if s.poller.discard = true then s else s.takeRead s.poller.turn a).RoundLegal := by
      split
      · exact hr
      · exact hr.takeRead _ a
    have hcread : (if s.poller.discard = true then s else s.takeRead s.poller.turn a).climateCanonical := by
      split
      · exact hc
      · exact State.climateCanonical_takeRead hc _ a
    exact State.RoundLegal.turnFrom (s := State.endTransaction _ s.readDriven) hcread
      ⟨hread.timer, Nat.zero_le 8, hread.settings, hread.zones, hread.sensors⟩ _

theorem State.arbitrationLost_kept {s : State} (f : Bool) (w : Byte) (ht : s.transacting = true) :
    ClimateKept s (s.arbitrationLost f w) := by
  have hs : s.poller.state = .broadcasting ∨ s.poller.state = .reading := by
    simpa [State.transacting] using ht
  have hrunning : s.poller.state ≠ .stopped := by rcases hs with hs | hs <;> simp [hs]
  refine ⟨by apply State.ext <;> simp, fun hc => ?canonical, fun hc h => ?legal⟩
  case canonical =>
    unfold State.arbitrationLost
    dsimp only
    split
    · exact State.climateCanonical_passUnused (s := { s with poller := _ }) hc
    · exact State.climateCanonical_exhausted (s := { s with poller := _ }) hc
  case legal =>
    have hr := h.round hrunning
    obtain ⟨-, -, heval, -⟩ := h.poller
    unfold State.arbitrationLost
    dsimp only
    split
    · rename_i hretry
      refine State.ClimateLegal.passUnused (s := { s with poller := _ }) hc ?_
      exact State.RoundLegal.climate ⟨hr.timer, hretry, hr.settings, hr.zones, hr.sensors⟩ hrunning heval
    · exact State.RoundLegal.exhausted (s := { s with poller := _ }) hc
        ⟨hr.timer, hr.retries, hr.settings, hr.zones, hr.sensors⟩

/-- A change of what the poller holds of the bus keeps everything. -/
theorem State.bus_kept {s t : State} (ht : t = { s with poller := t.poller })
    (hp : t.poller = { t.poller with
      sensors := s.poller.sensors, settings := s.poller.settings, state := s.poller.state
      roundTimer := s.poller.roundTimer, retries := s.poller.retries }) : ClimateKept s t := by
  rw [ht, hp]
  exact ⟨rfl, fun hc => hc, fun _ h => ⟨h.poller, h.settings, h.zones, h.sensors⟩⟩

theorem State.startSeen_kept (s : State) (own : Bool) : ClimateKept s (s.startSeen own) := by
  unfold State.startSeen
  split
  · split
    · exact State.bus_kept rfl rfl
    · exact ClimateKept.refl s
  · exact State.bus_kept rfl rfl

theorem State.busIdle_kept (s : State) : ClimateKept s s.busIdle := State.bus_kept rfl rfl

/-! ## SET_SENSOR and SET_POLL (R146, R148) -/

/-- A SET_SENSOR that is not refused names an entry of the table, and makes it unused or legal at an address of its
own. -/
theorem State.sensorRefusal_none {s : State} {n a z : Nat} (h : s.sensorRefusal n a z = none) :
    n < 16 ∧ (SensorEntry.unpolled a (if a = 0 then 0 else z)).legal ∧
    (a ≠ 0 → ∀ e, e < 16 → e ≠ n → (s.sensor e).address ≠ a) := by
  unfold State.sensorRefusal at h
  split at h
  · cases h
  rename_i hn
  have hn16 : n < 16 := Nat.not_le.1 hn
  split at h
  · rename_i ha
    exact ⟨hn16, .inl ha, fun hne => absurd ha hne⟩
  rename_i ha
  split at h
  · cases h
  rename_i hrange
  split at h
  · cases h
  split at h
  · cases h
  rename_i hzone
  split at h
  · cases h
  rename_i htaken
  refine ⟨hn16, .inr ?_, fun _ e he hne hsame => htaken ?_⟩
  · simp only [SensorEntry.unpolled, if_neg ha]
    omega
  · simp only [State.addressTaken, List.any_eq_true, List.mem_range, Bool.and_eq_true, decide_eq_true_eq]
    exact ⟨e, he, hne, hsame⟩

theorem State.sensorsLegal_setSensorEntry {s : State} (hs : s.sensorsLegal) {n : Nat} {v : SensorEntry}
    (hv : v.legal) (hfree : v.address ≠ 0 → ∀ e, e < 16 → e ≠ n → (s.sensor e).address ≠ v.address) :
    (s.setSensorEntry n v).sensorsLegal := by
  obtain ⟨hlegal, hdistinct⟩ := hs
  refine ⟨fun e => ?_, fun e f he hf => ?_⟩
  · rw [State.sensor_setSensorEntry]
    split
    · exact hv
    · exact hlegal e
  · simp only [State.sensor_setSensorEntry]
    by_cases h1 : e = n <;> by_cases h2 : f = n
    · exact fun _ _ => h1.trans h2.symm
    · simp only [h1, h2, if_true, if_false]
      exact fun hsame hne => absurd hsame.symm (hfree hne f hf h2)
    · simp only [h1, h2, if_true, if_false]
      exact fun hsame hne => absurd hsame (hfree (hsame ▸ hne) e he h1)
    · simp only [h1, h2, if_false]
      exact hdistinct e f he hf

theorem State.writeSensor_kept {s : State} {n a z : Nat} (hpass : s.sensorRefusal n a z = none) :
    ClimateKept s (s.writeSensor n a z) := by
  obtain ⟨-, hentry, hfree⟩ := State.sensorRefusal_none hpass
  refine ⟨by apply State.ext <;> simp, fun hc => ?canonical, fun hc h => ?legal⟩
  case canonical =>
    exact State.climateCanonical_passUnused (State.climateCanonical_followRunCondition (s := { s with poller := _ })
      (State.climateCanonical_setSensorEntry hc n _))
  case legal =>
    have hc1 := State.climateCanonical_setSensorEntry hc n (SensorEntry.unpolled a (if a = 0 then 0 else z))
    have hsensors := State.sensorsLegal_setSensorEntry h.sensors (n := n) hentry hfree
    refine State.ClimateLegal.passUnused (State.climateCanonical_followRunCondition (s := { s with poller := _ }) hc1)
      (State.ClimateLegal.followRunCondition (s := { s with poller := _ }) hc1 ?_)
    exact ⟨h.poller, h.settings, h.zones, hsensors⟩

theorem clampTo_self_of_range {low high v : Nat} (h : low ≤ high) :
    clampTo low high (clampTo low high v) = clampTo low high v := by
  unfold clampTo
  omega

theorem PollSettings.clamped_clamped (p : PollSettings) : p.clamped.clamped = p.clamped := by
  simp [PollSettings.clamped, clampTo_self_of_range]

theorem State.setPoll_kept (s : State) (p : PollSettings) :
    ClimateKept s (State.followRunCondition { s with poller := { s.poller with settings := p.clamped } }) := by
  refine ⟨by apply State.ext <;> simp, fun hc => ?_, fun hc h => ?_⟩
  · exact State.climateCanonical_followRunCondition (s := { s with poller := _ }) hc
  · exact State.ClimateLegal.followRunCondition (s := { s with poller := _ }) hc
      ⟨h.poller, p.clamped_clamped, h.zones, h.sensors⟩

/-! ## SET_ZONE and ACK_ALARM (R162, R173) -/

theorem ZoneSettings.clamped_clamped (c : ZoneSettings) : c.clamped.clamped = c.clamped := by
  simp [ZoneSettings.clamped, clampTo_self_of_range]

/-- A zone replaced by a legal one, with nothing staged while the poller is stopped, keeps everything. -/
theorem State.setZone_kept {s : State} {z : Nat} {v : Zone} (hv : (s.zone z).legal → v.legal)
    (hstaged : s.poller.state = .stopped → v.staged = (s.zone z).staged) : ClimateKept s (s.setZone z v) := by
  refine ⟨rfl, fun hc => State.climateCanonical_setZone hc z v, fun hc h => ?_⟩
  obtain ⟨htimer, hnone, heval, hretries⟩ := h.poller
  refine ⟨⟨htimer, fun hs y => ?_, heval, hretries⟩, h.settings, fun y => ?_, h.sensors⟩
  · rw [State.zone_setZone]
    split
    · rw [hstaged hs, hnone hs z]
    · exact hnone hs y
  · rw [State.zone_setZone]
    split
    · exact hv (h.zones z)
    · exact h.zones y

theorem State.storeSettings_kept (s : State) (z : Nat) {c : ZoneSettings} (hc : c.legal) :
    ClimateKept s (s.storeSettings z c).1 := by
  unfold State.storeSettings
  split
  · exact State.setZone_kept (fun h => ⟨hc, h.2⟩) fun _ => rfl
  · rename_i hs
    exact State.setZone_kept (fun h => ⟨h.1, fun c' hc' => Option.some.inj hc' ▸ hc⟩) fun h => absurd h hs

theorem State.setAlarm_kept (s : State) (z : Nat) (a : Alarm) :
    ClimateKept s (s.setZone z { s.zone z with alarm := a }) :=
  State.setZone_kept (fun h => h) fun _ => rfl

end Sys2Proof.Machine

/-! SUPPORT. What every operation of the model keeps of the tables, the capacities, the registry and the settings: one
relation between a state and a later one, proved once for each operation. -/

namespace Sys2Proof.Machine

/-- The capacities and the rank of the candidate list: what O4 keeps besides the tables. -/
def State.bounded (s : State) : Prop := s.withinCapacity = true ∧ s.candidatesRanked

/-- The poller and the settings are legal: what O6 keeps. -/
def State.allLegal (s : State) : Prop := s.pollerLegal ∧ s.settingsLegal

/-- A change that keeps the tables canonical and, on canonical tables, each of the invariants on them. -/
structure Keeps (s t : State) : Prop where
  tables : s.tablesCanonical = true → t.tablesCanonical = true
  capacity : s.tablesCanonical = true → s.bounded → t.bounded
  tags : s.tablesCanonical = true → s.tagIndexAgrees → t.tagIndexAgrees
  overdue : s.tablesCanonical = true → s.overdueCounted = true → t.overdueCounted = true
  legal : s.tablesCanonical = true → s.allLegal → t.allLegal

theorem Keeps.refl (s : State) : Keeps s s := ⟨id, fun _ => id, fun _ => id, fun _ => id, fun _ => id⟩

theorem Keeps.trans {s t u : State} (h : Keeps s t) (k : Keeps t u) : Keeps s u :=
  ⟨fun hs => k.tables (h.tables hs), fun hs hc => k.capacity (h.tables hs) (h.capacity hs hc),
    fun hs hc => k.tags (h.tables hs) (h.tags hs hc), fun hs hc => k.overdue (h.tables hs) (h.overdue hs hc),
    fun hs hc => k.legal (h.tables hs) (h.legal hs hc)⟩

theorem Keeps.foldl {α : Type} {f : State → α → State} (l : List α) (h : ∀ s, ∀ a ∈ l, Keeps s (f s a)) (s : State) :
    Keeps s (l.foldl f s) := by
  induction l generalizing s with
  | nil => exact Keeps.refl s
  | cons a l ih =>
    exact (h s a List.mem_cons_self).trans (ih (fun u b hb => h u b (List.mem_cons_of_mem a hb)) (f s a))

/-- The capacities, one by one. -/
theorem State.withinCapacity_iff (s : State) : s.withinCapacity = true ↔
    (∀ e ∈ s.registry.records, e.1 < 4096) ∧ s.candidates.length ≤ 32 ∧ s.dispatcher.window.length ≤ 4 ∧
    (∀ o ∈ s.dispatcher.window, o.visits.length ≤ 8) ∧ s.relocations.length ≤ 8 ∧ s.census.directed.length ≤ 4 ∧
    ∀ e ∈ s.discrepancies, e.1 < 16 := by
  simp only [State.withinCapacity, Bool.and_eq_true, List.all_eq_true, decide_eq_true_eq, and_assoc]

/-! ## The number of records marked overdue -/

/-- How many records of a table are marked overdue. -/
def overdueIn (t : Table WheelRecord) : Nat := (t.filter fun e => e.2.overdue).length

theorem State.overdueCounted_iff (s : State) :
    s.overdueCounted = true ↔ s.registry.overdueCount = overdueIn s.registry.records := decide_eq_true_iff

theorem overdueIn_cons (k : Nat) (r : WheelRecord) (t : Table WheelRecord) :
    overdueIn ((k, r) :: t) = r.overdue.toNat + overdueIn t := by
  unfold overdueIn
  cases h : r.overdue
  · simp [h]
  · simp [h, Nat.add_comm]

theorem overdueIn_write_new {t : Table WheelRecord} {i : Nat} (h : t.read? i = none) (r : WheelRecord) :
    overdueIn (t.write i r) = r.overdue.toNat + overdueIn t := by
  induction t with
  | nil => exact overdueIn_cons i r []
  | cons e rest ih =>
    obtain ⟨k, x⟩ := e
    rw [Table.read?_cons] at h
    split at h
    · cases h
    · rename_i hk
      rw [Table.write]
      split
      · rw [overdueIn_cons]
      · rw [if_neg (Ne.symm hk), overdueIn_cons, overdueIn_cons, ih h]
        omega

theorem overdueIn_write {t : Table WheelRecord} {i : Nat} {x : WheelRecord} (ho : t.ordered = true)
    (h : t.read? i = some x) (r : WheelRecord) :
    overdueIn (t.write i r) + x.overdue.toNat = overdueIn t + r.overdue.toNat := by
  induction t with
  | nil => cases h
  | cons e rest ih =>
    obtain ⟨k, y⟩ := e
    obtain ⟨hrest, horest⟩ := (Table.ordered_cons k y rest).1 ho
    rw [Table.read?_cons] at h
    rw [Table.write]
    split at h
    · rename_i hk
      rw [if_neg (by omega), if_pos hk.symm, overdueIn_cons, overdueIn_cons, Option.some.inj h]
      omega
    · rename_i hk
      have hlt : k < i := by
        have hmem := (Table.read?_eq_some_iff horest i x).1 h
        exact hrest _ hmem
      rw [if_neg (by omega), if_neg (by omega), overdueIn_cons, overdueIn_cons]
      have := ih horest h
      omega

theorem overdueIn_clear {t : Table WheelRecord} {i : Nat} {x : WheelRecord} (ho : t.ordered = true)
    (h : t.read? i = some x) : overdueIn (t.clear i) + x.overdue.toNat = overdueIn t := by
  induction t with
  | nil => cases h
  | cons e rest ih =>
    obtain ⟨k, y⟩ := e
    obtain ⟨hrest, horest⟩ := (Table.ordered_cons k y rest).1 ho
    rw [Table.read?_cons] at h
    rw [Table.clear]
    split at h
    · rename_i hk
      have hgone : ∀ e ∈ rest, e.1 ≠ i := fun e he => by
        have := hrest e he
        omega
      have hclear : Table.clear rest i = rest := by
        clear ih hrest horest ho h
        induction rest with
        | nil => rfl
        | cons z zs ih =>
          rw [Table.clear, if_neg (hgone z List.mem_cons_self),
            ih fun e he => hgone e (List.mem_cons_of_mem z he)]
      rw [if_pos hk, overdueIn_cons, hclear, Option.some.inj h]
      omega
    · rename_i hk
      rw [if_neg hk, overdueIn_cons, overdueIn_cons]
      have := ih horest h
      omega

theorem overdueIn_mapValues (t : Table WheelRecord) (f : Nat → WheelRecord → WheelRecord)
    (hf : ∀ i r, (f i r).overdue = r.overdue) : overdueIn (t.mapValues f) = overdueIn t := by
  induction t with
  | nil => rfl
  | cons e rest ih =>
    obtain ⟨k, x⟩ := e
    have hcons : Table.mapValues ((k, x) :: rest) f = (k, f k x) :: Table.mapValues rest f := rfl
    rw [hcons, overdueIn_cons, overdueIn_cons, ih, hf]

/-! ## The fields outside the invariants -/

/-- A change of the port, the attention set, the clock, the supply, the queue, the sweep and the census cursor. -/
theorem Keeps.outer {s t : State} (ht : t = { s with
      port := t.port, attention := t.attention, clock := t.clock, supply := t.supply, pending := t.pending
      sweep := t.sweep, census := ⟨t.census.cursor, s.census.directed⟩ }) : Keeps s t := by
  rw [ht]
  exact ⟨fun h => h, fun _ h => h, fun _ h => h, fun _ h => h, fun _ h => h⟩

theorem Keeps.latch (s : State) (k : AttentionKind) : Keeps s (s.latch k) := Keeps.outer rfl

theorem Keeps.withPort (s : State) (x : BusPort) : Keeps s (s.withPort x) := Keeps.outer rfl

theorem Keeps.setPort (s : State) (p : PortId) (x : PortState) : Keeps s (s.setPort p x) := by
  obtain ⟨y, hy⟩ := s.setPort_port p x
  rw [hy]
  exact Keeps.withPort s y

/-! ## Records -/

/-- A live record stands at an index of the table. -/
theorem State.index_lt {s : State} {i : Nat} {r : WheelRecord} (hT : s.tablesCanonical = true)
    (hc : s.withinCapacity = true) (hr : s.record? i = some r) : i < 4096 :=
  (s.withinCapacity_iff.1 hc).1 (i, r) ((Table.read?_eq_some_iff (State.records_ordered hT) i r).1 hr)

/-- A live record replaced by one with its tag and its overdue mark. -/
theorem Keeps.setRecord {s : State} {i : Nat} {r r' : WheelRecord} (hr : s.record? i = some r)
    (htag : r'.tag = r.tag) (hover : r'.overdue = r.overdue) : Keeps s (s.setRecord i r') := by
  refine ⟨fun hT => ?tables, fun hT hc => ?capacity, fun hT hc tag j => ?tags, fun hT hc => ?overdue, fun _ h => h⟩
  case tables =>
    obtain ⟨hrecords, hrest⟩ := s.tablesCanonical_iff.1 hT
    exact (State.tablesCanonical_iff _).2 ⟨Table.ordered_write _ i r' hrecords, hrest⟩
  case capacity =>
    obtain ⟨hrecords, hrest⟩ := s.withinCapacity_iff.1 hc.1
    refine ⟨(State.withinCapacity_iff _).2 ⟨fun e he => ?_, hrest⟩, hc.2⟩
    rcases Table.mem_write he with he | he
    · rw [he]
      exact State.index_lt hT hc.1 hr
    · exact hrecords e he
  case tags =>
    have hj := hc tag j
    rw [State.record?_setRecord]
    split
    · rename_i hij
      rw [hij] at hj ⊢
      rw [hr] at hj
      refine hj.trans ⟨fun ⟨x, hx, hxt⟩ => ⟨r', rfl, ?_⟩, fun ⟨x, hx, hxt⟩ => ⟨r, rfl, ?_⟩⟩
      · rw [htag, Option.some.inj hx, hxt]
      · rw [← htag, Option.some.inj hx, hxt]
    · exact hj
  case overdue =>
    rw [State.overdueCounted_iff] at hc ⊢
    have hcount := overdueIn_write (State.records_ordered hT) hr r'
    rw [hover] at hcount
    exact hc.trans (Nat.add_right_cancel hcount).symm

theorem Keeps.updRecord (s : State) (i : Nat) {f : WheelRecord → WheelRecord}
    (htag : ∀ r, (f r).tag = r.tag) (hover : ∀ r, (f r).overdue = r.overdue) : Keeps s (s.updRecord i f) := by
  unfold State.updRecord
  split
  · exact Keeps.refl s
  · rename_i r hr
    exact Keeps.setRecord hr (htag r) (hover r)

/-- The candidate list keeps its rank and its length when candidates leave it. -/
theorem Keeps.candidates {s t : State} (ht : t = { s with candidates := t.candidates })
    (hl : t.candidates.Sublist s.candidates) : Keeps s t := by
  refine ⟨fun h => by rw [ht]; exact h, fun hT hc => ?capacity, fun _ h => by rw [ht]; exact h,
    fun _ h => by rw [ht]; exact h, fun _ h => by rw [ht]; exact h⟩
  obtain ⟨hcap, hranked, hdistinct⟩ := hc
  obtain ⟨hrecords, hlength, hrest⟩ := s.withinCapacity_iff.1 hcap
  refine ⟨?_, hranked.sublist hl, hdistinct.sublist (hl.map _)⟩
  rw [State.withinCapacity_iff, ht]
  exact ⟨hrecords, hl.length_le.trans hlength, hrest⟩

theorem Keeps.dropCandidate (s : State) (i : Nat) : Keeps s (s.dropCandidate i) :=
  Keeps.candidates rfl List.filter_sublist

theorem Keeps.addHold (s : State) (i : Nat) (h : HoldReason) : Keeps s (s.addHold i h) := by
  unfold State.addHold
  split
  · exact Keeps.refl s
  · rename_i r hr
    split
    · exact Keeps.refl s
    · exact (Keeps.setRecord (r' := { r with holds := r.holds.put h true }) hr rfl rfl).trans (Keeps.dropCandidate _ i)

theorem Keeps.removeHold (s : State) (i : Nat) (h : HoldReason) : Keeps s (s.removeHold i h) :=
  Keeps.updRecord s i (fun _ => rfl) fun _ => rfl

theorem Keeps.setClaim (s : State) (i : Nat) (c : Claim) : Keeps s (s.setClaim i c) :=
  Keeps.updRecord s i (fun _ => rfl) fun _ => rfl

/-- The overdue count follows the mark of one record. -/
theorem Keeps.setOverdue (s : State) (i : Nat) (b : Bool) : Keeps s (s.setOverdue i b) := by
  cases hr : s.record? i with
  | none =>
    rw [State.setOverdue_of_none hr]
    exact Keeps.refl s
  | some r =>
    have hrecords : (s.setOverdue i b).registry.records = s.registry.records.write i { r with overdue := b } := by
      unfold State.setOverdue
      rw [hr]
      dsimp only
      split <;> rfl
    have hframe : s.setOverdue i b = { s with
        registry := { s.registry with
          records := (s.setOverdue i b).registry.records, overdueCount := (s.setOverdue i b).registry.overdueCount }
        attention := (s.setOverdue i b).attention } := by
      unfold State.setOverdue
      rw [hr]
      dsimp only
      split <;> rfl
    refine ⟨fun hT => ?tables, fun hT hc => ?capacity, fun hT hc tag j => ?tags, fun hT hc => ?overdue,
      fun _ h => by rw [hframe]; exact h⟩
    case tables =>
      obtain ⟨hordered, hrest⟩ := s.tablesCanonical_iff.1 hT
      rw [hframe, State.tablesCanonical_iff]
      exact ⟨hrecords ▸ Table.ordered_write _ i _ hordered, hrest⟩
    case capacity =>
      obtain ⟨hbound, hrest⟩ := s.withinCapacity_iff.1 hc.1
      rw [hframe]
      refine ⟨(State.withinCapacity_iff _).2 ⟨fun e he => ?_, hrest⟩, hc.2⟩
      rcases Table.mem_write (hrecords ▸ he) with he | he
      · rw [he]
        exact State.index_lt hT hc.1 hr
      · exact hbound e he
    case tags =>
      have htagindex : (s.setOverdue i b).registry.tagIndex = s.registry.tagIndex := by rw [hframe]
      rw [State.record?_setOverdue, htagindex, hc tag j]
      split
      · rename_i hij
        simp [hij, hr]
      · rfl
    case overdue =>
      rw [State.overdueCounted_iff] at hc ⊢
      have hcount := overdueIn_write (State.records_ordered hT) hr { r with overdue := b }
      rw [hrecords, State.overdueCount_setOverdue hr b]
      cases hb : b <;> cases hover : r.overdue <;> simp [hb, hover] at hcount ⊢ <;> omega

/-! ## Slots -/

theorem Keeps.updSlot (s : State) (p : Nat) (f : SlotRecord → SlotRecord) : Keeps s (s.updSlot p f) := by
  refine ⟨fun hT => ?tables, fun _ h => h, fun _ h => h, fun _ h => h, fun _ h => h⟩
  obtain ⟨h1, h2, h3, h4, hslots, hrest⟩ := s.tablesCanonical_iff.1 hT
  exact (State.tablesCanonical_iff _).2
    ⟨h1, h2, h3, h4, Table.canonical_writeD _ (fun _ => SlotRecord.cold) p _ hslots, hrest⟩

theorem Keeps.reach (s : State) (p : Nat) : Keeps s (s.reach p) := Keeps.updSlot s p _

theorem Keeps.setEngaged (s : State) (p : Nat) (b : Bool) : Keeps s (s.setEngaged p b) := Keeps.updSlot s p _

theorem Keeps.setDestEngaged (s : State) (d : Option Nat) (b : Bool) : Keeps s (s.setDestEngaged d b) := by
  cases d with
  | none => exact Keeps.refl s
  | some p => exact Keeps.setEngaged s p b

theorem Keeps.unlocate (s : State) (i : Nat) : Keeps s (s.unlocate i) := by
  unfold State.unlocate
  split
  · exact Keeps.refl s
  · rename_i r hr
    split
    · exact Keeps.refl s
    · exact (Keeps.updSlot s _ _).trans (Keeps.setRecord (r := r) hr rfl rfl)

theorem Keeps.locateAt (s : State) (i : Nat) (p : Option Nat) : Keeps s (s.locateAt i p) := by
  cases p with
  | none => exact Keeps.refl s
  | some p => exact (Keeps.updSlot s p _).trans (Keeps.updRecord _ i (fun _ => rfl) fun _ => rfl)

theorem Keeps.moveRecord (s : State) (i : Nat) (p : Option Nat) : Keeps s (s.moveRecord i p) :=
  ((Keeps.unlocate s i).trans (Keeps.locateAt _ i p)).trans (Keeps.dropCandidate _ i)

theorem Keeps.unreachable (s : State) (p : Nat) : Keeps s (s.unreachable p) := by
  unfold State.unreachable
  dsimp only
  split
  · exact Keeps.updSlot s p _
  · refine Keeps.trans ?_ (Keeps.latch _ .slotBlocked)
    refine (Keeps.updSlot s p fun v => { v with count := Config.blockAt, condition := .blocked }).trans ?_
    split
    · exact Keeps.refl _
    · exact Keeps.addHold _ _ _

/-! ## Relocations -/

theorem Keeps.relocations {s t : State} (ht : t = { s with relocations := t.relocations })
    (hl : s.relocations.length ≤ 8 → t.relocations.length ≤ 8) : Keeps s t := by
  refine ⟨fun h => by rw [ht]; exact h, fun hT hc => ?capacity, fun _ h => by rw [ht]; exact h,
    fun _ h => by rw [ht]; exact h, fun _ h => by rw [ht]; exact h⟩
  obtain ⟨h1, h2, h3, h4, hlength, hrest⟩ := s.withinCapacity_iff.1 hc.1
  refine ⟨?_, by rw [ht]; exact hc.2⟩
  rw [State.withinCapacity_iff, ht]
  exact ⟨h1, h2, h3, h4, hl hlength, hrest⟩

theorem Keeps.setRelocation (s : State) (h : Nat) (st : RelocationState) : Keeps s (s.setRelocation h st) :=
  Keeps.relocations rfl fun hl => by rwa [State.setRelocation, List.length_map]

theorem Keeps.endRelocation (s : State) (h : Nat) : Keeps s (s.endRelocation h) := by
  unfold State.endRelocation
  split
  · exact Keeps.refl s
  · refine Keeps.trans (Keeps.relocations (t := { s with
      relocations := s.relocations.filter fun q => decide (q.wheel ≠ h) }) rfl fun hl =>
        (List.length_filter_le _ _).trans hl) ?_
    exact (Keeps.updSlot _ _ _).trans (Keeps.updRecord _ _ (fun _ => rfl) fun _ => rfl)

theorem Keeps.queueRelocation {s : State} (i p : Nat) (h : s.relocations.length < 8) :
    Keeps s (s.queueRelocation i p) := by
  unfold State.queueRelocation
  refine Keeps.trans (Keeps.relocations (t := { s with
    relocations := s.relocations ++ [Relocation.mk (s.handleOf i) p .queued] }) rfl fun _ => ?_) ?_
  · rw [List.length_append]
    exact h
  · exact (Keeps.updSlot _ _ _).trans (Keeps.updRecord _ _ (fun _ => rfl) fun _ => rfl)

/-! ## Visits -/

theorem Keeps.releaseVisit (s : State) (v : Visit) : Keeps s (s.releaseVisit v) := by
  unfold State.releaseVisit
  dsimp only
  refine Keeps.trans ?_ (Keeps.setDestEngaged _ v.dest false)
  refine Keeps.trans ?_ (Keeps.setEngaged _ v.source false)
  cases v.wheel with
  | none => exact Keeps.refl s
  | some h =>
    cases v.dest with
    | none => exact Keeps.setClaim s _ _
    | some d => exact (Keeps.setClaim s _ _).trans (Keeps.setRelocation _ _ _)

theorem Keeps.engageVisit (s : State) (v : Visit) : Keeps s (s.engageVisit v) := by
  unfold State.engageVisit
  dsimp only
  refine Keeps.trans ?_ (Keeps.setDestEngaged _ v.dest true)
  refine Keeps.trans ?_ (Keeps.setEngaged _ v.source true)
  cases v.wheel with
  | none => exact Keeps.refl s
  | some h =>
    have hclaim := (Keeps.setClaim s (handleIndex h) .claimed).trans (Keeps.dropCandidate _ (handleIndex h))
    cases v.dest with
    | none => exact hclaim
    | some d => exact hclaim.trans (Keeps.setRelocation _ _ _)

theorem Keeps.doubtVisit (s : State) (v : Visit) : Keeps s (s.doubtVisit v) := by
  unfold State.doubtVisit
  split
  · exact Keeps.refl s
  · exact (Keeps.addHold s _ _).trans (Keeps.latch _ _)

theorem Keeps.closeVisit (s : State) (v : Visit) : Keeps s (s.closeVisit v) := by
  unfold State.closeVisit
  split
  · exact Keeps.releaseVisit s v
  · exact (Keeps.releaseVisit s v).trans (Keeps.doubtVisit _ v)
  · exact Keeps.refl s

/-! ## The window -/

/-- A change of the dispatcher that keeps its window within bounds and its settings in range. -/
theorem Keeps.dispatcher {s t : State} (ht : t = { s with dispatcher := t.dispatcher })
    (hset : s.dispatcher.settings.clamped = s.dispatcher.settings →
      t.dispatcher.settings.clamped = t.dispatcher.settings)
    (hw : s.dispatcher.window.length ≤ 4 → t.dispatcher.window.length ≤ 4)
    (hv : (∀ o ∈ s.dispatcher.window, o.visits.length ≤ 8) → ∀ o ∈ t.dispatcher.window, o.visits.length ≤ 8) :
    Keeps s t := by
  refine ⟨fun h => by rw [ht]; exact h, fun hT hc => ?capacity, fun _ h => by rw [ht]; exact h,
    fun _ h => by rw [ht]; exact h, fun _ h => ?legal⟩
  case capacity =>
    obtain ⟨h1, h2, hwindow, hvisits, hrest⟩ := s.withinCapacity_iff.1 hc.1
    refine ⟨?_, by rw [ht]; exact hc.2⟩
    rw [State.withinCapacity_iff, ht]
    exact ⟨h1, h2, hw hwindow, hv hvisits, hrest⟩
  case legal =>
    obtain ⟨hpoller, hclasses, hdispatch, hrest⟩ := h
    rw [ht]
    exact ⟨hpoller, hclasses, hset hdispatch, hrest⟩

/-- A window mapped order by order. -/
theorem Keeps.mapOrders {s t : State} {f : Order → Order} (ht : t = { s with dispatcher := { s.dispatcher with
      window := s.dispatcher.window.map f } }) (hf : ∀ o, (f o).visits.length = o.visits.length) : Keeps s t := by
  rw [ht]
  refine Keeps.dispatcher rfl id (fun h => by rwa [List.length_map]) fun h o ho => ?_
  obtain ⟨x, hx, rfl⟩ := List.mem_map.1 ho
  rw [hf]
  exact h x hx

theorem Keeps.updOrder (s : State) (n : Nat) {f : Order → Order} (hf : ∀ o, (f o).visits.length = o.visits.length) :
    Keeps s (s.updOrder n f) :=
  Keeps.mapOrders rfl fun o => by
    split
    · exact hf o
    · rfl

theorem Order.length_updVisit (o : Order) (v : Nat) (f : Visit → Visit) :
    (o.updVisit v f).visits.length = o.visits.length := by
  rw [Order.updVisit, List.length_map]

theorem Keeps.loadTimer (s : State) (n k : Nat) : Keeps s (s.loadTimer n k) := Keeps.updOrder s n fun _ => rfl

theorem Keeps.setVisitState (s : State) (n v : Nat) (st : VisitState) : Keeps s (s.setVisitState n v st) :=
  Keeps.updOrder s n fun o => o.length_updVisit v _

theorem Keeps.filterWindow {s t : State} {p : Order → Bool} (ht : t = { s with dispatcher := { s.dispatcher with
      window := s.dispatcher.window.filter p } }) : Keeps s t := by
  rw [ht]
  exact Keeps.dispatcher rfl id (fun h => (List.length_filter_le _ _).trans h)
    fun h o ho => h o (List.mem_of_mem_filter ho)

theorem Keeps.dropOrder (s : State) (n : Nat) : Keeps s (s.dropOrder n) := Keeps.filterWindow rfl

theorem Keeps.closeOrder (s : State) (o : Order) : Keeps s (s.closeOrder o) :=
  (Keeps.foldl _ (fun u v _ => Keeps.closeVisit u v) s).trans (Keeps.dropOrder _ _)

theorem Keeps.withdrawVisits (s : State) (o : Order) : Keeps s (s.withdrawVisits o) := by
  refine Keeps.foldl o.visits (fun u v _ => ?_) s
  split
  · exact Keeps.refl u
  · exact Keeps.releaseVisit u v

/-- An order is issued into a window with room, over at most eight visits. -/
theorem Keeps.issue {s : State} (k : OrderKind) (a : Nat) {vs : List Visit} (hroom : s.dispatcher.window.length < 4)
    (hvs : vs.length ≤ 8) : Keeps s (s.issue k a vs).1 := by
  unfold State.issue
  dsimp only
  refine Keeps.trans ?_ (Keeps.foldl vs (fun u v _ => Keeps.engageVisit u v) _)
  refine Keeps.dispatcher rfl id (fun _ => ?_) fun h o ho => ?_
  · rw [List.length_append]
    exact hroom
  · rcases List.mem_append.1 ho with ho | ho
    · exact h o ho
    · rw [List.mem_singleton.1 ho]
      exact hvs

/-! ## Discrepancies -/

theorem Keeps.discrepancies {s t : State} (ht : t = { s with discrepancies := t.discrepancies })
    (ho : s.discrepancies.ordered = true → t.discrepancies.ordered = true)
    (hl : (∀ e ∈ s.discrepancies, e.1 < 16) → ∀ e ∈ t.discrepancies, e.1 < 16) : Keeps s t := by
  refine ⟨fun hT => ?tables, fun hT hc => ?capacity, fun _ h => by rw [ht]; exact h,
    fun _ h => by rw [ht]; exact h, fun _ h => by rw [ht]; exact h⟩
  case tables =>
    obtain ⟨h1, h2, h3, h4, h5, h6, h7, hordered, hrest⟩ := s.tablesCanonical_iff.1 hT
    rw [State.tablesCanonical_iff, ht]
    exact ⟨h1, h2, h3, h4, h5, h6, h7, ho hordered, hrest⟩
  case capacity =>
    obtain ⟨h1, h2, h3, h4, h5, h6, hpositions⟩ := s.withinCapacity_iff.1 hc.1
    refine ⟨?_, by rw [ht]; exact hc.2⟩
    rw [State.withinCapacity_iff, ht]
    exact ⟨h1, h2, h3, h4, h5, h6, hl hpositions⟩

theorem Keeps.clearEntry (s : State) (k : Nat) : Keeps s (s.clearEntry k) :=
  Keeps.discrepancies rfl (Table.ordered_clear _ k) fun h e he => h e (Table.mem_clear he)

theorem Keeps.releasePairs (s : State) (l : List (Nat × HoldReason)) : Keeps s (s.releasePairs l) := by
  refine Keeps.foldl l (fun u q _ => ?_) s
  unfold State.releasePair
  split
  · exact Keeps.removeHold u _ _
  · exact Keeps.refl u

theorem Keeps.placePairs (s : State) (l : List (Nat × HoldReason)) : Keeps s (l.foldl State.placePair s) := by
  refine Keeps.foldl l (fun u q _ => ?_) s
  unfold State.placePair
  split
  · exact Keeps.addHold u _ _
  · exact Keeps.dropCandidate u _

theorem Keeps.dismissEntry (s : State) (p : Nat) : Keeps s (s.dismissEntry p) := by
  unfold State.dismissEntry
  split
  · exact Keeps.refl s
  · exact (Keeps.clearEntry s _).trans (Keeps.releasePairs _ _)

/-- The table with an entry written at one of its sixteen positions. -/
def State.putEntry (s : State) (k : Nat) (e : Discrepancy) : State :=
  { s with discrepancies := s.discrepancies.write k e }

theorem Keeps.putEntry {s : State} {k : Nat} (hk : s.tablesCanonical = true → s.bounded → k < 16) (e : Discrepancy) :
    Keeps s (s.putEntry k e) := by
  refine ⟨fun hT => ?tables, fun hT hc => ?capacity, fun _ h => h, fun _ h => h, fun _ h => h⟩
  case tables =>
    obtain ⟨h1, h2, h3, h4, h5, h6, h7, hordered, hrest⟩ := s.tablesCanonical_iff.1 hT
    exact (State.tablesCanonical_iff _).2 ⟨h1, h2, h3, h4, h5, h6, h7, Table.ordered_write _ k e hordered, hrest⟩
  case capacity =>
    obtain ⟨h1, h2, h3, h4, h5, h6, hpositions⟩ := s.withinCapacity_iff.1 hc.1
    refine ⟨(State.withinCapacity_iff _).2 ⟨h1, h2, h3, h4, h5, h6, fun x hx => ?_⟩, hc.2⟩
    rcases Table.mem_write hx with hx | hx
    · rw [hx]
      exact hk hT hc
    · exact hpositions x hx

theorem Keeps.writeEntry {s : State} {k : Nat} (hk : s.tablesCanonical = true → s.bounded → k < 16) (e : Discrepancy)
    (old : Option Discrepancy) : Keeps s (s.writeEntry k e old) := by
  unfold State.writeEntry
  dsimp only
  refine Keeps.trans ?_ (Keeps.latch _ _)
  refine Keeps.trans ?_ (Keeps.placePairs _ _)
  cases old with
  | none => exact Keeps.putEntry hk e
  | some o => exact (Keeps.putEntry hk e).trans (Keeps.releasePairs _ _)

theorem Keeps.tableFull (s : State) (p : Nat) (f : Finding) : Keeps s (s.tableFull p f) :=
  ((Keeps.placePairs s _).trans (Keeps.updSlot _ _ _)).trans (Keeps.latch _ _)

/-- The entry at a slot stands in the table. -/
theorem State.entryAt?_mem {s : State} {p k : Nat} {e : Discrepancy} (h : s.entryAt? p = some (k, e)) :
    (k, e) ∈ s.discrepancies ∧ e.slot = p := by
  refine ⟨List.mem_of_find?_eq_some h, ?_⟩
  simpa using List.find?_some h

/-- The position of an entry is one of the table's. -/
theorem State.entryAt?_lt {s : State} {p k : Nat} {e : Discrepancy} (h : s.entryAt? p = some (k, e))
    (hc : s.withinCapacity = true) : k < 16 := by
  obtain ⟨-, -, -, -, -, -, hpositions⟩ := s.withinCapacity_iff.1 hc
  exact hpositions _ (State.entryAt?_mem h).1

theorem State.freePosition?_lt {s : State} {k : Nat} (h : s.freePosition? = some k) : k < 16 := by
  unfold State.freePosition? at h
  dsimp only at h
  split at h
  · rename_i hlt
    exact Option.some.inj h ▸ hlt
  · cases h

theorem Keeps.enterFinding (s : State) (p : Nat) (f : Finding) : Keeps s (s.enterFinding p f) := by
  unfold State.enterFinding
  split
  · rename_i k old he
    exact Keeps.writeEntry (fun _ hc => State.entryAt?_lt he hc.1) _ _
  · split
    · rename_i k hk
      exact Keeps.writeEntry (fun _ _ => State.freePosition?_lt hk) _ _
    · exact Keeps.tableFull s p f

theorem Keeps.confirm (s : State) (p : Nat) : Keeps s (s.confirm p) := by
  unfold State.confirm
  dsimp only
  refine Keeps.trans ?_ (Keeps.updSlot _ _ _)
  refine (Keeps.dismissEntry s p).trans ?_
  split
  · exact Keeps.refl _
  · exact (Keeps.removeHold _ _ _).trans (Keeps.removeHold _ _ _)

theorem Keeps.compare (s : State) (p : Nat) (rep : TagReport) : Keeps s (s.compare p rep).1 := by
  unfold State.compare
  dsimp only
  split
  · exact (Keeps.updSlot s p _).trans (Keeps.confirm _ p)
  · exact (Keeps.updSlot s p _).trans (Keeps.enterFinding _ p _)

/-! ## Candidates offered -/

theorem Keeps.offer (s : State) (c : Candidate) : Keeps s (s.offer c) := by
  refine ⟨fun h => h, fun hT hc => ?capacity, fun _ h => h, fun _ h => h, fun _ h => h⟩
  obtain ⟨hcap, hranked, hdistinct⟩ := hc
  obtain ⟨hrecords, hlength, hrest⟩ := s.withinCapacity_iff.1 hcap
  refine ⟨(State.withinCapacity_iff _).2 ⟨hrecords, length_offerTo_le hlength, hrest⟩,
    offerTo_ranked hranked hlength, ?_⟩
  obtain hsame | ⟨k, hsub, -, hother, hins⟩ := offerTo_cases (c := c) hlength
  · rw [State.offer, hsame]
    exact hdistinct
  · rw [State.offer, hins]
    refine ((rankInsert_perm c k).map _).nodup_iff.2 ?_
    rw [List.map_cons, List.nodup_cons]
    refine ⟨fun hmem => ?_, hdistinct.sublist (hsub.map _)⟩
    obtain ⟨d, hd, he⟩ := List.mem_map.1 hmem
    exact hother d hd he

end Sys2Proof.Machine

/-! SUPPORT. What each owner and each event keeps, composed of what its operations keep; and O4, O5 and O6, which follow
for every step. -/

namespace Sys2Proof.Machine

/-! ## Starts -/

theorem State.tablesCanonical_warmConverted {s : State} (h : s.tablesCanonical = true) :
    s.warmConverted.tablesCanonical = true := by
  obtain ⟨h1, h2, h3, h4, hslots, h6, h7, h8, hsensors, hzones⟩ := s.tablesCanonical_iff.1 h
  exact (State.tablesCanonical_iff _).2 ⟨Table.ordered_mapValues _ (fun _ (r : WheelRecord) => r.afterWarm) h1, h2, h3, h4,
    Table.canonical_mapD _ (fun _ => SlotRecord.cold) (fun _ v => { v with engaged := false })
      (Table.ordered_of_canonical hslots), h6, h7, h8,
    Table.canonical_mapD _ (fun _ => SensorEntry.cold) (fun _ e => e.afterWarm) (Table.ordered_of_canonical hsensors),
    Table.canonical_mapD _ (fun _ => Zone.cold) (fun _ z => z.afterWarm) (Table.ordered_of_canonical hzones)⟩

theorem WheelRecord.afterWarm_fields (r : WheelRecord) : r.afterWarm.tag = r.tag ∧ r.afterWarm.overdue = r.overdue ∧
    r.afterWarm.location = r.location ∧ r.afterWarm.claim = .none ∧
    r.afterWarm.relocationPending = r.relocationPending := by
  unfold WheelRecord.afterWarm
  split <;> simp_all

theorem Keeps.warmStart (s : State) : Keeps s s.warmStart := by
  refine ⟨fun hT => ?tables, fun hT hc => ?capacity, fun hT hc tag i => ?tags, fun hT hc => ?overdue,
    fun hT h => ?legal⟩
  case tables =>
    have h := State.tablesCanonical_warmConverted hT
    unfold State.warmStart
    dsimp only
    split
    · exact h
    · obtain ⟨h1, h2, h3, h4, h5, h6, h7, h8, h9, hzones⟩ := State.tablesCanonical_iff _ |>.1 h
      exact (State.tablesCanonical_iff _).2 ⟨h1, h2, h3, h4, h5, h6, h7, h8, h9,
        Table.canonical_mapD _ (fun _ => Zone.cold) (fun _ z => z.activate) (Table.ordered_of_canonical hzones)⟩
  case capacity =>
    obtain ⟨hrecords, -, -, -, hrelocations, hcensus, hpositions⟩ := s.withinCapacity_iff.1 hc.1
    obtain ⟨hreg, -, -, hcand, hdisp, hreloc, -, -⟩ := s.warmStart_kept
    obtain ⟨-, -, -, hcen, hdisc, -, -⟩ := s.warmStart_fields
    refine ⟨(State.withinCapacity_iff _).2 ?_, ?_, ?_⟩
    · rw [hreg, hcand, hdisp, hreloc, hcen, hdisc]
      refine ⟨fun e he => ?_, Nat.zero_le _, Nat.zero_le _, fun o ho => (by cases ho), ?_, hcensus, hpositions⟩
      · obtain ⟨x, hx, rfl⟩ := List.mem_map.1 he
        exact hrecords x hx
      · simpa [State.warmConverted] using hrelocations
    · rw [hcand]
      exact .nil
    · rw [hcand]
      exact .nil
  case tags =>
    have htagindex : s.warmStart.registry.tagIndex = s.registry.tagIndex := by
      rw [s.warmStart_kept.1]
      rfl
    rw [htagindex, State.record?_warmStart, hc tag i]
    simp [(WheelRecord.afterWarm_fields _).1]
  case overdue =>
    rw [State.overdueCounted_iff] at hc ⊢
    rw [s.warmStart_kept.1]
    exact hc.trans (overdueIn_mapValues _ _ fun _ r => r.afterWarm_fields.2.1).symm
  case legal =>
    obtain ⟨hpoller, hclasses, hdispatch, hpoll, hactive, hstaged, hracks, hnumbers, hwindows, hsensors, hdistinct⟩ := h
    have hround : s.warmConverted.startPoller.RoundLegal := by
      refine ⟨by simp [State.startPoller], Nat.zero_le 8, hpoll, fun z => ?_, ?_⟩
      · have hz : s.warmConverted.startPoller.zone z = (s.zone z).afterWarm := State.zone_warmConverted hT z
        rw [hz]
        exact ⟨hactive z, hstaged z⟩
      · refine State.sensorsLegal_of_places (s := s) ⟨hsensors, hdistinct⟩ fun e => ?_
        have he : s.warmConverted.startPoller.sensor e = (s.sensor e).afterWarm := State.sensor_warmConverted hT e
        rw [he]
        exact ⟨rfl, rfl⟩
    have hcanonical := State.climateCanonical_of_tables (State.tablesCanonical_warmConverted hT)
    have hlegal : s.warmStart.ClimateLegal := by
      unfold State.warmStart
      dsimp only
      split
      · exact hround.climate (by simp [State.startPoller]) (by simp [State.startPoller])
      · exact State.RoundLegal.stop (s := s.warmConverted.startPoller) hcanonical hround
    obtain ⟨-, hshelf, -, -, hdisp, -, -, -⟩ := s.warmStart_kept
    have hracks' : s.warmStart.shelf.racks = s.shelf.racks := by rw [hshelf]; rfl
    have hwindows' : s.warmStart.shelf.windows = s.shelf.windows := by rw [hshelf]; rfl
    have hset : s.warmStart.dispatcher.settings = s.dispatcher.settings := by rw [hdisp]; rfl
    refine ⟨hlegal.poller, ?_, hset ▸ hdispatch, hlegal.settings, fun z => (hlegal.zones z).1,
      fun z => (hlegal.zones z).2, ?_, ?_, ?_, hlegal.sensors.1, hlegal.sensors.2⟩
    · simpa [State.classRecord] using hclasses
    · simpa only [State.rackRecord, hracks'] using hracks
    · simpa only [State.rackRecord, hracks'] using hnumbers
    · simpa only [State.window, hwindows'] using hwindows

theorem Keeps.coldStart (s : State) : Keeps s s.coldStart := by
  obtain ⟨hcanonical, hcapacity, hranked, htags, -⟩ := worksAgree_reset
  have hpoller : State.reset.pollerLegal := ⟨by decide, fun _ _ => rfl, by decide, by decide⟩
  exact ⟨fun _ => hcanonical, fun _ _ => ⟨hcapacity, hranked⟩, fun _ _ => htags, fun _ _ => (by decide :
    State.reset.overdueCounted = true), fun _ _ => ⟨hpoller, settingsLegal_reset⟩⟩

theorem Keeps.start (s : State) : Keeps s s.start := by
  unfold State.start
  split
  · exact Keeps.coldStart s
  · exact Keeps.warmStart s

theorem Keeps.powerUp (s : State) (a b : Bool) : Keeps s (s.powerUp a b) := by
  have hsupply : Keeps s { s with supply := { s.supply with mainPower := true, addr1 := a, addr0 := b } } :=
    Keeps.outer rfl
  unfold State.powerUp
  dsimp only
  split
  · exact hsupply
  · exact hsupply.trans (Keeps.start _)

theorem Keeps.resetRelease (s : State) (a b : Bool) : Keeps s (s.resetRelease a b) := by
  have hsupply : Keeps s { s with supply := { s.supply with resetLow := false, addr1 := a, addr0 := b } } :=
    Keeps.outer rfl
  unfold State.resetRelease
  split
  · dsimp only
    split
    · exact hsupply.trans (Keeps.start _)
    · exact hsupply
  · exact Keeps.refl s

/-! ## The port -/

theorem Keeps.serve {s : State} {p : PortId} {c : Instr} {owner : State → State × Reply}
    (ho : ∀ u, Keeps u (owner u).1) : Keeps s (s.serve p c owner) := by
  obtain h | ⟨x, y, h | h⟩ := s.serve_cases p c owner
  · rw [h]
    exact Keeps.refl s
  · rw [h]
    exact ((Keeps.withPort s x).trans (ho _)).trans (Keeps.withPort _ y)
  · rw [h]
    exact (((Keeps.withPort s x).trans (ho _)).trans (Keeps.withPort _ y)).trans (Keeps.warmStart _)

theorem Keeps.sendReply (s : State) (a : Reply) (r : ReplyReader) : Keeps s (s.sendReply a r) := by
  obtain ⟨y, h | h⟩ := s.sendReply_cases a r
  · rw [h]
    exact Keeps.withPort s y
  · rw [h]
    exact (Keeps.withPort s y).trans (Keeps.warmStart _)

theorem Keeps.takeMalformed (s : State) (p : PortId) : Keeps s (s.takeMalformed p) := by
  obtain h | ⟨st, h⟩ := s.takeMalformed_cases p
  · rw [h]
    exact Keeps.refl s
  · rw [h]
    obtain ⟨x, y, hs | hs⟩ := s.ownerTakes_cases p fun u => u.refuse st
    · rw [hs]
      exact (Keeps.withPort s x).trans (Keeps.withPort _ y)
    · rw [hs]
      exact ((Keeps.withPort s x).trans (Keeps.withPort _ y)).trans (Keeps.warmStart _)

theorem Keeps.ownersTake (s : State) : Keeps s s.ownersTake := by
  unfold State.ownersTake
  split
  · exact (Keeps.takeMalformed s .registry).trans (Keeps.takeMalformed _ .turner)
  · exact Keeps.refl s

theorem Keeps.secondPassed (s : State) : Keeps s s.secondPassed := by
  have hclock : ∀ u : State, Keeps u { u with
      clock := { u.clock with second := min 60 (u.clock.second + 1) }
      pending := u.pending ++ (if u.operating then u.dueExpiries else []) } := fun u => Keeps.outer rfl
  refine Keeps.trans ?_ (hclock s.countersPassed)
  unfold State.countersPassed
  split
  · refine Keeps.trans (t := { s with poller := s.poller.secondPassed }) ?_ (Keeps.mapOrders rfl fun _ => rfl)
    refine ⟨fun h => h, fun _ h => h, fun _ h => h, fun _ h => h, fun _ h => ⟨?_, h.2⟩⟩
    obtain ⟨htimer, hstaged, heval, hretries⟩ := h.1
    refine ⟨htimer.trans ?_, hstaged, heval, hretries⟩
    simp [Poller.secondPassed]
  · exact Keeps.refl s

theorem Keeps.discardKept (s : State) (p : PortId) : Keeps s (s.discardKept p) := by
  obtain ⟨x, hx⟩ := s.discardKept_port p
  rw [hx]
  exact Keeps.withPort s x

theorem Keeps.takeFrame (s : State) (p : PortId) (f : List Byte) : Keeps s (s.takeFrame p f) := by
  unfold State.takeFrame
  split <;> exact (Keeps.discardKept s p).trans (Keeps.setPort _ _ _)

theorem Keeps.writeEnded (s : State) (p : PortId) (l : List Byte) : Keeps s (s.writeEnded p l) := by
  have hacks : ∀ n, Keeps s (s.acks n) := fun _ => Keeps.outer rfl
  unfold State.writeEnded
  split
  · exact hacks 0
  · split
    · exact hacks _
    · exact (hacks _).trans (Keeps.takeFrame _ _ _)

theorem Keeps.readBegun (s : State) (r : ReplyReader) : Keeps s (s.readBegun r) := by
  unfold State.readBegun
  split
  · exact Keeps.outer rfl
  · exact Keeps.outer rfl
  · exact Keeps.sendReply s _ r
  · exact Keeps.sendReply s _ r
  · exact Keeps.outer rfl

theorem Keeps.readAt (s : State) (a n : Nat) : Keeps s (s.readAt a n) := by
  unfold State.readAt
  split
  · exact Keeps.outer rfl
  · exact Keeps.trans (Keeps.outer rfl) (Keeps.readBegun _ _)

theorem Keeps.holdEnded (s : State) : Keeps s s.holdEnded := by
  unfold State.holdEnded
  split
  · exact Keeps.refl s
  · exact Keeps.outer rfl

/-! ## The poller and the zone monitor -/

/-- What keeps the poller and the zones legal keeps everything. -/
theorem ClimateKept.keeps {s t : State} (h : ClimateKept s t) : Keeps s t := by
  have hframe := h.frame
  refine ⟨fun hT => ?tables, fun _ hc => by rw [hframe]; exact hc, fun _ hc => by rw [hframe]; exact hc,
    fun _ hc => by rw [hframe]; exact hc, fun hT hl => ?legal⟩
  case tables =>
    obtain ⟨h1, h2, h3, h4, h5, h6, h7, h8, -, -⟩ := s.tablesCanonical_iff.1 hT
    obtain ⟨hsensors, hzones⟩ := h.canonical (State.climateCanonical_of_tables hT)
    rw [State.tablesCanonical_iff]
    refine ⟨?_, ?_, ?_, ?_, ?_, ?_, ?_, ?_, hsensors, hzones⟩ <;> rw [hframe] <;> assumption
  case legal =>
    obtain ⟨hpoller, hclasses, hdispatch, hpoll, hactive, hstaged, hracks, hnumbers, hwindows, hsensors, hdistinct⟩ :=
      hl
    have hc := h.legal (State.climateCanonical_of_tables hT)
      ⟨hpoller, hpoll, fun z => ⟨hactive z, hstaged z⟩, hsensors, hdistinct⟩
    refine ⟨hc.poller, ?_, ?_, hc.settings, fun z => (hc.zones z).1, fun z => (hc.zones z).2, ?_, ?_, ?_,
      hc.sensors.1, hc.sensors.2⟩ <;> rw [hframe]
    · exact hclasses
    · exact hdispatch
    · exact hracks
    · exact hnumbers
    · exact hwindows

/-! ## The registry and the map -/

/-- A record written at a free index, under a tag that no record has. -/
theorem Keeps.admitAt {s : State} {i : Nat} {r : WheelRecord} (hi : i < 4096)
    (hfree : s.tablesCanonical = true → s.record? i = none) (htag : s.registry.tagIndex.read? r.tag = none)
    (hover : r.overdue = false) : Keeps s (s.admitAt i r) := by
  refine ⟨fun hT => ?tables, fun hT hc => ?capacity, fun hT hc tag j => ?tags, fun hT hc => ?overdue, fun _ h => h⟩
  case tables =>
    obtain ⟨h1, h2, h3, hrest⟩ := s.tablesCanonical_iff.1 hT
    exact (State.tablesCanonical_iff _).2 ⟨Table.ordered_write _ i r h1, h2, Table.ordered_write _ r.tag i h3, hrest⟩
  case capacity =>
    obtain ⟨hrecords, hrest⟩ := s.withinCapacity_iff.1 hc.1
    refine ⟨(State.withinCapacity_iff _).2 ⟨fun e he => ?_, hrest⟩, hc.2⟩
    rcases Table.mem_write he with he | he
    · rw [he]
      exact hi
    · exact hrecords e he
  case tags =>
    have hrec : (s.admitAt i r).record? j = if j = i then some r else s.record? j := Table.read?_write _ i j r
    have hidx : (s.admitAt i r).registry.tagIndex.read? tag =
        if tag = r.tag then some i else s.registry.tagIndex.read? tag := Table.read?_write _ r.tag tag i
    rw [hrec, hidx]
    by_cases hj : j = i
    · subst hj
      rw [if_pos rfl]
      by_cases ht : tag = r.tag
      · simp [ht]
      · rw [if_neg ht, hc tag j, hfree hT]
        simp [Ne.symm ht]
    · rw [if_neg hj]
      by_cases ht : tag = r.tag
      · have hnone := hc r.tag j
        rw [htag] at hnone
        rw [if_pos ht, ht, ← hnone]
        simp [Ne.symm hj]
      · rw [if_neg ht, hc tag j]
  case overdue =>
    rw [State.overdueCounted_iff] at hc ⊢
    have hcount := overdueIn_write_new (hfree hT) r
    rw [hover] at hcount
    exact hc.trans (hcount.trans (Nat.zero_add _)).symm

theorem Keeps.ownAdmit (tag cls day : Nat) (l : LSlot) (w : Nat) (lt lb : TimeField) (s : State) :
    Keeps s (State.ownAdmit tag cls day l w lt lb s).1 := by
  unfold State.ownAdmit
  split
  · exact Keeps.refl s
  rename_i hpass
  dsimp only
  unfold State.admitRefusal at hpass
  split at hpass
  · cases hpass
  split at hpass
  · cases hpass
  split at hpass
  · cases hpass
  rename_i htag
  split at hpass
  · cases hpass
  rename_i hroom
  obtain ⟨i, hi⟩ := Option.ne_none_iff_exists'.1 hroom
  rw [hi, Option.getD_some]
  have hlt : i < 4096 := by
    unfold State.lowestFree? at hi
    dsimp only at hi
    split at hi
    · rename_i hlow
      exact Option.some.inj hi ▸ hlow
    · cases hi
  refine Keeps.trans (Keeps.admitAt hlt (fun hT => ?_) ?_ rfl) (Keeps.locateAt _ i _)
  · exact (State.lowestFree?_spec (State.records_ordered hT) hi).2.1
  · simpa [admittedRecord] using htag

/-- The record, its overdue mark, its tag and its handle leave together. -/
theorem Keeps.clearRecord {s : State} {i g : Nat} {r : WheelRecord} (hr : s.record? i = some r)
    (hover : r.overdue = false) (h : Nat) : Keeps s { s with
      registry := { s.registry with
        records := s.registry.records.clear i
        generations := s.registry.generations.writeD 0 i g
        tagIndex := s.registry.tagIndex.clear r.tag }
      discrepancies := s.discrepancies.mapValues fun _ e => e.forget h } := by
  refine ⟨fun hT => ?tables, fun hT hc => ?capacity, fun hT hc tag j => ?tags, fun hT hc => ?overdue, fun _ h => h⟩
  case tables =>
    obtain ⟨h1, h2, h3, h4, h5, h6, h7, h8, hrest⟩ := s.tablesCanonical_iff.1 hT
    exact (State.tablesCanonical_iff _).2 ⟨Table.ordered_clear _ i h1, Table.canonical_writeD _ (fun _ => 0) i g h2,
      Table.ordered_clear _ r.tag h3, h4, h5, h6, h7, Table.ordered_mapValues _ (fun _ e => e.forget h) h8, hrest⟩
  case capacity =>
    obtain ⟨hrecords, h2, h3, h4, h5, h6, hpositions⟩ := s.withinCapacity_iff.1 hc.1
    refine ⟨(State.withinCapacity_iff _).2 ⟨fun e he => hrecords e (Table.mem_clear he), h2, h3, h4, h5, h6,
      fun e he => ?_⟩, hc.2⟩
    obtain ⟨x, hx, rfl⟩ := List.mem_map.1 he
    exact hpositions x hx
  case tags =>
    have hread := Table.read?_clear s.registry.records i j
    have hindex := Table.read?_clear s.registry.tagIndex r.tag tag
    have hself := hc r.tag i
    have hj := hc tag j
    have hrj := hc r.tag j
    simp only [State.record?] at hr hself hj hrj ⊢
    rw [hread, hindex]
    rw [hr] at hself
    have hi : s.registry.tagIndex.read? r.tag = some i := hself.2 ⟨r, rfl, rfl⟩
    by_cases hji : j = i
    · subst hji
      rw [if_pos rfl]
      by_cases ht : tag = r.tag
      · simp [ht]
      · rw [if_neg ht, hj, hr]
        simp [Ne.symm ht]
    · rw [if_neg hji]
      by_cases ht : tag = r.tag
      · rw [hi] at hrj
        rw [if_pos ht, ht, ← hrj]
        simp [Ne.symm hji]
      · rw [if_neg ht, hj]
  case overdue =>
    rw [State.overdueCounted_iff] at hc ⊢
    have hcount := overdueIn_clear (State.records_ordered hT) hr
    rw [hover] at hcount
    exact hc.trans hcount.symm

theorem Keeps.retireRecord {s : State} {i : Nat} {r : WheelRecord} (hr : s.record? i = some r) :
    Keeps s (s.retireRecord i r) := by
  have hbefore : Keeps s ((((s.unlocate i).dropCandidate i).endRelocation (s.handleOf i)).setOverdue i false) :=
    (((Keeps.unlocate s i).trans (Keeps.dropCandidate _ i)).trans (Keeps.endRelocation _ _)).trans
      (Keeps.setOverdue _ i false)
  have hlive : ∃ x, ((((s.unlocate i).dropCandidate i).endRelocation (s.handleOf i)).setOverdue i false).record? i =
      some x ∧ x.tag = r.tag ∧ x.overdue = false := by
    simp only [State.record?_setOverdue, State.record?_endRelocation, State.dropCandidate_views,
      State.record?_unlocate, hr, if_true, Option.map_some]
    split <;> exact ⟨_, rfl, rfl, rfl⟩
  obtain ⟨x, hx, htag, hover⟩ := hlive
  refine hbefore.trans ?_
  have hclear := Keeps.clearRecord (g := (s.generation i + 1) % 16) hx hover (s.handleOf i)
  rw [htag] at hclear
  unfold State.retireRecord
  dsimp only
  exact hclear

theorem Keeps.erase (s : State) : Keeps s s.erase := by
  refine ⟨fun hT => ?tables, fun hT hc => ?capacity, fun hT hc tag j => ?tags, fun hT hc => rfl, fun _ h => h⟩
  case tables =>
    obtain ⟨-, -, -, h4, hslots, h6, h7, -, hrest⟩ := s.tablesCanonical_iff.1 hT
    exact (State.tablesCanonical_iff _).2 ⟨rfl, rfl, rfl, h4, Table.canonical_mapD _ (fun _ => SlotRecord.cold)
      (fun _ v => v.erased) (Table.ordered_of_canonical hslots), h6, h7, rfl, hrest⟩
  case capacity =>
    obtain ⟨-, -, h3, h4, -, h6, -⟩ := s.withinCapacity_iff.1 hc.1
    exact ⟨(State.withinCapacity_iff _).2 ⟨fun e he => (by cases he), Nat.zero_le _, h3, h4, Nat.zero_le _, h6,
      fun e he => (by cases he)⟩, .nil, .nil⟩
  case tags =>
    have hnone : s.erase.record? j = none := rfl
    rw [hnone]
    exact ⟨fun h => (by cases h), fun ⟨r, h, _⟩ => (by cases h)⟩

/-- The logical number that a request field gives. -/
theorem logicalField?_range {n : Nat} {m : Option Nat} (h : logicalField? n = some m) :
    ∀ k, m = some k → 1 ≤ k ∧ k ≤ 16 := by
  intro k hk
  unfold logicalField? at h
  split at h
  · rw [← Option.some.inj h] at hk
    cases hk
  · split at h
    · rename_i hn
      rw [← Option.some.inj h] at hk
      exact Option.some.inj hk ▸ hn
    · cases h

/-- The zone that a request field gives. -/
theorem windowZone?_range {n : Nat} {m : Option Nat} (h : windowZone? n = some m) :
    ∀ k, m = some k → 1 ≤ k ∧ k ≤ 8 := by
  intro k hk
  unfold windowZone? at h
  split at h
  · rw [← Option.some.inj h] at hk
    cases hk
  · split at h
    · rename_i hn
      rw [← Option.some.inj h] at hk
      exact Option.some.inj hk ▸ hn
    · cases h

theorem State.rackRecord_mapRack (s : State) (p q : Nat) (new : RackRecord) :
    (s.mapRack p new).rackRecord q = if q = p then new else s.rackRecord q := by
  by_cases hq : q = p
  · rw [if_pos hq, hq]
    exact Table.readD_writeD_self _ _ _ _
  · rw [if_neg hq, State.rackRecord, State.rackRecord]
    simp only [State.mapRack, Table.readD, Table.writeD]
    split
    · rw [Table.read?_clear, if_neg hq]
    · rw [Table.read?_write, if_neg hq]

/-- A rack within its bounds, under a number that no other rack has. -/
theorem Keeps.mapRack {s : State} {p : Nat} {new : RackRecord}
    (hcols : 1 ≤ new.columns ∧ new.columns ≤ 32) (hlevels : 1 ≤ new.levels ∧ new.levels ≤ 8)
    (hnumber : ∀ n, new.logical = some n → 1 ≤ n ∧ n ≤ 16) (hfree : s.numberTaken p new.logical = false) :
    Keeps s (s.mapRack p new) := by
  refine ⟨fun hT => ?tables, fun hT hc => hc, fun _ h => h, fun _ h => h, fun _ h => ?legal⟩
  case tables =>
    obtain ⟨h1, h2, h3, hracks, hslots, hrest⟩ := s.tablesCanonical_iff.1 hT
    exact (State.tablesCanonical_iff _).2 ⟨h1, h2, h3, Table.canonical_writeD _ RackRecord.cold p new hracks,
      Table.canonical_mapD _ (fun _ => SlotRecord.cold) _ (Table.ordered_of_canonical hslots), hrest⟩
  case legal =>
    obtain ⟨hpoller, hclasses, hdispatch, hpoll, hactive, hstaged, hracks, hnumbers, hrest⟩ := h
    have hrack := fun q => s.rackRecord_mapRack p q new
    have htaken : ∀ q n, q < 16 → q ≠ p → new.logical = some n → (s.rackRecord q).logical ≠ some n := by
      intro q n hq hqp hn hqn
      rw [hn] at hfree
      simp only [State.numberTaken, List.any_eq_false, List.mem_range, Bool.and_eq_true, decide_eq_true_eq] at hfree
      exact hfree q hq ⟨hqp, hqn⟩
    refine ⟨hpoller, hclasses, hdispatch, hpoll, hactive, hstaged, fun q hq => ?_, fun q k n hq hk => ?_, hrest⟩
    · rw [hrack]
      split
      · exact ⟨hcols.1, hcols.2, hlevels.1, hlevels.2, hnumber⟩
      · exact hracks q hq
    · rw [hrack, hrack]
      by_cases h1 : q = p <;> by_cases h2 : k = p
      · exact fun _ _ => h1.trans h2.symm
      · rw [if_pos h1, if_neg h2]
        exact fun ha hb => absurd hb (htaken k n hk h2 ha)
      · rw [if_neg h1, if_pos h2]
        exact fun ha hb => absurd ha (htaken q n hq h1 hb)
      · rw [if_neg h1, if_neg h2]
        exact hnumbers q k n hq hk

theorem Keeps.setWindow {s : State} {n : Nat} {w : Window} (hw : w.legal) :
    Keeps s { s with shelf := { s.shelf with windows := s.shelf.windows.writeD Window.cold n w } } := by
  refine ⟨fun hT => ?tables, fun hT hc => hc, fun _ h => h, fun _ h => h, fun _ h => ?legal⟩
  case tables =>
    obtain ⟨h1, h2, h3, h4, h5, hwindows, hrest⟩ := s.tablesCanonical_iff.1 hT
    exact (State.tablesCanonical_iff _).2
      ⟨h1, h2, h3, h4, h5, Table.canonical_writeD _ (fun _ => Window.cold) n w hwindows, hrest⟩
  case legal =>
    obtain ⟨hpoller, hclasses, hdispatch, hpoll, hactive, hstaged, hracks, hnumbers, hwindows, hrest⟩ := h
    refine ⟨hpoller, hclasses, hdispatch, hpoll, hactive, hstaged, hracks, hnumbers, fun m => ?_, hrest⟩
    have hread := Table.readD_writeD s.shelf.windows Window.cold w n m
    rw [State.window, hread]
    split
    · exact hw
    · exact hwindows m

theorem ClassRecord.clamped_clamped (c : ClassRecord) : c.clamped.clamped = c.clamped := by
  have hbrush : clampBrushBase (clampBrushBase c.brushBase) = clampBrushBase c.brushBase := by
    unfold clampBrushBase clampTo
    split
    · rfl
    · rw [if_neg (by omega)]
      omega
  simp [ClassRecord.clamped, hbrush, clampTo_self_of_range]

theorem Keeps.setClass (s : State) (k : Nat) (c : ClassRecord) :
    Keeps s { s with classes := s.classes.writeD ClassRecord.cold k c.clamped } := by
  refine ⟨fun hT => ?tables, fun hT hc => hc, fun _ h => h, fun _ h => h, fun _ h => ?legal⟩
  case tables =>
    obtain ⟨h1, h2, h3, h4, h5, h6, hclasses, hrest⟩ := s.tablesCanonical_iff.1 hT
    exact (State.tablesCanonical_iff _).2
      ⟨h1, h2, h3, h4, h5, h6, Table.canonical_writeD _ (fun _ => ClassRecord.cold) k _ hclasses, hrest⟩
  case legal =>
    obtain ⟨hpoller, hclasses, hrest⟩ := h
    refine ⟨hpoller, fun m => ?_, hrest⟩
    have hread := Table.readD_writeD s.classes ClassRecord.cold c.clamped k m
    rw [State.classRecord, hread]
    split
    · exact c.clamped_clamped
    · exact hclasses m

theorem DispatchSettings.clamped_clamped (d : DispatchSettings) : d.clamped.clamped = d.clamped := by
  simp [DispatchSettings.clamped, clampTo_self_of_range]

theorem Keeps.setDispatch (s : State) (d : DispatchSettings) :
    Keeps s { s with dispatcher := { s.dispatcher with settings := d.clamped } } :=
  Keeps.dispatcher rfl (fun _ => d.clamped_clamped) id id

theorem Keeps.setDispatchState (s : State) (d : DispatchState) : Keeps s (s.setDispatchState d) :=
  Keeps.dispatcher rfl id id id

theorem Keeps.unblockSlot (s : State) (p : Nat) : Keeps s (s.unblockSlot p) := by
  unfold State.unblockSlot
  dsimp only
  split
  · exact Keeps.updSlot s p _
  · exact (Keeps.updSlot s p _).trans (Keeps.removeHold _ _ _)

end Sys2Proof.Machine

/-! SUPPORT. What each command keeps, and with it every step: O4, O5 and O6. -/

namespace Sys2Proof.Machine

/-! ## Requests of the registry and the map -/

/-- A request that names a live wheel keeps what its work on the wheel keeps. -/
theorem Keeps.withHandle (s : State) (h : Nat) {f : Nat → WheelRecord → State × Reply}
    (hf : ∀ i r, s.named? h = some i → s.record? i = some r → Keeps s (f i r).1) : Keeps s (s.withHandle h f).1 := by
  unfold State.withHandle
  split
  · exact Keeps.refl s
  · rename_i i hi
    split
    · exact Keeps.refl s
    · rename_i r hr
      exact hf i r hi hr

theorem Keeps.withTime (s : State) (time : TimeField) {f : TimeValue → State × Reply}
    (hf : ∀ v, Keeps s (f v).1) : Keeps s (s.withTime time f).1 := by
  unfold State.withTime
  split
  · exact Keeps.refl s
  · exact Keeps.refl s
  · split
    · exact hf _
    · exact Keeps.refl s

theorem Keeps.withSlot (s : State) (l : LSlot) {f : Nat → State × Reply} (hf : ∀ p, Keeps s (f p).1) :
    Keeps s (s.withSlot l f).1 := by
  unfold State.withSlot
  split
  · exact Keeps.refl s
  · split
    · exact Keeps.refl s
    · exact hf _

theorem Keeps.withEntry (s : State) (l : LSlot) {f : Nat → Nat → Discrepancy → State × Reply}
    (hf : ∀ p k e, Keeps s (f p k e).1) : Keeps s (s.withEntry l f).1 := by
  refine Keeps.withSlot s l fun p => ?_
  split
  · exact Keeps.refl s
  · exact hf p _ _

theorem Keeps.withOrder (s : State) (n : Nat) {f : Order → State × Reply} (hf : ∀ o, Keeps s (f o).1) :
    Keeps s (s.withOrder n f).1 := by
  unfold State.withOrder
  split
  · exact Keeps.refl s
  · exact hf _

/-- What keeps the requested record's tag and overdue mark keeps the registry. -/
theorem Keeps.amended {s : State} {i : Nat} {r r' : WheelRecord} (hr : s.record? i = some r) (htag : r'.tag = r.tag)
    (hover : r'.overdue = r.overdue) : Keeps s (s.amended i r').1 :=
  Keeps.setRecord hr htag hover

theorem Keeps.adopt (s : State) (p k : Nat) (e : Discrepancy) : Keeps s (s.adopt p k e) := by
  have hunseat : Keeps s (s.unseatExpected p) := by
    unfold State.unseatExpected
    split
    · exact Keeps.refl s
    · exact Keeps.moveRecord s _ none
  unfold State.adopt
  dsimp only
  refine Keeps.trans ?_ (Keeps.clearEntry _ k)
  refine hunseat.trans ?_
  split
  · exact Keeps.refl _
  · unfold State.seatSeen
    dsimp only
    have hseat := (((Keeps.moveRecord (s.unseatExpected p) (handleIndex ‹Nat›) (some p)).trans
      (Keeps.removeHold _ (handleIndex ‹Nat›) .missing)).trans
      (Keeps.removeHold _ (handleIndex ‹Nat›) .unconfirmed)).trans (Keeps.removeHold _ (handleIndex ‹Nat›) .blockedSlot)
    split
    · exact hseat
    · split
      · exact hseat.trans (Keeps.endRelocation _ _)
      · exact hseat

/-! ## The sweep, the fetch and the orders -/

theorem Keeps.sweepVisit (s : State) (i : Nat) : Keeps s (s.sweepVisit i) := by
  unfold State.sweepVisit
  split
  · exact Keeps.refl s
  · rename_i r hr
    dsimp only
    have hclamp : Keeps s (s.setRecord i (r.clampTimes s.clock.minutes)) := Keeps.setRecord hr rfl rfl
    split
    · exact Keeps.refl s
    · split
      · exact (hclamp.trans (Keeps.setOverdue _ _ _)).trans (Keeps.offer _ _)
      · exact (hclamp.trans (Keeps.setOverdue _ _ _)).trans (Keeps.dropCandidate _ _)

theorem Keeps.sweepStep (s : State) : Keeps s s.sweepStep := by
  have hcursor : ∀ (u : State) (w : Sweep), Keeps u { u with sweep := w } := fun _ _ => Keeps.outer rfl
  unfold State.sweepStep
  exact (Keeps.foldl _ (fun u k _ => Keeps.sweepVisit u _) s).trans (hcursor _ _)

/-- The census takes at most eight slots, and the directed walk only loses racks. -/
theorem State.length_reviewBatch (s : State) : s.reviewBatch.length ≤ 8 := by
  unfold State.reviewBatch
  split
  · exact Nat.zero_le 8
  · exact List.length_take_le _ _

theorem State.length_directedTake (s : State) (l : List DirectedRack) :
    (s.directedTake l).1.length ≤ 8 ∧ (s.directedTake l).2.length ≤ l.length := by
  induction l with
  | nil => exact ⟨Nat.zero_le 8, Nat.le_refl 0⟩
  | cons d rest ih =>
    rw [State.directedTake]
    split
    · exact ⟨ih.1, ih.2.trans (Nat.le_succ _)⟩
    · refine ⟨?_, ?_⟩
      · rw [State.directedBatch_eq]
        exact List.length_take_le _ _
      · rw [List.length_append, List.length_cons]
        have : ((s.directedAfter d (s.directedBatch d)).toList).length ≤ 1 := by
          cases s.directedAfter d (s.directedBatch d) <;> simp
        omega

theorem State.length_cursorBatch (s : State) : s.cursorBatch.length ≤ 8 := by
  unfold State.cursorBatch
  split
  · exact Nat.zero_le 8
  · rw [collectFrom_eq]
    exact List.length_take_le _ _

theorem State.length_censusTake (s : State) :
    s.censusTake.1.length ≤ 8 ∧ s.censusTake.2.directed.length ≤ s.census.directed.length := by
  obtain ⟨hbatch, hdirected⟩ := s.length_directedTake s.census.directed
  unfold State.censusTake
  split
  · exact ⟨s.length_reviewBatch, Nat.le_refl _⟩
  · dsimp only
    split
    · exact ⟨hbatch, hdirected⟩
    · split
      · exact ⟨s.length_cursorBatch, hdirected⟩
      · exact ⟨Nat.zero_le 8, hdirected⟩

theorem length_insertVisit (v : Visit) (l : List Visit) : (insertVisit v l).length = l.length + 1 := by
  induction l with
  | nil => rfl
  | cons u rest ih =>
    rw [insertVisit]
    split
    · rfl
    · rw [List.length_cons, ih, List.length_cons]

theorem length_numberVisits (n : Nat) (l : List Visit) : (numberVisits n l).length = l.length := by
  induction l generalizing n with
  | nil => rfl
  | cons v rest ih => rw [numberVisits, List.length_cons, ih, List.length_cons]

theorem length_sortVisits (l : List Visit) : (sortVisits l).length = l.length := by
  rw [sortVisits, length_numberVisits]
  induction l with
  | nil => rfl
  | cons v rest ih => rw [List.foldr_cons, length_insertVisit, ih, List.length_cons]

theorem State.length_chosen (s : State) : s.chosen.length ≤ 8 := by
  unfold State.chosen
  split
  · exact Nat.zero_le 8
  · exact List.length_take_le _ _

theorem State.length_candidateWork (s : State) : s.candidateWork.length ≤ 8 := by
  rw [State.candidateWork, length_sortVisits]
  exact (List.length_filterMap_le _ _).trans s.length_chosen

theorem Keeps.census {s t : State} (ht : t = { s with census := t.census })
    (hl : t.census.directed.length ≤ s.census.directed.length ∨ t.census.directed.length ≤ 4) : Keeps s t := by
  refine ⟨fun h => by rw [ht]; exact h, fun hT hc => ?capacity, fun _ h => by rw [ht]; exact h,
    fun _ h => by rw [ht]; exact h, fun _ h => by rw [ht]; exact h⟩
  obtain ⟨h1, h2, h3, h4, h5, hlength, h7⟩ := s.withinCapacity_iff.1 hc.1
  refine ⟨?_, by rw [ht]; exact hc.2⟩
  rw [State.withinCapacity_iff, ht]
  exact ⟨h1, h2, h3, h4, h5, hl.elim (fun h => h.trans hlength) id, h7⟩

theorem Keeps.fetchCensus {s : State} (hroom : s.dispatcher.window.length < 4) : Keeps s s.fetchCensus.1 := by
  obtain ⟨hbatch, hdirected⟩ := s.length_censusTake
  have hcensus : Keeps s { s with census := s.censusTake.2 } := Keeps.census rfl (.inl hdirected)
  unfold State.fetchCensus
  split
  · dsimp only
    split
    · exact hcensus
    · rename_i p rest hp
      refine hcensus.trans (Keeps.issue .batch _ hroom ?_)
      rw [length_sortVisits, List.length_map, ← hp]
      exact hbatch
  · exact Keeps.refl s

theorem Keeps.pruneCandidates (s : State) : Keeps s s.pruneCandidates :=
  Keeps.candidates rfl List.filter_sublist

theorem Keeps.fetchWork {s : State} (hroom : s.dispatcher.window.length < 4) : Keeps s s.fetchWork.1 := by
  unfold State.fetchWork
  split
  · exact Keeps.issue .move _ hroom (by simp)
  · unfold State.fetchCandidates
    split
    · split
      · exact (Keeps.pruneCandidates s).trans (Keeps.fetchCensus hroom)
      · rename_i v rest hv
        exact (Keeps.pruneCandidates s).trans (Keeps.issue .batch _ hroom (hv ▸ s.length_candidateWork))
    · exact Keeps.fetchCensus hroom

theorem Keeps.ownFetch (a : Nat) (s : State) : Keeps s (State.ownFetch a s).1 := by
  have hsweep : Keeps s { s with sweep := { s.sweep with turnerAisle := a } } := Keeps.outer rfl
  unfold State.ownFetch
  split
  · dsimp only
    split
    · exact hsweep
    · split
      · exact hsweep
      · rename_i hroom
        exact hsweep.trans (Keeps.fetchWork (Nat.not_le.1 hroom))
  · exact Keeps.refl s

theorem Keeps.expireOrder (s : State) (n : Nat) : Keeps s (s.expireOrder n) := by
  unfold State.expireOrder
  split
  · exact Keeps.refl s
  · split
    · exact (Keeps.closeOrder s _).trans (Keeps.latch _ _)
    · exact Keeps.refl s

theorem Keeps.cancelOrders (s : State) (a : Nat) : Keeps s (s.cancelOrders a) := by
  have hwindow : ∀ (l : List Order) (u : State),
      (l.foldl State.withdrawVisits u).dispatcher.window = u.dispatcher.window := by
    intro l u
    exact foldl_unchanged (fun u : State => u.dispatcher.window) State.withdrawVisits (fun u o => by simp) l u
  unfold State.cancelOrders
  dsimp only
  refine (Keeps.foldl (s.dispatcher.window.filter fun o => o.cancelled a)
    (fun u o _ => Keeps.withdrawVisits u o) s).trans ?_
  refine Keeps.dispatcher rfl id (fun h => ?_) fun h o ho => ?_
  · rw [hwindow] at h
    rw [List.length_map]
    exact (List.length_filter_le _ _).trans h
  · rw [hwindow] at h
    obtain ⟨x, hx, rfl⟩ := List.mem_map.1 ho
    have hlen : (x.cancel a).visits.length = x.visits.length := by
      unfold Order.cancel
      split <;> rfl
    rw [hlen]
    exact h x (List.mem_of_mem_filter hx)

/-! ## Visits started and ended -/

theorem Keeps.withdraw (s : State) (n : Nat) (v : Visit) (st : Status) : Keeps s (s.withdraw n v st).1 :=
  ((Keeps.setVisitState s n v.number .withdrawn).trans (Keeps.releaseVisit _ v)).trans (Keeps.loadTimer _ _ _)

theorem Keeps.proceed (s : State) (n : Nat) (v : Visit) (a : ActionSet) : Keeps s (s.proceed n v a).1 := by
  unfold State.proceed
  dsimp only
  refine Keeps.trans ?_ (Keeps.loadTimer _ _ _)
  refine Keeps.trans ?_ (Keeps.reach _ _)
  refine (Keeps.updOrder s n fun o => o.length_updVisit v.number fun u =>
    { u with state := .started, proceeded := some a }).trans ?_
  split
  · exact Keeps.refl _
  · exact Keeps.setClaim _ _ _

theorem Keeps.checkStart (s : State) (n : Nat) (v : Visit) (tag : Nat) : Keeps s (s.checkStart n v tag).1 := by
  unfold State.checkStart
  dsimp only
  refine (Keeps.compare s v.source (.tag tag)).trans ?_
  split
  · exact Keeps.withdraw _ _ _ _
  · split
    · exact Keeps.withdraw _ _ _ _
    · split
      · exact Keeps.withdraw _ _ _ _
      · exact Keeps.proceed _ _ _ _

theorem Keeps.ownVisitStart (n v tag : Nat) (s : State) : Keeps s (State.ownVisitStart n v tag s).1 := by
  refine Keeps.withOrder s n fun o => ?_
  split
  · exact Keeps.refl s
  · exact Keeps.refl s
  · split
    · exact Keeps.withdraw _ _ _ _
    · exact Keeps.checkStart _ _ _ _

theorem WheelRecord.weighed_fields (r : WheelRecord) (w : Option Nat) :
    (r.weighed w).tag = r.tag ∧ (r.weighed w).overdue = r.overdue ∧ (r.weighed w).location = r.location ∧
    (r.weighed w).claim = r.claim ∧ (r.weighed w).holds = r.holds ∧
    (r.weighed w).relocationPending = r.relocationPending := by
  cases w <;> exact ⟨rfl, rfl, rfl, rfl, rfl, rfl⟩

theorem Keeps.workDone (s : State) (i : Nat) (a : ActionSet) (w : Option Nat) : Keeps s (s.workDone i a w) := by
  have hclear : Keeps s (s.clearOverdueOn i a) := by
    unfold State.clearOverdueOn
    split
    · exact Keeps.setOverdue s i false
    · exact Keeps.refl s
  exact hclear.trans (Keeps.updRecord _ i (fun r => (WheelRecord.weighed_fields _ w).1)
    fun r => (WheelRecord.weighed_fields _ w).2.1)

theorem Keeps.moveDone (s : State) (h p : Nat) (w : Option Nat) : Keeps s (s.moveDone h p w) :=
  ((((Keeps.moveRecord s (handleIndex h) (some p)).trans (Keeps.reach _ p)).trans
    (Keeps.removeHold _ (handleIndex h) .blockedSlot)).trans (Keeps.endRelocation _ h)).trans
    (Keeps.updRecord _ (handleIndex h) (fun r => (r.weighed_fields w).1) fun r => (r.weighed_fields w).2.1)

theorem Keeps.visitOutcome (s : State) (v : Visit) (e : VisitOutcome) (a : ActionSet) (w : Option Nat) (tag : Nat) :
    Keeps s (s.visitOutcome v e a w tag) := by
  cases e with
  | done =>
    show Keeps s (s.visitDone v a w tag)
    unfold State.visitDone
    split
    · exact (Keeps.compare s _ _).trans (Keeps.reach _ _)
    · exact Keeps.workDone s _ _ _
    · exact Keeps.moveDone s _ _ _
  | aborted => exact Keeps.doubtVisit s v
  | destUnreachable =>
    show Keeps s (match v.dest with | none => s | some p => s.unreachable p)
    split
    · exact Keeps.refl s
    · exact Keeps.unreachable s _
  | unreachable => exact Keeps.unreachable s _
  | absent => exact Keeps.compare s _ _

theorem Keeps.ownVisitEnd (e : VisitOutcome) (n v a w tag : Nat) (s : State) :
    Keeps s (State.ownVisitEnd e n v a w tag s).1 := by
  refine Keeps.withOrder s n fun o => ?_
  split
  · exact Keeps.refl s
  · exact Keeps.refl s
  · exact (((Keeps.visitOutcome s _ e _ _ tag).trans (Keeps.releaseVisit _ _)).trans
      (Keeps.setVisitState _ _ _ _)).trans (Keeps.loadTimer _ _ _)

/-! ## Every command -/

theorem Keeps.censusRack (s : State) (p : Nat) (h : s.census.directed.length < 4) :
    Keeps s { s with census := { s.census with directed := s.census.directed ++ [⟨p, 0⟩] } } :=
  Keeps.census rfl (.inr (by rw [List.length_append]; exact h))

theorem Keeps.emptyDirected (s : State) : Keeps s s.emptyDirected := Keeps.census rfl (.inr (Nat.zero_le 4))

end Sys2Proof.Machine

/-! SUPPORT. Every command keeps the tables, the capacities, the registry and the settings; O4, O5 and O6. -/

namespace Sys2Proof.Machine

/-- An event that happens only while the part works keeps what its work keeps. -/
theorem Keeps.ite {s t : State} {c : Prop} [Decidable c] (h : c → Keeps s t) : Keeps s (if c then t else s) := by
  split
  · rename_i hc
    exact h hc
  · exact Keeps.refl s

/-- What each command keeps. -/
theorem exec_keeps (c : Instr) (s : State) : ∃ t, exec c s = .next t ∧ Keeps s t := by
  cases c
  case powerUp a b => exact ⟨_, rfl, Keeps.powerUp s a b⟩
  case resetNAssert => exact ⟨_, rfl, Keeps.outer rfl⟩
  case resetNRelease a b => exact ⟨_, rfl, Keeps.resetRelease s a b⟩
  case backupSupplyLoss => exact ⟨_, rfl, Keeps.outer rfl⟩
  case mainPowerLoss => exact ⟨_, rfl, Keeps.outer rfl⟩
  case clockMinuteTick => exact ⟨_, rfl, Keeps.outer rfl⟩
  case sweepStep => exact ⟨_, rfl, Keeps.ite fun _ => Keeps.sweepStep s⟩
  case orderExpiry n => exact ⟨_, rfl, Keeps.ite fun _ => Keeps.expireOrder s n⟩
  case roundBoundary => exact ⟨_, rfl, Keeps.ite fun _ => s.boundary_kept.keeps⟩
  case measure a => exact ⟨_, rfl, Keeps.ite fun h => (State.measured_kept a h.2.1).keeps⟩
  case conversionWaitEnd => exact ⟨_, rfl, Keeps.ite fun h => (State.waitEnded_kept h.2).keeps⟩
  case sensorRead a => exact ⟨_, rfl, Keeps.ite fun h => (State.readEnded_kept a h.2.1).keeps⟩
  case arbitrationLoss f w => exact ⟨_, rfl, Keeps.ite fun h => (State.arbitrationLost_kept f w h.2.1).keeps⟩
  case busStartCondition own => exact ⟨_, rfl, Keeps.ite fun _ => (s.startSeen_kept own).keeps⟩
  case busStopCondition => exact ⟨_, rfl, Keeps.ite fun _ => s.busIdle_kept.keeps⟩
  case busIdleTimeout => exact ⟨_, rfl, Keeps.ite fun _ => s.busIdle_kept.keeps⟩
  case writeTransaction a l =>
    refine ⟨_, rfl, Keeps.ite fun _ => ?_⟩
    split
    · exact Keeps.outer rfl
    · exact Keeps.writeEnded s _ l
  case replyRead a k =>
    exact ⟨_, rfl, Keeps.ite fun _ => Keeps.trans (Keeps.outer rfl) (Keeps.readAt (s.strapped k.addr1 k.addr0) a _)⟩
  case clockHoldTimeout => exact ⟨_, rfl, Keeps.ite fun _ => Keeps.holdEnded s⟩
  case restartDelayExpiry => exact ⟨_, rfl, Keeps.ite fun _ => Keeps.warmStart s⟩
  case admitWheel tag cls day l w lt lb => exact ⟨_, rfl, Keeps.serve fun u => Keeps.ownAdmit tag cls day l w lt lb u⟩
  case lookupTag tag =>
    refine ⟨_, rfl, Keeps.serve fun u => ?_⟩
    repeat' split
    all_goals exact Keeps.refl u
  case lookupSlot l =>
    refine ⟨_, rfl, Keeps.serve fun u => ?_⟩
    repeat' split
    all_goals exact Keeps.refl u
  case readRecord h => exact ⟨_, rfl, Keeps.serve fun u => Keeps.withHandle u h fun _ _ _ _ => Keeps.refl u⟩
  case nextRecord n =>
    refine ⟨_, rfl, Keeps.serve fun u => ?_⟩
    repeat' split
    all_goals exact Keeps.refl u
  case amendClass h k =>
    refine ⟨_, rfl, Keeps.serve fun u => Keeps.withHandle u h fun i r _ hr => ?_⟩
    split
    · exact Keeps.amended hr rfl rfl
    · exact Keeps.refl u
  case amendMakeDay h d =>
    exact ⟨_, rfl, Keeps.serve fun u => Keeps.withHandle u h fun i r _ hr => Keeps.amended hr rfl rfl⟩
  case amendLastTurn h time =>
    refine ⟨_, rfl, Keeps.serve fun u => Keeps.withHandle u h fun i r _ hr => Keeps.withTime u time fun v => ?_⟩
    cases v
    · exact Keeps.refl u
    · exact Keeps.amended hr rfl rfl
    · exact Keeps.refl u
  case amendLastBrush h time =>
    refine ⟨_, rfl, Keeps.serve fun u => Keeps.withHandle u h fun i r _ hr => Keeps.withTime u time fun v => ?_⟩
    cases v
    · exact Keeps.refl u
    · exact Keeps.amended hr rfl rfl
    · exact Keeps.amended hr rfl rfl
  case amendIntakeWeight h w =>
    exact ⟨_, rfl, Keeps.serve fun u => Keeps.withHandle u h fun i r _ hr => Keeps.amended hr rfl rfl⟩
  case amendLastWeight h w =>
    exact ⟨_, rfl, Keeps.serve fun u => Keeps.withHandle u h fun i r _ hr => Keeps.amended hr rfl rfl⟩
  case amendLocation h l =>
    refine ⟨_, rfl, Keeps.serve fun u => Keeps.withHandle u h fun i r _ _ => ?_⟩
    split
    · exact Keeps.refl u
    · split
      · exact Keeps.refl u
      · exact ((Keeps.moveRecord u i _).trans (Keeps.removeHold _ i _)).trans (Keeps.removeHold _ i _)
  case hold h => exact ⟨_, rfl, Keeps.serve fun u => Keeps.withHandle u h fun i _ _ _ => Keeps.addHold u i _⟩
  case release h n =>
    refine ⟨_, rfl, Keeps.serve fun u => Keeps.withHandle u h fun i r _ _ => ?_⟩
    split
    · exact Keeps.refl u
    · exact Keeps.removeHold u i _
  case retire h =>
    refine ⟨_, rfl, Keeps.serve fun u => Keeps.withHandle u h fun i r _ hr => ?_⟩
    split
    · exact Keeps.refl u
    · exact Keeps.retireRecord hr
  case eraseRegistry =>
    refine ⟨_, rfl, Keeps.serve fun u => ?_⟩
    split
    · exact Keeps.erase u
    · exact Keeps.refl u
  case mapRack p n c l =>
    refine ⟨_, rfl, Keeps.serve fun u => ?_⟩
    split
    · exact Keeps.refl u
    · rename_i m hm
      dsimp only
      split
      · exact Keeps.refl u
      · rename_i hrange
        split
        · exact Keeps.refl u
        · rename_i htaken
          split
          · exact Keeps.refl u
          · exact Keeps.mapRack ⟨by dsimp only; omega, by dsimp only; omega⟩
              ⟨by dsimp only; omega, by dsimp only; omega⟩ (logicalField?_range hm) (by simpa using htaken)
  case readRack p =>
    refine ⟨_, rfl, Keeps.serve fun u => ?_⟩
    split <;> exact Keeps.refl u
  case readSlot l => exact ⟨_, rfl, Keeps.serve fun u => Keeps.withSlot u l fun _ => Keeps.refl u⟩
  case unblock l => exact ⟨_, rfl, Keeps.serve fun u => Keeps.withSlot u l fun p => Keeps.unblockSlot u p⟩
  case setWindow n z fa la lo hi =>
    refine ⟨_, rfl, Keeps.serve fun u => ?_⟩
    split
    · exact Keeps.refl u
    · rename_i zone hzone
      split
      · rename_i hrange
        exact Keeps.setWindow
          ⟨hrange.2.2.2.1, hrange.2.1, hrange.2.2.2.2, hrange.2.2.1, windowZone?_range hzone⟩
      · exact Keeps.refl u
  case readWindow n =>
    refine ⟨_, rfl, Keeps.serve fun u => ?_⟩
    split <;> exact Keeps.refl u
  case setClass k bt bb st g ca tl th bh w lt lb ol =>
    refine ⟨_, rfl, Keeps.serve fun u => ?_⟩
    split
    · exact Keeps.setClass u k _
    · exact Keeps.refl u
  case readClass k =>
    refine ⟨_, rfl, Keeps.serve fun u => ?_⟩
    split <;> exact Keeps.refl u
  case readCandidates n =>
    refine ⟨_, rfl, Keeps.serve fun u => ?_⟩
    split <;> exact Keeps.refl u
  case pause => exact ⟨_, rfl, Keeps.serve fun u => Keeps.setDispatchState u _⟩
  case resume => exact ⟨_, rfl, Keeps.serve fun u => Keeps.setDispatchState u _⟩
  case setDispatch a o v b c =>
    refine ⟨_, rfl, Keeps.serve fun u => ?_⟩
    split
    · exact Keeps.refl u
    · exact Keeps.setDispatch u _
  case readDispatch => exact ⟨_, rfl, Keeps.serve fun u => Keeps.refl u⟩
  case cancelOrders a =>
    refine ⟨_, rfl, Keeps.serve fun u => ?_⟩
    split
    · exact Keeps.cancelOrders u a
    · exact Keeps.refl u
  case readOrders n =>
    refine ⟨_, rfl, Keeps.serve fun u => ?_⟩
    split
    · exact Keeps.refl u
    · exact Keeps.withOrder u n fun _ => Keeps.refl u
  case relocate h l =>
    refine ⟨_, rfl, Keeps.serve fun u => Keeps.withHandle u h fun i r _ _ => ?_⟩
    split
    · exact Keeps.refl u
    · rename_i hpass
      split
      · exact Keeps.refl u
      · refine Keeps.queueRelocation i _ ?_
        unfold State.relocateRefusal at hpass
        split at hpass
        · cases hpass
        split at hpass
        · cases hpass
        split at hpass
        · cases hpass
        split at hpass
        · cases hpass
        rename_i hroom
        exact Nat.not_le.1 hroom
  case unrelocate h =>
    refine ⟨_, rfl, Keeps.serve fun u => Keeps.withHandle u h fun i r _ _ => ?_⟩
    split
    · exact Keeps.refl u
    · split
      · exact Keeps.refl u
      · exact Keeps.endRelocation u h
  case readRelocations => exact ⟨_, rfl, Keeps.serve fun u => Keeps.refl u⟩
  case censusRack n =>
    refine ⟨_, rfl, Keeps.serve fun u => ?_⟩
    split
    · exact Keeps.emptyDirected u
    split
    · exact Keeps.refl u
    split
    · exact Keeps.refl u
    split
    · exact Keeps.refl u
    split
    · exact Keeps.refl u
    · rename_i hroom
      exact Keeps.censusRack u _ (Nat.not_le.1 hroom)
  case censusRackNone => exact ⟨_, rfl, Keeps.serve fun u => Keeps.emptyDirected u⟩
  case readCensus => exact ⟨_, rfl, Keeps.serve fun u => Keeps.refl u⟩
  case readDiscrepancy k =>
    refine ⟨_, rfl, Keeps.serve fun u => ?_⟩
    repeat' split
    all_goals exact Keeps.refl u
  case readDiscrepancyNext k =>
    refine ⟨_, rfl, Keeps.serve fun u => ?_⟩
    repeat' split
    all_goals exact Keeps.refl u
  case resolveDismiss l =>
    exact ⟨_, rfl, Keeps.serve fun u => Keeps.withEntry u l fun p _ _ => Keeps.dismissEntry u p⟩
  case resolveAdopt l =>
    refine ⟨_, rfl, Keeps.serve fun u => Keeps.withEntry u l fun p k e => ?_⟩
    split
    · exact Keeps.refl u
    · exact Keeps.adopt u p k e
  case resolveRescan l =>
    exact ⟨_, rfl, Keeps.serve fun u => Keeps.withEntry u l fun p _ _ =>
      Keeps.updSlot u p fun v => { v with review := true }⟩
  case setSensor n a z =>
    refine ⟨_, rfl, Keeps.serve fun u => ?_⟩
    split
    · exact Keeps.refl u
    · rename_i hpass
      exact (State.writeSensor_kept hpass).keeps
  case readSensor n =>
    refine ⟨_, rfl, Keeps.serve fun u => ?_⟩
    split <;> exact Keeps.refl u
  case setPoll r per w =>
    refine ⟨_, rfl, Keeps.serve fun u => ?_⟩
    split
    · exact Keeps.refl u
    · exact (u.setPoll_kept _).keeps
  case readPoll => exact ⟨_, rfl, Keeps.serve fun u => Keeps.refl u⟩
  case setZone z bl bh hy al ah dr dc g =>
    refine ⟨_, rfl, Keeps.serve fun u => ?_⟩
    dsimp only
    split
    · rename_i hpass
      exact (u.storeSettings_kept z ⟨ZoneSettings.clamped_clamped _, (Bool.and_eq_true_iff.1 hpass).2⟩).keeps
    · exact Keeps.refl u
  case readZone z =>
    refine ⟨_, rfl, Keeps.serve fun u => ?_⟩
    split <;> exact Keeps.refl u
  case ackAlarm z =>
    refine ⟨_, rfl, Keeps.serve fun u => ?_⟩
    split
    · split
      · exact Keeps.refl u
      · exact (u.setAlarm_kept z _).keeps
    · exact Keeps.refl u
  case takeAttention => exact ⟨_, rfl, Keeps.serve fun u => Keeps.outer rfl⟩
  case setMask m => exact ⟨_, rfl, Keeps.serve fun u => Keeps.outer rfl⟩
  case readStatus => exact ⟨_, rfl, Keeps.serve fun u => Keeps.refl u⟩
  case setClock m => exact ⟨_, rfl, Keeps.serve fun u => Keeps.outer rfl⟩
  case readClock => exact ⟨_, rfl, Keeps.serve fun u => Keeps.refl u⟩
  case restart => exact ⟨_, rfl, Keeps.serve fun u => Keeps.outer rfl⟩
  case fetch a => exact ⟨_, rfl, Keeps.serve fun u => Keeps.ownFetch a u⟩
  case accept n =>
    refine ⟨_, rfl, Keeps.serve fun u => Keeps.withOrder u n fun o => ?_⟩
    split
    · exact (Keeps.updOrder u n (f := fun o => { o with state := .accepted }) fun _ => rfl).trans (Keeps.loadTimer _ n _)
    · exact Keeps.refl u
  case visitStart n v tag => exact ⟨_, rfl, Keeps.serve fun u => Keeps.ownVisitStart n v tag u⟩
  case visitEndDone n v a w tag => exact ⟨_, rfl, Keeps.serve fun u => Keeps.ownVisitEnd .done n v a w tag u⟩
  case visitEndAborted n v a w tag => exact ⟨_, rfl, Keeps.serve fun u => Keeps.ownVisitEnd .aborted n v a w tag u⟩
  case visitEndDestUnreachable n v a w tag =>
    exact ⟨_, rfl, Keeps.serve fun u => Keeps.ownVisitEnd .destUnreachable n v a w tag u⟩
  case visitEndUnreachable n v a w tag =>
    exact ⟨_, rfl, Keeps.serve fun u => Keeps.ownVisitEnd .unreachable n v a w tag u⟩
  case visitEndAbsent n v a w tag => exact ⟨_, rfl, Keeps.serve fun u => Keeps.ownVisitEnd .absent n v a w tag u⟩
  case closeOrder n => exact ⟨_, rfl, Keeps.serve fun u => Keeps.withOrder u n fun o => Keeps.closeOrder u o⟩
  case readOrder n =>
    refine ⟨_, rfl, Keeps.serve fun u => ?_⟩
    split
    · exact Keeps.refl u
    · exact Keeps.withOrder u n fun _ => Keeps.refl u

/-- Every step keeps the tables, the capacities, the registry and the settings. -/
theorem step_keeps {s t : State} (h : step s = .next t) : Keeps s t := by
  cases hp : s.pending with
  | nil =>
    rw [step, hp] at h
    exact Host.Outcome.next.inj h ▸ (Keeps.ownersTake s).trans (Keeps.secondPassed _)
  | cons c rest =>
    rw [step, hp] at h
    obtain ⟨u, hu, hk⟩ := exec_keeps c { s with pending := rest }
    rw [Host.Outcome.next.inj (h.symm.trans hu)]
    exact Keeps.trans (Keeps.outer rfl) hk

/-- Settles O4: every step keeps the tables canonical and, on canonical tables, the capacities and the rank. -/
theorem stepsKeepTheTablesWithinCapacity : Obligations.StepsKeepTheTablesWithinCapacity := by
  intro s t hT hc hr h
  have hk := step_keeps h
  exact ⟨hk.tables hT, (hk.capacity hT ⟨hc, hr⟩).1, (hk.capacity hT ⟨hc, hr⟩).2⟩

/-- Settles O5: every step keeps the tag index and the overdue count in agreement with the records. -/
theorem stepsKeepTheRegistryConsistent : Obligations.StepsKeepTheRegistryConsistent := by
  intro s t hT htags hover h
  have hk := step_keeps h
  exact ⟨hk.tags hT htags, hk.overdue hT hover⟩

/-- Settles O6: every step keeps the poller and the settings legal. -/
theorem stepsKeepThePollerAndSettingsLegal : Obligations.StepsKeepThePollerAndSettingsLegal := by
  intro s t hT hp hs h
  exact (step_keeps h).legal hT ⟨hp, hs⟩

end Sys2Proof.Machine

/-! SUPPORT. What the wheels, the slots, the orders and the relocations agree on, for a given list of unended visits;
and the changes that leave all of it alone. -/

namespace Sys2Proof.Machine

/-! ## What O7 to O12 speak of -/

/-- The part of a record that orders and relocations turn on. -/
def WheelRecord.work (r : WheelRecord) : Option Nat × Claim × Bool := (r.location, r.claim, r.relocationPending)

/-- The part of a slot that orders and relocations turn on. -/
def SlotRecord.work (v : SlotRecord) : Option Nat × Bool × Bool := (v.occupant, v.reserved, v.engaged)

/-- The claims agree with the unended visits `U` (R082). -/
def State.claimsFor (s : State) (U : List Visit) : Prop :=
  (∀ i r, s.record? i = some r → (r.claim ≠ .none ↔ ∃ v ∈ U, v.wheel = some (s.handleOf i))) ∧
  (∀ v ∈ U, ∀ h, v.wheel = some h →
    ∃ r, s.Names h r ∧ r.location = some v.source ∧ (r.claim = .inHand ↔ v.state = .started)) ∧
  (U.filterMap fun v => v.wheel).Nodup

/-- The engaged slots are those of the unended visits `U`. -/
def State.engagedFor (s : State) (U : List Visit) : Prop :=
  (∀ p, (s.slot p).engaged = true ↔ ∃ v ∈ U, p ∈ v.slots) ∧ (U.flatMap Visit.slots).Nodup

/-- The reservations agree with the queue, and the issued entries with the unended visits `U`. -/
def State.relocationsFor (s : State) (U : List Visit) : Prop :=
  (s.relocations.map fun q => q.wheel).Nodup ∧ (s.relocations.map fun q => q.dest).Nodup ∧
  (∀ p, (s.slot p).reserved = true ↔ ∃ q ∈ s.relocations, q.dest = p) ∧
  (∀ p, (s.slot p).reserved = true → (s.slot p).occupant = none) ∧
  (∀ i r, s.record? i = some r → (r.relocationPending = true ↔ ∃ q ∈ s.relocations, q.wheel = s.handleOf i)) ∧
  (∀ q ∈ s.relocations, ∃ r, s.Names q.wheel r) ∧
  (∀ q ∈ s.relocations, q.state = .issued ↔ ∃ v ∈ U, v.wheel = some q.wheel ∧ v.dest = some q.dest) ∧
  (∀ v ∈ U, ∀ d, v.dest = some d → ∃ q ∈ s.relocations, v.wheel = some q.wheel ∧ d = q.dest)

/-- The candidates are free, but for those at the indexes of `S`. -/
def State.freeBut (s : State) (S : Nat → Prop) : Prop :=
  ∀ c ∈ s.candidates, ¬S (handleIndex c.handle) →
    ∃ r, s.Names c.handle r ∧ r.claim = .none ∧ s.held (handleIndex c.handle) r = false

theorem State.candidatesFree_iff (s : State) : s.candidatesFree ↔ s.freeBut fun _ => False :=
  ⟨fun h c hc _ => h c hc, fun h c hc => h c hc id⟩

/-- What the agreement rests on: canonical tables within capacity, a ranked list and an agreeing tag index. -/
structure State.Base (s : State) : Prop where
  tables : s.tablesCanonical = true
  bounded : s.bounded
  tags : s.tagIndexAgrees

theorem Keeps.base {s t : State} (h : Keeps s t) (hs : s.Base) : t.Base :=
  ⟨h.tables hs.tables, h.capacity hs.tables hs.bounded, h.tags hs.tables hs.tags⟩

/-- Everything O7 to O12 keep, but the order window, for the unended visits `U`. -/
structure State.Works (s : State) (U : List Visit) : Prop where
  base : s.Base
  locations : s.locationsAgree
  claims : s.claimsFor U
  engaged : s.engagedFor U
  relocations : s.relocationsFor U
  free : s.candidatesFree
  seen : s.seenRecordsLive

theorem State.worksAgree_iff (s : State) : s.worksAgree ↔ s.ordersLegal ∧ s.Works s.unended := by
  constructor
  · rintro ⟨h1, h2, h3, h4, h5, h6, h7, h8, h9, h10, h11⟩
    exact ⟨h6, ⟨h1, ⟨h2, h3⟩, h4⟩, h5, h7, h8, h9, h10, h11⟩
  · rintro ⟨h6, ⟨h1, ⟨h2, h3⟩, h4⟩, h5, h7, h8, h9, h10, h11⟩
    exact ⟨h1, h2, h3, h4, h5, h6, h7, h8, h9, h10, h11⟩

/-- The order of the unended visits does not matter. -/
theorem State.Works.perm {s : State} {U V : List Visit} (h : s.Works U) (hp : U.Perm V) : s.Works V := by
  obtain ⟨hbase, hloc, ⟨hclaim, hvisit, hwheels⟩, ⟨heng, hslots⟩,
    ⟨hw, hd, hres, hempty, hpend, hnames, hissued, hmoves⟩, hfree, hseen⟩ := h
  refine ⟨hbase, hloc, ⟨fun i r hr => (hclaim i r hr).trans ?_, fun v hv => hvisit v (hp.mem_iff.2 hv),
    (hp.filterMap _).nodup_iff.1 hwheels⟩, ⟨fun p => (heng p).trans ?_, (hp.flatMap_right _).nodup_iff.1 hslots⟩,
    ⟨hw, hd, hres, hempty, hpend, hnames, fun q hq => (hissued q hq).trans ?_, fun v hv =>
      hmoves v (hp.mem_iff.2 hv)⟩, hfree, hseen⟩
  all_goals exact exists_congr fun v => and_congr_left fun _ => hp.mem_iff

/-! ## A live wheel and its handle -/

theorem State.Base.index_lt {s : State} (h : s.Base) {i : Nat} {r : WheelRecord} (hr : s.record? i = some r) :
    i < 4096 := State.index_lt h.tables h.bounded.1 hr

theorem State.handleIndex_handleOf (s : State) {i : Nat} (h : i < 4096) : handleIndex (s.handleOf i) = i := by
  unfold handleIndex State.handleOf
  omega

theorem State.Base.names {s : State} (h : s.Base) {i : Nat} {r : WheelRecord} (hr : s.record? i = some r) :
    s.Names (s.handleOf i) r := by
  unfold State.Names
  rw [State.handleIndex_handleOf s (h.index_lt hr)]
  exact ⟨hr, rfl⟩

/-- Two live wheels have one handle only when they are one. -/
theorem State.Base.handleOf_inj {s : State} (h : s.Base) {i j : Nat} {r x : WheelRecord} (hi : s.record? i = some r)
    (hj : s.record? j = some x) (he : s.handleOf i = s.handleOf j) : i = j := by
  rw [← State.handleIndex_handleOf s (h.index_lt hi), he, State.handleIndex_handleOf s (h.index_lt hj)]

theorem State.names_of_named {s : State} {h i : Nat} {r : WheelRecord} (hn : s.named? h = some i)
    (hr : s.record? i = some r) : s.Names h r ∧ i = handleIndex h := by
  obtain ⟨hi, hg, -⟩ := State.named?_eq_some.1 hn
  have hof := State.handleOf_named hn
  subst hi
  exact ⟨⟨hr, hof⟩, rfl⟩

/-! ## Changes that leave the agreement alone -/

/-- The records, the slots, the handles and the queue of two states do the same work. -/
structure Views (s t : State) : Prop where
  records : ∀ i, (t.record? i).map WheelRecord.work = (s.record? i).map WheelRecord.work
  slots : ∀ p, (t.slot p).work = (s.slot p).work
  handles : ∀ i, t.handleOf i = s.handleOf i
  queue : t.relocations = s.relocations

/-- A change that leaves the work of every record and slot, the handles, the queue and the window alone. -/
structure Core (s t : State) : Prop extends Keeps s t, Views s t where
  window : t.dispatcher.window = s.dispatcher.window
  seen : s.seenRecordsLive → t.seenRecordsLive

/-- A change that leaves the candidates free as well. -/
structure Mild (s t : State) : Prop extends Core s t where
  free : ∀ S, s.freeBut S → t.freeBut S

theorem Core.trans {s t u : State} (h : Core s t) (k : Core t u) : Core s u :=
  ⟨h.toKeeps.trans k.toKeeps, ⟨fun i => (k.records i).trans (h.records i), fun p => (k.slots p).trans (h.slots p),
    fun i => (k.handles i).trans (h.handles i), k.queue.trans h.queue⟩, k.window.trans h.window,
    fun hs => k.seen (h.seen hs)⟩

theorem Mild.refl (s : State) : Mild s s :=
  ⟨⟨Keeps.refl s, ⟨fun _ => rfl, fun _ => rfl, fun _ => rfl, rfl⟩, rfl, id⟩, fun _ => id⟩

theorem Mild.trans {s t u : State} (h : Mild s t) (k : Mild t u) : Mild s u :=
  ⟨h.toCore.trans k.toCore, fun S hs => k.free S (h.free S hs)⟩

theorem Mild.foldl {α : Type} {f : State → α → State} (l : List α) (h : ∀ s, ∀ a ∈ l, Mild s (f s a)) (s : State) :
    Mild s (l.foldl f s) := by
  induction l generalizing s with
  | nil => exact Mild.refl s
  | cons a l ih =>
    exact (h s a List.mem_cons_self).trans (ih (fun u b hb => h u b (List.mem_cons_of_mem a hb)) (f s a))

theorem Views.record_back {s t : State} (h : Views s t) {i : Nat} {r' : WheelRecord} (hr : t.record? i = some r') :
    ∃ r, s.record? i = some r ∧ r.work = r'.work := by
  have hw := h.records i
  rw [hr] at hw
  cases hs : s.record? i with
  | none =>
    rw [hs] at hw
    cases hw
  | some r =>
    rw [hs] at hw
    exact ⟨r, rfl, (Option.some.inj hw).symm⟩

theorem Views.record_on {s t : State} (h : Views s t) {i : Nat} {r : WheelRecord} (hr : s.record? i = some r) :
    ∃ r', t.record? i = some r' ∧ r.work = r'.work := by
  have hw := h.records i
  rw [hr] at hw
  cases ht : t.record? i with
  | none =>
    rw [ht] at hw
    cases hw
  | some r' =>
    rw [ht] at hw
    exact ⟨r', rfl, (Option.some.inj hw).symm⟩

theorem WheelRecord.work_eq {a b : WheelRecord} (h : a.work = b.work) :
    a.location = b.location ∧ a.claim = b.claim ∧ a.relocationPending = b.relocationPending := by
  simpa [WheelRecord.work] using h

theorem SlotRecord.work_eq {a b : SlotRecord} (h : a.work = b.work) :
    a.occupant = b.occupant ∧ a.reserved = b.reserved ∧ a.engaged = b.engaged := by
  simpa [SlotRecord.work] using h

theorem Views.names {s t : State} (h : Views s t) {g : Nat} {r : WheelRecord} (hn : s.Names g r) :
    ∃ r', t.Names g r' ∧ r.work = r'.work := by
  obtain ⟨r', hr', hw⟩ := h.record_on hn.1
  exact ⟨r', ⟨hr', (h.handles _).trans hn.2⟩, hw⟩

/-- A state of the same views agrees with the same unended visits. -/
theorem Views.works {s t : State} (h : Views s t) (hb : t.Base) (hf : t.candidatesFree) (hl : t.seenRecordsLive)
    {U : List Visit} (hs : s.Works U) : t.Works U := by
  obtain ⟨hbase, hloc, ⟨hclaim, hvisit, hwheels⟩, ⟨heng, hslots⟩,
    ⟨hw, hd, hres, hempty, hpend, hnames, hissued, hmoves⟩, hfree, hseen⟩ := hs
  have hslot := fun p => SlotRecord.work_eq (h.slots p)
  refine ⟨hb, fun i p => ?locations, ⟨fun i r hr => ?claims, fun v hv g hg => ?visits, hwheels⟩,
    ⟨fun p => ?engaged, hslots⟩, ?relocations, hf, hl⟩
  case locations =>
    rw [(hslot p).1, hloc i p]
    constructor
    · rintro ⟨r, hr, hp⟩
      obtain ⟨r', hr', hwork⟩ := h.record_on hr
      exact ⟨r', hr', (WheelRecord.work_eq hwork).1 ▸ hp⟩
    · rintro ⟨r', hr', hp⟩
      obtain ⟨r, hr, hwork⟩ := h.record_back hr'
      exact ⟨r, hr, (WheelRecord.work_eq hwork).1.trans hp⟩
  case claims =>
    obtain ⟨x, hx, hwork⟩ := h.record_back hr
    rw [← (WheelRecord.work_eq hwork).2.1, h.handles]
    exact hclaim i x hx
  case visits =>
    obtain ⟨r, hn, hp, hst⟩ := hvisit v hv g hg
    obtain ⟨r', hn', hwork⟩ := h.names hn
    obtain ⟨h1, h2, -⟩ := WheelRecord.work_eq hwork
    exact ⟨r', hn', h1 ▸ hp, h2 ▸ hst⟩
  case engaged =>
    rw [(hslot p).2.2]
    exact heng p
  case relocations =>
    refine ⟨h.queue ▸ hw, h.queue ▸ hd, fun p => ?_, fun p hp => ?_, fun i r hr => ?_, fun q hq => ?_, fun q hq => ?_,
      fun v hv d hvd => ?_⟩
    · rw [(hslot p).2.1, h.queue]
      exact hres p
    · rw [(hslot p).1]
      exact hempty p ((hslot p).2.1 ▸ hp)
    · obtain ⟨x, hx, hwork⟩ := h.record_back hr
      rw [← (WheelRecord.work_eq hwork).2.2, h.handles, h.queue]
      exact hpend i x hx
    · obtain ⟨r, hn⟩ := hnames q (h.queue ▸ hq)
      obtain ⟨r', hn', -⟩ := h.names hn
      exact ⟨r', hn'⟩
    · exact hissued q (h.queue ▸ hq)
    · rw [h.queue]
      exact hmoves v hv d hvd

/-- A mild change keeps the agreement, with the same unended visits. -/
theorem Mild.works {s t : State} (h : Mild s t) {U : List Visit} (hs : s.Works U) : t.Works U :=
  h.toViews.works (h.toKeeps.base hs.base)
    ((State.candidatesFree_iff t).2 (h.free _ ((State.candidatesFree_iff s).1 hs.free))) (h.seen hs.seen) hs

/-- Two orders of the same work on the records, the slots and the queue agree with the same unended visits. -/
theorem State.Works.of_same {s t : State} {U : List Visit} (hs : s.Works U) (hb : t.Base)
    (hrec : ∀ i, t.record? i = s.record? i) (hslot : ∀ p, (t.slot p).work = (s.slot p).work)
    (hof : ∀ i, t.handleOf i = s.handleOf i) (hq : t.relocations = s.relocations) (hc : t.candidates = s.candidates)
    (hd : t.discrepancies = s.discrepancies) : t.Works U := by
  refine Views.works ⟨fun i => by rw [hrec], hslot, hof, hq⟩ hb (fun c hm => ?_) (fun e he g hg => ?_) hs
  · obtain ⟨r, ⟨hr, hg⟩, hclaim, hheld⟩ := hs.free c (hc ▸ hm)
    refine ⟨r, ⟨(hrec _).trans hr, (hof _).trans hg⟩, hclaim, ?_⟩
    rwa [State.held, State.misplaced, hd, hof]
  · obtain ⟨r, hr, hg'⟩ := hs.seen e (hd ▸ he) g hg
    exact ⟨r, (hrec _).trans hr, (hof _).trans hg'⟩

/-! ## The changes of this kind -/

/-- A change outside the records, the slots, the candidates, the queue, the discrepancies and the window. -/
theorem Mild.outside {s t : State} (hk : Keeps s t) (hreg : t.registry = s.registry)
    (hslots : t.shelf.slots = s.shelf.slots) (hcand : t.candidates = s.candidates)
    (hqueue : t.relocations = s.relocations) (hdisc : t.discrepancies = s.discrepancies)
    (hwindow : t.dispatcher.window = s.dispatcher.window) : Mild s t := by
  have hrec : ∀ i, t.record? i = s.record? i := fun i => by rw [State.record?, hreg, State.record?]
  have hof : ∀ i, t.handleOf i = s.handleOf i := fun i => by
    rw [State.handleOf, State.generation, hreg, State.handleOf, State.generation]
  refine ⟨⟨hk, ⟨fun i => by rw [hrec], fun p => by rw [State.slot, hslots, State.slot], hof, hqueue⟩, hwindow,
    fun hs e he g hg => ?_⟩, fun S hs c hc hS => ?_⟩
  · obtain ⟨r, hr, hg'⟩ := hs e (hdisc ▸ he) g hg
    exact ⟨r, (hrec _).trans hr, (hof _).trans hg'⟩
  · obtain ⟨r, ⟨hr, hg⟩, hclaim, hheld⟩ := hs c (hcand ▸ hc) hS
    refine ⟨r, ⟨(hrec _).trans hr, (hof _).trans hg⟩, hclaim, ?_⟩
    rwa [State.held, State.misplaced, hdisc, hof]

theorem Mild.outer {s t : State} (ht : t = { s with
      port := t.port, attention := t.attention, clock := t.clock, supply := t.supply, pending := t.pending
      sweep := t.sweep, census := ⟨t.census.cursor, s.census.directed⟩ }) : Mild s t := by
  refine Mild.outside (Keeps.outer ht) ?_ ?_ ?_ ?_ ?_ ?_ <;> rw [ht]

theorem Mild.latch (s : State) (k : AttentionKind) : Mild s (s.latch k) := Mild.outer rfl

theorem Mild.withPort (s : State) (x : BusPort) : Mild s (s.withPort x) := Mild.outer rfl

/-- A live record replaced by one of the same work that is held for no new reason. -/
theorem Mild.setRecord {s : State} {i : Nat} {r r' : WheelRecord} (hr : s.record? i = some r)
    (hk : Keeps s (s.setRecord i r')) (hwork : r'.work = r.work) (hholds : r'.holds.any = true → r.holds.any = true) :
    Mild s (s.setRecord i r') := by
  refine ⟨⟨hk, ⟨fun j => ?_, fun _ => rfl, fun _ => rfl, rfl⟩, rfl, fun hs e he g hg => ?_⟩, fun S hs c hc hS => ?_⟩
  · rw [State.record?_setRecord]
    split
    · rename_i hj
      rw [hj, hr, Option.map_some, Option.map_some, hwork]
    · rfl
  · obtain ⟨x, hx, hof⟩ := hs e he g hg
    unfold State.Names
    rw [State.record?_setRecord]
    split
    · exact ⟨r', rfl, hof⟩
    · exact ⟨x, hx, hof⟩
  · obtain ⟨x, ⟨hx, hof⟩, hclaim, hheld⟩ := hs c hc hS
    have hmis : (s.setRecord i r').misplaced (handleIndex c.handle) = s.misplaced (handleIndex c.handle) := rfl
    rw [State.held, Bool.or_eq_false_iff] at hheld
    unfold State.Names
    rw [State.record?_setRecord]
    split
    · rename_i hj
      rw [hj, hr] at hx
      obtain rfl := Option.some.inj hx
      refine ⟨r', ⟨rfl, hof⟩, (WheelRecord.work_eq hwork).2.1.trans hclaim, ?_⟩
      rw [State.held, hmis, hheld.2, Bool.or_false]
      exact Bool.eq_false_iff.2 fun h => by
        rw [hholds h] at hheld
        cases hheld.1
    · refine ⟨x, ⟨hx, hof⟩, hclaim, ?_⟩
      rw [State.held, hmis, hheld.2, hheld.1, Bool.or_false]

theorem Mild.updRecord (s : State) (i : Nat) {f : WheelRecord → WheelRecord} (hk : Keeps s (s.updRecord i f))
    (hwork : ∀ r, (f r).work = r.work) (hholds : ∀ r, (f r).holds.any = true → r.holds.any = true) :
    Mild s (s.updRecord i f) := by
  cases hr : s.record? i with
  | none =>
    have hnone : s.updRecord i f = s := by simp [State.updRecord, hr]
    rw [hnone]
    exact Mild.refl s
  | some r =>
    have hsome : s.updRecord i f = s.setRecord i (f r) := by simp [State.updRecord, hr]
    rw [hsome] at hk ⊢
    exact Mild.setRecord hr hk (hwork r) (hholds r)

theorem Holds.any_put_false (h : Holds) (reason : HoldReason) (hany : (h.put reason false).any = true) :
    h.any = true := by
  obtain ⟨a, b, c, d⟩ := h
  cases reason <;> simp_all [Holds.put, Holds.any] <;> tauto

theorem Mild.removeHold (s : State) (i : Nat) (h : HoldReason) : Mild s (s.removeHold i h) :=
  Mild.updRecord s i (Keeps.removeHold s i h) (fun _ => rfl) fun r => r.holds.any_put_false h

/-- Candidates leave the list. -/
theorem Mild.candidates {s t : State} (ht : t = { s with candidates := t.candidates })
    (hl : t.candidates.Sublist s.candidates) : Mild s t := by
  have hk := Keeps.candidates ht hl
  rw [ht] at hk ⊢
  exact ⟨⟨hk, ⟨fun _ => rfl, fun _ => rfl, fun _ => rfl, rfl⟩, rfl, id⟩, fun S hs c hc => hs c (hl.subset hc)⟩

theorem Mild.dropCandidate (s : State) (i : Nat) : Mild s (s.dropCandidate i) :=
  Mild.candidates rfl List.filter_sublist

/-- A hold joins a record, whose candidate leaves the list with it. -/
theorem Mild.addHold (s : State) (i : Nat) (h : HoldReason) : Mild s (s.addHold i h) := by
  have hk := Keeps.addHold s i h
  refine ⟨⟨hk, ⟨fun j => ?_, fun p => by simp, fun j => by simp, by simp⟩, by simp, fun hs e he g hg => ?_⟩,
    fun S hs c hc hS => ?_⟩
  · rw [State.record?_addHold]
    split
    · rename_i hj
      rw [hj, Option.map_map]
      rfl
    · rfl
  · obtain ⟨x, hx, hof⟩ := hs e (by simpa using he) g hg
    unfold State.Names
    rw [State.record?_addHold, (s.addHold_views i h _).2.1]
    split
    · rename_i hj
      rw [← hj, hx]
      exact ⟨_, rfl, hof⟩
    · exact ⟨x, hx, hof⟩
  · cases hr : s.record? i with
    | none =>
      rw [State.addHold_of_none hr] at hc ⊢
      exact hs c hc hS
    | some r =>
      by_cases hhas : r.holds.has h = true
      · have hsame : s.addHold i h = s := by
          unfold State.addHold
          rw [hr]
          exact if_pos hhas
        rw [hsame] at hc ⊢
        exact hs c hc hS
      · rw [State.candidates_addHold hr, if_neg hhas, List.mem_filter] at hc
        have hne : handleIndex c.handle ≠ i := of_decide_eq_true hc.2
        obtain ⟨x, ⟨hx, hof⟩, hclaim, hheld⟩ := hs c hc.1 hS
        refine ⟨x, ⟨?_, ?_⟩, hclaim, ?_⟩
        · rw [State.record?_addHold, if_neg hne, hx]
        · rw [(s.addHold_views i h _).2.1, hof]
        · have hmis : (s.addHold i h).misplaced (handleIndex c.handle) = s.misplaced (handleIndex c.handle) := by
            simp [State.misplaced]
          rwa [State.held, hmis]

/-- A slot replaced by one of the same work. -/
theorem Mild.updSlot (s : State) (p : Nat) {f : SlotRecord → SlotRecord} (hf : ∀ v, (f v).work = v.work) :
    Mild s (s.updSlot p f) := by
  refine ⟨⟨Keeps.updSlot s p f, ⟨fun _ => rfl, fun q => ?_, fun _ => rfl, rfl⟩, rfl, id⟩, fun _ => id⟩
  rw [State.slot_updSlot]
  split
  · rename_i hq
    rw [hf, hq]
  · rfl

theorem Mild.reach (s : State) (p : Nat) : Mild s (s.reach p) := Mild.updSlot s p fun _ => rfl

theorem Mild.setOverdue (s : State) (i : Nat) (b : Bool) : Mild s (s.setOverdue i b) := by
  have hmis : ∀ j, (s.setOverdue i b).misplaced j = s.misplaced j := fun j => by simp [State.misplaced]
  have hrec := fun j => State.record?_setOverdue s i j b
  refine ⟨⟨Keeps.setOverdue s i b, ⟨fun j => ?_, fun p => by simp, fun j => by simp, by simp⟩, by simp,
    fun hs e he g hg => ?_⟩, fun S hs c hc hS => ?_⟩
  · rw [hrec]
    split
    · rename_i hj
      rw [hj, Option.map_map]
      rfl
    · rfl
  · obtain ⟨x, hx, hof⟩ := hs e (by simpa using he) g hg
    unfold State.Names
    rw [hrec, (s.setOverdue_views i b _).2.1]
    split
    · rename_i hj
      rw [← hj, hx]
      exact ⟨_, rfl, hof⟩
    · exact ⟨x, hx, hof⟩
  · obtain ⟨x, ⟨hx, hof⟩, hclaim, hheld⟩ := hs c (by simpa using hc) hS
    unfold State.Names
    rw [hrec, (s.setOverdue_views i b _).2.1]
    split
    · rename_i hj
      subst hj
      rw [hx]
      refine ⟨_, ⟨rfl, hof⟩, hclaim, ?_⟩
      rwa [State.held, hmis]
    · refine ⟨x, ⟨hx, hof⟩, hclaim, ?_⟩
      rwa [State.held, hmis]

/-- A free wheel joins the candidate list under its handle. -/
theorem Mild.offer {s : State} {c : Candidate} {r : WheelRecord} (hn : s.Names c.handle r) (hc : r.claim = .none)
    (hh : s.held (handleIndex c.handle) r = false) : Mild s (s.offer c) := by
  refine ⟨⟨Keeps.offer s c, ⟨fun _ => rfl, fun _ => rfl, fun _ => rfl, rfl⟩, rfl, id⟩, fun S hs d hd hS => ?_⟩
  have hmem : d = c ∨ d ∈ s.candidates := by
    have hd : d ∈ offerTo s.candidates c := hd
    unfold offerTo at hd
    split at hd
    · exact (mem_rankInsert.1 hd).imp id fun h => List.mem_of_mem_filter h
    · split at hd
      · exact mem_rankInsert.1 hd
      · split at hd
        · exact .inr hd
        · split at hd
          · exact (mem_rankInsert.1 hd).imp id fun h => List.mem_of_mem_dropLast h
          · exact .inr hd
  rcases hmem with rfl | hmem
  · exact ⟨r, hn, hc, hh⟩
  · exact hs d hmem hS

end Sys2Proof.Machine

/-! SUPPORT. The comparisons, the outcomes that move no wheel, the sweep and the map: changes that leave the agreement
of wheels, slots, orders and relocations alone. -/

namespace Sys2Proof.Machine

/-! ## Discrepancies -/

/-- Entries leave the table, or forget a wheel. -/
theorem Mild.clearEntry (s : State) (k : Nat) : Mild s (s.clearEntry k) := by
  refine ⟨⟨Keeps.clearEntry s k, ⟨fun _ => rfl, fun _ => rfl, fun _ => rfl, rfl⟩, rfl,
    fun hs e he => hs e (Table.mem_clear he)⟩, fun S hs c hc hS => ?_⟩
  obtain ⟨r, hn, hclaim, hheld⟩ := hs c hc hS
  refine ⟨r, hn, hclaim, ?_⟩
  rw [State.held, Bool.or_eq_false_iff] at hheld ⊢
  refine ⟨hheld.1, ?_⟩
  have hmis := hheld.2
  simp only [State.misplaced, List.any_eq_false] at hmis ⊢
  exact fun e he => hmis e (Table.mem_clear he)

theorem Mild.releasePairs (s : State) (l : List (Nat × HoldReason)) : Mild s (s.releasePairs l) := by
  refine Mild.foldl l (fun u q _ => ?_) s
  unfold State.releasePair
  split
  · exact Mild.removeHold u _ _
  · exact Mild.refl u

theorem Mild.placePair (s : State) (q : Nat × HoldReason) : Mild s (s.placePair q) := by
  unfold State.placePair
  split
  · exact Mild.addHold s _ _
  · exact Mild.dropCandidate s _

theorem Mild.placePairs (s : State) (l : List (Nat × HoldReason)) : Mild s (l.foldl State.placePair s) :=
  Mild.foldl l (fun u q _ => Mild.placePair u q) s

theorem Mild.dismissEntry (s : State) (p : Nat) : Mild s (s.dismissEntry p) := by
  unfold State.dismissEntry
  split
  · exact Mild.refl s
  · exact (Mild.clearEntry s _).trans (Mild.releasePairs _ _)

theorem State.freeBut_mono {s : State} {S T : Nat → Prop} (h : s.freeBut S) (hST : ∀ i, S i → T i) : s.freeBut T :=
  fun c hc hT => h c hc fun hS => hT (hST _ hS)

/-- A placed pair of MISPLACED takes its wheel from the candidate list (R133). -/
theorem State.freeBut_placePair {s : State} {S : Nat → Prop} (h : s.freeBut S) (q : Nat × HoldReason) :
    (s.placePair q).freeBut fun i => S i ∧ (q.2 = .misplaced → i ≠ handleIndex q.1) := by
  intro c hc hT
  by_cases hS : S (handleIndex c.handle)
  · by_cases hq : q.2 = .misplaced ∧ handleIndex c.handle = handleIndex q.1
    · exfalso
      obtain ⟨g, reason⟩ := q
      obtain ⟨rfl, hidx⟩ := hq
      have hgone := (List.mem_filter.1 hc).2
      exact of_decide_eq_true hgone hidx
    · exact absurd ⟨hS, fun h1 h2 => hq ⟨h1, h2⟩⟩ hT
  · exact (Mild.placePair s q).free S h c hc hS

theorem State.freeBut_placePairs {s : State} {S : Nat → Prop} (h : s.freeBut S) (l : List (Nat × HoldReason)) :
    (l.foldl State.placePair s).freeBut fun i => S i ∧ ∀ g, (g, HoldReason.misplaced) ∈ l → i ≠ handleIndex g := by
  induction l generalizing s S with
  | nil => exact State.freeBut_mono h fun i hi => ⟨hi, fun g hg => (by cases hg)⟩
  | cons q l ih =>
    refine State.freeBut_mono (ih (State.freeBut_placePair h q)) fun i ⟨⟨hS, hq⟩, hl⟩ => ⟨hS, fun g hg => ?_⟩
    rcases List.mem_cons.1 hg with rfl | hg
    · exact hq rfl
    · exact hl g hg

/-- The table written, before the pairs are placed: the wheel seen may still stand in the candidate list. -/
theorem Core.putEntry {s : State} {k : Nat} (hk : s.tablesCanonical = true → s.bounded → k < 16) {e : Discrepancy}
    (hseen : ∀ h, e.seenRecord = some h → ∃ r, s.Names h r) : Core s (s.putEntry k e) := by
  refine ⟨Keeps.putEntry hk e, ⟨fun _ => rfl, fun _ => rfl, fun _ => rfl, rfl⟩, rfl, fun hs x hx g hg => ?_⟩
  rcases Table.mem_write hx with rfl | hx
  · exact hseen g hg
  · exact hs x hx g hg

theorem State.freeBut_putEntry {s : State} {S : Nat → Prop} (h : s.freeBut S) (k : Nat) (e : Discrepancy) :
    (s.putEntry k e).freeBut fun i => S i ∨ ∃ g, e.seenRecord = some g ∧ i = handleIndex g := by
  intro c hc hT
  obtain ⟨r, hn, hclaim, hheld⟩ := h c hc fun hS => hT (.inl hS)
  refine ⟨r, hn, hclaim, ?_⟩
  rw [State.held, Bool.or_eq_false_iff] at hheld ⊢
  refine ⟨hheld.1, ?_⟩
  have hmis := hheld.2
  simp only [State.misplaced, List.any_eq_false, decide_eq_true_eq] at hmis ⊢
  intro x hx hsame
  rcases Table.mem_write hx with rfl | hx
  · have hof : (s.putEntry k e).handleOf (handleIndex c.handle) = c.handle := hn.2
    rw [hof] at hsame
    exact hT (.inr ⟨c.handle, hsame, rfl⟩)
  · exact hmis x hx hsame

/-- Writing an entry whose seen wheel is live and placed by a pair. -/
theorem Mild.writeEntry {s : State} {k : Nat} (hk : s.tablesCanonical = true → s.bounded → k < 16) {e : Discrepancy}
    (hseen : ∀ h, e.seenRecord = some h → (∃ r, s.Names h r) ∧ (h, HoldReason.misplaced) ∈ e.holds)
    (old : Option Discrepancy) : Mild s (s.writeEntry k e old) := by
  have hput := Core.putEntry hk (s := s) fun h hh => (hseen h hh).1
  unfold State.writeEntry
  dsimp only
  refine Mild.trans ?_ (Mild.latch _ _)
  have hpairs : ∀ u, Mild (s.putEntry k e) u → Mild s (e.holds.foldl State.placePair u) := by
    intro u hu
    refine ⟨(hput.trans hu.toCore).trans (Mild.placePairs u e.holds).toCore, fun S hS => ?_⟩
    refine State.freeBut_mono (State.freeBut_placePairs (hu.free _ (State.freeBut_putEntry hS k e)) e.holds) ?_
    rintro i ⟨hi | ⟨g, hg, hi⟩, hpair⟩
    · exact hi
    · exact absurd hi (hpair g (hseen g hg).2)
  cases old with
  | none => exact hpairs _ (Mild.refl _)
  | some o => exact hpairs _ (Mild.releasePairs _ _)

theorem Mild.tableFull (s : State) (p : Nat) (f : Finding) : Mild s (s.tableFull p f) :=
  ((Mild.placePairs s _).trans (Mild.updSlot _ p (f := fun v => { v with review := true }) fun _ => rfl)).trans
    (Mild.latch _ _)

theorem Mild.enterFinding {s : State} (p : Nat) {f : Finding}
    (hseen : ∀ h, f.seenRecord = some h → ∃ r, s.Names h r) : Mild s (s.enterFinding p f) := by
  have hpair : ∀ now old h, (f.entry p now old).seenRecord = some h →
      (∃ r, s.Names h r) ∧ (h, HoldReason.misplaced) ∈ (f.entry p now old).holds := by
    intro now old h hh
    refine ⟨hseen h hh, List.mem_append_right _ ?_⟩
    have hsame : f.seenRecord = some h := hh
    simp [Finding.misplacedPairs, hsame]
  unfold State.enterFinding
  split
  · rename_i k old he
    exact Mild.writeEntry (fun _ hc => State.entryAt?_lt he hc.1) (hpair _ _) _
  · split
    · rename_i k hk
      exact Mild.writeEntry (fun _ _ => State.freePosition?_lt hk) (hpair _ _) _
    · exact Mild.tableFull s p f

/-- The wheel that a finding saw is live. -/
theorem State.findingAt_seen {s : State} (h : s.Base) {p : Nat} {rep : TagReport} {f : Finding}
    (hf : s.findingAt p rep = some f) {g : Nat} (hg : f.seenRecord = some g) : ∃ r, s.Names g r := by
  have hstranger : ∀ x t, (s.strangerFinding x t).seenRecord = some g → ∃ r, s.Names g r := by
    intro x t hs
    unfold State.strangerFinding at hs
    split at hs
    · rename_i j hj
      obtain ⟨r, hr, -⟩ := (h.tags t j).1 hj
      exact ⟨r, Option.some.inj hs ▸ h.names hr⟩
    · cases hs
  unfold State.findingAt at hf
  split at hf
  · rw [← Option.some.inj hf] at hg
    cases hg
  · split at hf
    · cases hf
    · split at hf
      · rw [← Option.some.inj hf] at hg
        cases hg
      · exact hstranger _ _ (Option.some.inj hf ▸ hg)
  · cases hf
  · split at hf
    · cases hf
    · exact hstranger _ _ (Option.some.inj hf ▸ hg)

theorem Mild.confirm (s : State) (p : Nat) : Mild s (s.confirm p) := by
  unfold State.confirm
  dsimp only
  refine Mild.trans ?_ (Mild.updSlot _ p fun _ => rfl)
  refine (Mild.dismissEntry s p).trans ?_
  split
  · exact Mild.refl _
  · exact (Mild.removeHold _ _ _).trans (Mild.removeHold _ _ _)

theorem Mild.compare {s : State} (h : s.Base) (p : Nat) (rep : TagReport) : Mild s (s.compare p rep).1 := by
  have hflag : Mild s (s.updSlot p fun v => { v with review := false }) := Mild.updSlot s p fun _ => rfl
  unfold State.compare
  dsimp only
  split
  · exact hflag.trans (Mild.confirm _ p)
  · rename_i f hf
    exact hflag.trans (Mild.enterFinding p fun g hg => State.findingAt_seen h hf hg)

/-! ## Outcomes that move no wheel -/

theorem Mild.doubtVisit (s : State) (v : Visit) : Mild s (s.doubtVisit v) := by
  unfold State.doubtVisit
  split
  · exact Mild.refl s
  · exact (Mild.addHold s _ _).trans (Mild.latch _ _)

theorem Mild.unreachable (s : State) (p : Nat) : Mild s (s.unreachable p) := by
  unfold State.unreachable
  dsimp only
  split
  · exact Mild.updSlot s p fun _ => rfl
  · refine Mild.trans ?_ (Mild.latch _ .slotBlocked)
    refine (Mild.updSlot s p (f := fun v => { v with count := Config.blockAt, condition := .blocked })
      fun _ => rfl).trans ?_
    split
    · exact Mild.refl _
    · exact Mild.addHold _ _ _

theorem Mild.workDone (s : State) (i : Nat) (a : ActionSet) (w : Option Nat) : Mild s (s.workDone i a w) := by
  have hclear : Mild s (s.clearOverdueOn i a) := by
    unfold State.clearOverdueOn
    split
    · exact Mild.setOverdue s i false
    · exact Mild.refl s
  refine hclear.trans (Mild.updRecord _ i ?_ (fun r => ?_) fun r h => ?_)
  · exact Keeps.updRecord _ i (fun r => (WheelRecord.weighed_fields _ w).1)
      fun r => (WheelRecord.weighed_fields _ w).2.1
  · obtain ⟨-, -, hloc, hclaim, -, hpend⟩ := WheelRecord.weighed_fields (r.worked s.clock.minutes a) w
    rw [WheelRecord.work, hloc, hclaim, hpend]
    rfl
  · obtain ⟨-, -, -, -, hholds, -⟩ := WheelRecord.weighed_fields (r.worked s.clock.minutes a) w
    rwa [hholds] at h

/-! ## The map and the sweep -/

theorem Mild.unblockSlot (s : State) (p : Nat) : Mild s (s.unblockSlot p) := by
  unfold State.unblockSlot
  dsimp only
  split
  · exact Mild.updSlot s p fun _ => rfl
  · exact (Mild.updSlot s p (f := fun v => { v with condition := .opened, count := 0 }) fun _ => rfl).trans
      (Mild.removeHold _ _ _)

/-- A remapped rack empties no slot: the slots it leaves keep their occupant, reservation and engagement. -/
theorem State.slot_mapRack {s : State} (hT : s.tablesCanonical = true) (p q : Nat) (new : RackRecord) :
    (s.mapRack p new).slot q = if slotRack q = p ∧ (s.rackRecord p).holds q = true ∧ new.holds q = false
      then (s.slot q).left else s.slot q :=
  Table.readD_mapD s.shelf.slots (fun _ => SlotRecord.cold) _ q (State.slots_ordered hT) (by split <;> rfl)

theorem Mild.mapRack {s : State} {p : Nat} {new : RackRecord} (hT : s.tablesCanonical = true)
    (hk : Keeps s (s.mapRack p new)) : Mild s (s.mapRack p new) := by
  refine ⟨⟨hk, ⟨fun _ => rfl, fun q => ?_, fun _ => rfl, rfl⟩, rfl, id⟩, fun _ => id⟩
  rw [State.slot_mapRack hT]
  split <;> rfl

/-- A wheel that the computation makes a candidate stands unclaimed and unheld. -/
theorem State.interval_candidate {s : State} {i : Nat} {r : WheelRecord} {v : IntervalResult} {c : Candidate}
    (hv : s.interval i r = some v) (hc : v.candidate = some c) :
    s.dispatchable i r = true ∧ c.handle = s.handleOf i := by
  unfold State.interval at hv
  split at hv
  · split at hv
    · rw [← Option.some.inj hv] at hc
      cases hc
    · dsimp only at hv
      rw [← Option.some.inj hv] at hc
      dsimp only at hc
      split at hc
      · rename_i hd
        rw [← Option.some.inj hc]
        exact ⟨(Bool.and_eq_true_iff.1 hd).1, rfl⟩
      · cases hc
  · cases hv

theorem State.dispatchable_iff (s : State) (i : Nat) (r : WheelRecord) : s.dispatchable i r = true ↔
    r.claim = .none ∧ s.held i r = false ∧
    ∃ p, r.location = some p ∧ s.usable p = true ∧ (s.slot p).engaged = false := by
  unfold State.dispatchable
  cases hl : r.location <;> simp [and_assoc]

theorem Mild.sweepVisit {s : State} (h : s.Base) (i : Nat) : Mild s (s.sweepVisit i) := by
  unfold State.sweepVisit
  split
  · exact Mild.refl s
  · rename_i r hr
    dsimp only
    have hclamp : Mild s (s.setRecord i (r.clampTimes s.clock.minutes)) :=
      Mild.setRecord hr (Keeps.setRecord hr rfl rfl) rfl id
    split
    · exact Mild.refl s
    · rename_i v hv
      have hmark := hclamp.trans (Mild.setOverdue _ i v.overdue)
      split
      · rename_i c hc
        obtain ⟨hd, hof⟩ := State.interval_candidate hv hc
        obtain ⟨hclaim, hheld, -⟩ := (State.dispatchable_iff _ _ _).1 hd
        have hbase := (hclamp.toKeeps).base h
        have hrec : (s.setRecord i (r.clampTimes s.clock.minutes)).record? i = some (r.clampTimes s.clock.minutes) := by
          simp
        have hidx := State.handleIndex_handleOf (s.setRecord i (r.clampTimes s.clock.minutes)) (hbase.index_lt hrec)
        rw [← hof] at hidx
        refine hmark.trans (Mild.offer (r := { r.clampTimes s.clock.minutes with overdue := v.overdue }) ⟨?_, ?_⟩
          hclaim ?_)
        · rw [hidx, State.record?_setOverdue, if_pos rfl, hrec]
          rfl
        · rw [hidx, State.setOverdue_views _ _ _ _ |>.2.1, hof]
        · rw [hidx]
          have hmis : ((s.setRecord i (r.clampTimes s.clock.minutes)).setOverdue i v.overdue).misplaced i =
              (s.setRecord i (r.clampTimes s.clock.minutes)).misplaced i := by
            simp [State.misplaced]
          rwa [State.held, hmis]
      · exact hmark.trans (Mild.dropCandidate _ i)

theorem Mild.sweepStep {s : State} (h : s.Base) : Mild s s.sweepStep := by
  have hfold : ∀ (l : List Nat) (u : State), u.Base →
      Mild u (l.foldl (fun u k => u.sweepVisit (u.sweep.cursor + k)) u) := by
    intro l
    induction l with
    | nil => exact fun u _ => Mild.refl u
    | cons k l ih =>
      intro u hu
      have hvisit := Mild.sweepVisit hu (u.sweep.cursor + k)
      exact hvisit.trans (ih _ (hvisit.toKeeps.base hu))
  have hcursor : ∀ (u : State) (w : Sweep), Mild u { u with sweep := w } := fun _ _ => Mild.outer rfl
  unfold State.sweepStep
  exact (hfold _ s h).trans (hcursor _ _)

end Sys2Proof.Machine

/-! SUPPORT. The changes that move a wheel, queue or end a relocation, release or engage a visit: what becomes of the
agreement of wheels, slots, orders and relocations. -/

namespace Sys2Proof.Machine

/-- Live wheels that stay live under their handles keep the seen records of fewer entries live. -/
theorem State.seenRecordsLive_of {s t : State} (hs : s.seenRecordsLive)
    (hlive : ∀ j r, s.record? j = some r → ∃ r', t.record? j = some r') (hof : ∀ j, t.handleOf j = s.handleOf j)
    (hd : ∀ e ∈ t.discrepancies, e ∈ s.discrepancies) : t.seenRecordsLive := by
  intro e he g hg
  obtain ⟨r, hr, hg'⟩ := hs e (hd e he) g hg
  obtain ⟨r', hr'⟩ := hlive _ r hr
  exact ⟨r', hr', (hof _).trans hg'⟩

/-- An unclaimed wheel has no unended visit. -/
theorem State.Works.no_visit {s : State} {U : List Visit} (h : s.Works U) {i : Nat} {r : WheelRecord}
    (hr : s.record? i = some r) (hc : r.claim = .none) {v : Visit} (hv : v ∈ U) : v.wheel ≠ some (s.handleOf i) :=
  fun hw => (h.claims.1 i r hr).2 ⟨v, hv, hw⟩ hc

/-- The wheel of an unended visit is live and claimed, and stands at the visit's source. -/
theorem State.Works.wheel {s : State} {U : List Visit} (h : s.Works U) {v : Visit} (hv : v ∈ U) {g : Nat}
    (hg : v.wheel = some g) : ∃ r, s.record? (handleIndex g) = some r ∧ s.handleOf (handleIndex g) = g ∧
      r.claim ≠ .none ∧ r.location = some v.source ∧ (r.claim = .inHand ↔ v.state = .started) := by
  obtain ⟨r, ⟨hr, hof⟩, hloc, hst⟩ := h.claims.2.1 v hv g hg
  exact ⟨r, hr, hof, (h.claims.1 _ r hr).2 ⟨v, hv, by rw [hof, hg]⟩, hloc, hst⟩

/-! ## A wheel moved (R047, R134) -/

/-- An unclaimed wheel moved off the map, or to a slot that stands empty or holds the wheel, and is not reserved. -/
theorem State.Works.moveRecord {s : State} {U : List Visit} (h : s.Works U) {i : Nat} {r : WheelRecord}
    {p? : Option Nat} (hr : s.record? i = some r) (hc : r.claim = .none)
    (hp : ∀ p, p? = some p → ((s.slot p).occupant = none ∨ (s.slot p).occupant = some i) ∧
      (s.slot p).reserved = false) : (s.moveRecord i p?).Works U := by
  have hrec : ∀ j, (s.moveRecord i p?).record? j = if j = i then some { r with location := p? } else s.record? j :=
    fun j => by rw [State.record?_moveRecord, hr]; rfl
  have hslot : ∀ q, (s.moveRecord i p?).slot q = { s.slot q with
      occupant := if p? = some q then some i else if r.location = some q then none else (s.slot q).occupant } :=
    fun q => by rw [State.slot_moveRecord, hr]; rfl
  have hof : ∀ j, (s.moveRecord i p?).handleOf j = s.handleOf j := fun j => by simp
  have hqueue : (s.moveRecord i p?).relocations = s.relocations := by simp
  have hdisc : (s.moveRecord i p?).discrepancies = s.discrepancies := by simp
  have hlive : ∀ j x, s.record? j = some x → ∃ x', (s.moveRecord i p?).record? j = some x' := fun j x hx => by
    rw [hrec]
    split
    · exact ⟨_, rfl⟩
    · exact ⟨x, hx⟩
  obtain ⟨hw, hd, hres, hempty, hpend, hnames, hissued, hmoves⟩ := h.relocations
  refine ⟨(Keeps.moveRecord s i p?).base h.base, fun j q => ?locations, ⟨fun j x hx => ?claims, fun v hv g hg => ?visits,
    h.claims.2.2⟩, ⟨fun q => ?engaged, h.engaged.2⟩, ⟨hqueue ▸ hw, hqueue ▸ hd, fun q => ?reserved, fun q hq => ?empty,
    fun j x hx => ?pending, fun q hq => ?names, fun q hq => hissued q (hqueue ▸ hq), fun v hv d hvd =>
      hqueue ▸ hmoves v hv d hvd⟩, fun c hcand => ?free, State.seenRecordsLive_of h.seen hlive hof fun e he => hdisc ▸ he⟩
  case locations =>
    rw [hslot, hrec]
    have hloc := h.locations j q
    have hi := h.locations i q
    rw [hr] at hi
    by_cases hpq : p? = some q
    · obtain ⟨hocc, -⟩ := hp q hpq
      simp only [hpq, if_true]
      by_cases hj : j = i
      · simp [hj]
      · rw [if_neg hj, ← hloc]
        rcases hocc with hocc | hocc <;> simp [hocc, Ne.symm hj]
    · by_cases hrq : r.location = some q
      · have hocc := hi.2 ⟨r, rfl, hrq⟩
        simp only [if_neg hpq, if_pos hrq]
        by_cases hj : j = i
        · simp [hj, hpq]
        · rw [if_neg hj, ← hloc, hocc]
          simp [Ne.symm hj]
      · simp only [if_neg hpq, if_neg hrq]
        by_cases hj : j = i
        · subst hj
          rw [hloc, if_pos rfl, hr]
          simp [hpq, hrq]
        · rw [if_neg hj, hloc]
  case claims =>
    rw [hof]
    rw [hrec] at hx
    split at hx
    · rename_i hj
      rw [← Option.some.inj hx, hj]
      exact h.claims.1 i r hr
    · exact h.claims.1 j x hx
  case visits =>
    obtain ⟨x, hx, hgx, hclaimed, hsource, hstate⟩ := h.wheel hv hg
    have hne : handleIndex g ≠ i := fun he => by
      rw [he, hr] at hx
      exact hclaimed (Option.some.inj hx ▸ hc)
    exact ⟨x, ⟨by rw [hrec, if_neg hne, hx], (hof _).trans hgx⟩, hsource, hstate⟩
  case engaged =>
    rw [hslot]
    exact h.engaged.1 q
  case reserved =>
    rw [hslot, hqueue]
    exact hres q
  case empty =>
    rw [hslot] at hq ⊢
    have hpq : p? ≠ some q := fun he => by
      have hfree := (hp q he).2
      rw [hfree] at hq
      cases hq
    simp only [if_neg hpq]
    split
    · rfl
    · exact hempty q hq
  case pending =>
    rw [hof, hqueue]
    rw [hrec] at hx
    split at hx
    · rename_i hj
      rw [← Option.some.inj hx, hj]
      exact hpend i r hr
    · exact hpend j x hx
  case names =>
    obtain ⟨x, hx, hgx⟩ := hnames q (hqueue ▸ hq)
    obtain ⟨x', hx'⟩ := hlive _ x hx
    exact ⟨x', hx', (hof _).trans hgx⟩
  case free =>
    obtain ⟨hmem, hne⟩ := List.mem_filter.1 (hcand : c ∈ (((s.unlocate i).locateAt i p?).candidates.filter _))
    have hsame : ((s.unlocate i).locateAt i p?).candidates = s.candidates := by simp
    obtain ⟨x, ⟨hx, hgx⟩, hclaim, hheld⟩ := h.free c (hsame ▸ hmem)
    refine ⟨x, ⟨by rw [hrec, if_neg (of_decide_eq_true hne), hx], (hof _).trans hgx⟩, hclaim, ?_⟩
    rwa [State.held, State.misplaced, hdisc, hof]

/-! ## Relocations (R086, R115) -/

/-- The entry of a wheel is the one that names it. -/
theorem State.relocationOf?_mem {s : State} {h : Nat} {q : Relocation} (hq : s.relocationOf? h = some q) :
    q ∈ s.relocations ∧ q.wheel = h := by
  refine ⟨List.mem_of_find?_eq_some hq, ?_⟩
  simpa using List.find?_some hq

theorem State.Works.relocationOf? {s : State} {U : List Visit} (h : s.Works U) {q : Relocation}
    (hq : q ∈ s.relocations) : s.relocationOf? q.wheel = some q := by
  obtain ⟨hw, -⟩ := h.relocations
  cases hf : s.relocationOf? q.wheel with
  | none =>
    have := List.find?_eq_none.1 hf q hq
    simp at this
  | some x =>
    obtain ⟨hx, hxw⟩ := State.relocationOf?_mem hf
    rw [List.inj_on_of_nodup_map hw hx hq hxw]

/-- A wheel with no entry joins the queue for an empty slot that is not reserved. -/
theorem State.Works.queueRelocation {s : State} {U : List Visit} (h : s.Works U) {i p : Nat} {r : WheelRecord}
    (hr : s.record? i = some r) (hpend : r.relocationPending = false) (hocc : (s.slot p).occupant = none)
    (hres : (s.slot p).reserved = false) (hroom : s.relocations.length < 8) : (s.queueRelocation i p).Works U := by
  have hrec : ∀ j, (s.queueRelocation i p).record? j =
      if j = i then some { r with relocationPending := true } else s.record? j := fun j => by
    simp only [State.queueRelocation, State.record?_updRecord, State.updSlot_views]
    change (if j = i then (s.record? i).map _ else s.record? j) = _
    rw [hr]
    rfl
  have hslot : ∀ q, (s.queueRelocation i p).slot q =
      if q = p then { s.slot p with reserved := true } else s.slot q := fun q => by
    simp [State.queueRelocation]
    rfl
  have hof : ∀ j, (s.queueRelocation i p).handleOf j = s.handleOf j := fun j => by simp [State.queueRelocation]; rfl
  have hqueue : (s.queueRelocation i p).relocations = s.relocations ++ [⟨s.handleOf i, p, .queued⟩] := by
    simp [State.queueRelocation]
  have hdisc : (s.queueRelocation i p).discrepancies = s.discrepancies := by simp [State.queueRelocation]
  have hcand : (s.queueRelocation i p).candidates = s.candidates := by simp [State.queueRelocation]
  have hlive : ∀ j x, s.record? j = some x → ∃ x', (s.queueRelocation i p).record? j = some x' := fun j x hx => by
    rw [hrec]
    split
    · exact ⟨_, rfl⟩
    · exact ⟨x, hx⟩
  obtain ⟨hw, hd, hreserved, hempty, hpending, hnames, hissued, hmoves⟩ := h.relocations
  have hnew : ∀ q ∈ s.relocations, q.wheel ≠ s.handleOf i := fun q hq he => by
    have := (hpending i r hr).2 ⟨q, hq, he⟩
    rw [hpend] at this
    cases this
  have hnodest : ∀ q ∈ s.relocations, q.dest ≠ p := fun q hq he => by
    have := (hreserved p).2 ⟨q, hq, he⟩
    rw [hres] at this
    cases this
  refine ⟨(Keeps.queueRelocation i p hroom).base h.base, fun j q => ?locations, ⟨fun j x hx => ?claims,
    fun v hv g hg => ?visits, h.claims.2.2⟩, ⟨fun q => ?engaged, h.engaged.2⟩, ⟨?wheels, ?dests, fun q => ?reserved,
    fun q hq => ?empty, fun j x hx => ?pending, fun q hq => ?names, fun q hq => ?issued, fun v hv d hvd => ?moves⟩,
    fun c hc => ?free, State.seenRecordsLive_of h.seen hlive hof fun e he => hdisc ▸ he⟩
  case locations =>
    have hoccupant : ((s.queueRelocation i p).slot q).occupant = (s.slot q).occupant := by
      rw [hslot]
      split
      · rename_i hq
        rw [hq]
      · rfl
    rw [hoccupant, h.locations j q, hrec]
    split
    · rename_i hj
      simp [hj, hr]
    · rfl
  case claims =>
    rw [hof]
    rw [hrec] at hx
    split at hx
    · rename_i hj
      rw [← Option.some.inj hx, hj]
      exact h.claims.1 i r hr
    · exact h.claims.1 j x hx
  case visits =>
    obtain ⟨x, ⟨hx, hgx⟩, hsource, hstate⟩ := h.claims.2.1 v hv g hg
    unfold State.Names
    rw [hrec, hof]
    split
    · rename_i hj
      rw [hj, hr] at hx
      rw [← Option.some.inj hx] at hsource hstate
      exact ⟨_, ⟨rfl, hgx⟩, hsource, hstate⟩
    · exact ⟨x, ⟨hx, hgx⟩, hsource, hstate⟩
  case engaged =>
    rw [hslot]
    split
    · rename_i hq
      rw [hq]
      exact h.engaged.1 p
    · exact h.engaged.1 q
  case wheels =>
    rw [hqueue, List.map_append, List.nodup_append]
    refine ⟨hw, by simp, fun a ha b hb => ?_⟩
    obtain ⟨q, hq, rfl⟩ := List.mem_map.1 ha
    rw [List.mem_singleton.1 hb]
    exact hnew q hq
  case dests =>
    rw [hqueue, List.map_append, List.nodup_append]
    refine ⟨hd, by simp, fun a ha b hb => ?_⟩
    obtain ⟨q, hq, rfl⟩ := List.mem_map.1 ha
    rw [List.mem_singleton.1 hb]
    exact hnodest q hq
  case reserved =>
    rw [hslot, hqueue]
    split
    · rename_i hq
      simp [hq]
    · rename_i hq
      rw [hreserved q]
      simp [Ne.symm hq]
  case empty =>
    rw [hslot] at hq ⊢
    split at hq
    · rename_i hqp
      rw [if_pos hqp]
      exact hocc
    · rename_i hqp
      rw [if_neg hqp]
      exact hempty q hq
  case pending =>
    rw [hof, hqueue]
    rw [hrec] at hx
    split at hx
    · rename_i hj
      rw [← Option.some.inj hx, hj]
      simp
    · rename_i hj
      rw [hpending j x hx]
      have hne : s.handleOf i ≠ s.handleOf j := fun he => hj (h.base.handleOf_inj hx hr he.symm)
      simp [hne]
  case names =>
    rw [hqueue] at hq
    rcases List.mem_append.1 hq with hq | hq
    · obtain ⟨x, hx, hgx⟩ := hnames q hq
      obtain ⟨x', hx'⟩ := hlive _ x hx
      exact ⟨x', hx', (hof _).trans hgx⟩
    · rw [List.mem_singleton.1 hq]
      obtain ⟨hx, hgx⟩ := h.base.names hr
      obtain ⟨x', hx'⟩ := hlive _ r hx
      exact ⟨x', hx', (hof _).trans hgx⟩
  case issued =>
    rw [hqueue] at hq
    rcases List.mem_append.1 hq with hq | hq
    · exact hissued q hq
    · rw [List.mem_singleton.1 hq]
      refine ⟨fun hst => (by cases hst), fun ⟨v, hv, hvw, hvd⟩ => ?_⟩
      obtain ⟨x, hx, hxw, -⟩ := hmoves v hv p hvd
      exact absurd (Option.some.inj (hxw.symm.trans hvw)) (hnew x hx)
  case moves =>
    obtain ⟨x, hx, hxw⟩ := hmoves v hv d hvd
    exact ⟨x, hqueue ▸ List.mem_append_left _ hx, hxw⟩
  case free =>
    obtain ⟨x, ⟨hx, hgx⟩, hclaim, hheld⟩ := h.free c (hcand ▸ hc)
    have hmis : (s.queueRelocation i p).misplaced (handleIndex c.handle) = s.misplaced (handleIndex c.handle) := by
      rw [State.misplaced, hdisc, hof, State.misplaced]
    unfold State.Names State.held
    rw [hrec, hof, hmis]
    split
    · rename_i hj
      rw [hj, hr] at hx
      rw [← Option.some.inj hx] at hclaim hheld
      exact ⟨_, ⟨rfl, hgx⟩, hclaim, hheld⟩
    · exact ⟨x, ⟨hx, hgx⟩, hclaim, hheld⟩

/-- An entry that no unended visit carries out leaves the queue. -/
theorem State.Works.endRelocation {s : State} {U : List Visit} (h : s.Works U) {g : Nat}
    (hno : ∀ v ∈ U, v.wheel = some g → v.dest = none) : (s.endRelocation g).Works U := by
  cases hf : s.relocationOf? g with
  | none =>
    have hsame : s.endRelocation g = s := by
      unfold State.endRelocation
      rw [hf]
    rw [hsame]
    exact h
  | some q0 =>
    obtain ⟨hq0, hq0w⟩ := State.relocationOf?_mem hf
    obtain ⟨hw, hd, hreserved, hempty, hpending, hnames, hissued, hmoves⟩ := h.relocations
    obtain ⟨r, hr, hgr⟩ := hnames q0 hq0
    rw [hq0w] at hr hgr
    have hrec : ∀ j, (s.endRelocation g).record? j =
        if j = handleIndex g then some { r with relocationPending := false } else s.record? j := fun j => by
      rw [State.record?_endRelocation, hf]
      by_cases hj : j = handleIndex g
      · simp [hj, hr]
      · simp [hj]
    have hslot : ∀ p, (s.endRelocation g).slot p =
        if p = q0.dest then { s.slot p with reserved := false } else s.slot p := fun p => by
      rw [State.slot_endRelocation, hf]
      simp [eq_comm]
    have hof : ∀ j, (s.endRelocation g).handleOf j = s.handleOf j := fun j => by simp
    have hqueue : ∀ q, q ∈ (s.endRelocation g).relocations ↔ q ∈ s.relocations ∧ q.wheel ≠ g := fun q => by simp
    have hsub : (s.endRelocation g).relocations.Sublist s.relocations := by
      rw [State.relocations_endRelocation]
      exact List.filter_sublist
    have hdisc : (s.endRelocation g).discrepancies = s.discrepancies := by simp
    have hcand : (s.endRelocation g).candidates = s.candidates := by simp
    have hlive : ∀ j x, s.record? j = some x → ∃ x', (s.endRelocation g).record? j = some x' := fun j x hx => by
      rw [hrec]
      split
      · exact ⟨_, rfl⟩
      · exact ⟨x, hx⟩
    have honly : ∀ q ∈ s.relocations, q.dest = q0.dest ↔ q.wheel = g := fun q hq =>
      ⟨fun he => by rw [List.inj_on_of_nodup_map hd hq hq0 he, hq0w],
        fun he => by rw [List.inj_on_of_nodup_map hw hq hq0 (he.trans hq0w.symm)]⟩
    refine ⟨(Keeps.endRelocation s g).base h.base, fun j p => ?locations, ⟨fun j x hx => ?claims,
      fun v hv k hk => ?visits, h.claims.2.2⟩, ⟨fun p => ?engaged, h.engaged.2⟩, ⟨hw.sublist (hsub.map _),
      hd.sublist (hsub.map _), fun p => ?reserved, fun p hp => ?empty, fun j x hx => ?pending, fun q hq => ?names,
      fun q hq => hissued q ((hqueue q).1 hq).1, fun v hv d hvd => ?moves⟩,
      fun c hc => ?free, State.seenRecordsLive_of h.seen hlive hof fun e he => hdisc ▸ he⟩
    case locations =>
      have hoccupant : ((s.endRelocation g).slot p).occupant = (s.slot p).occupant := by
        rw [hslot]
        split <;> rfl
      rw [hoccupant, h.locations j p, hrec]
      split
      · rename_i hj
        simp [hj, hr]
      · rfl
    case claims =>
      rw [hof]
      rw [hrec] at hx
      split at hx
      · rename_i hj
        rw [← Option.some.inj hx, hj]
        exact h.claims.1 _ r hr
      · exact h.claims.1 j x hx
    case visits =>
      obtain ⟨x, ⟨hx, hgx⟩, hsource, hstate⟩ := h.claims.2.1 v hv k hk
      unfold State.Names
      rw [hrec, hof]
      split
      · rename_i hj
        rw [hj, hr] at hx
        rw [← Option.some.inj hx] at hsource hstate
        exact ⟨_, ⟨rfl, hgx⟩, hsource, hstate⟩
      · exact ⟨x, ⟨hx, hgx⟩, hsource, hstate⟩
    case engaged =>
      rw [hslot]
      split
      · exact h.engaged.1 p
      · exact h.engaged.1 p
    case reserved =>
      rw [hslot]
      split
      · rename_i hp
        refine ⟨fun hfalse => (by cases hfalse), fun ⟨q, hq, hqp⟩ => ?_⟩
        obtain ⟨hq, hqg⟩ := (hqueue q).1 hq
        exact absurd ((honly q hq).1 (hqp.trans hp)) hqg
      · rename_i hp
        rw [hreserved p]
        refine ⟨fun ⟨q, hq, hqp⟩ => ⟨q, (hqueue q).2 ⟨hq, fun he => ?_⟩, hqp⟩,
          fun ⟨q, hq, hqp⟩ => ⟨q, ((hqueue q).1 hq).1, hqp⟩⟩
        exact hp (hqp.symm.trans ((honly q hq).2 he))
    case empty =>
      rw [hslot] at hp ⊢
      split at hp
      · cases hp
      · rename_i hpd
        rw [if_neg hpd]
        exact hempty p hp
    case pending =>
      rw [hof]
      rw [hrec] at hx
      split at hx
      · rename_i hj
        rw [← Option.some.inj hx, hj]
        refine ⟨fun hfalse => (by cases hfalse), fun ⟨q, hq, hqw⟩ => ?_⟩
        exact absurd (hqw.trans hgr) ((hqueue q).1 hq).2
      · rename_i hj
        rw [hpending j x hx]
        refine ⟨fun ⟨q, hq, hqw⟩ => ⟨q, (hqueue q).2 ⟨hq, fun he => ?_⟩, hqw⟩,
          fun ⟨q, hq, hqw⟩ => ⟨q, ((hqueue q).1 hq).1, hqw⟩⟩
        exact hj (h.base.handleOf_inj hx hr (hqw.symm.trans (he.trans hgr.symm)))
    case names =>
      obtain ⟨x, hx, hgx⟩ := hnames q ((hqueue q).1 hq).1
      obtain ⟨x', hx'⟩ := hlive _ x hx
      exact ⟨x', hx', (hof _).trans hgx⟩
    case moves =>
      obtain ⟨x, hx, hxw, hxd⟩ := hmoves v hv d hvd
      refine ⟨x, (hqueue x).2 ⟨hx, fun he => ?_⟩, hxw, hxd⟩
      rw [hno v hv (hxw.trans (congrArg some he))] at hvd
      cases hvd
    case free =>
      obtain ⟨x, ⟨hx, hgx⟩, hclaim, hheld⟩ := h.free c (hcand ▸ hc)
      have hmis : (s.endRelocation g).misplaced (handleIndex c.handle) = s.misplaced (handleIndex c.handle) := by
        rw [State.misplaced, hdisc, hof, State.misplaced]
      unfold State.Names State.held
      rw [hrec, hof, hmis]
      split
      · rename_i hj
        rw [hj, hr] at hx
        rw [← Option.some.inj hx] at hclaim hheld
        exact ⟨_, ⟨rfl, hgx⟩, hclaim, hheld⟩
      · exact ⟨x, ⟨hx, hgx⟩, hclaim, hheld⟩

end Sys2Proof.Machine

/-! SUPPORT. Visits released and engaged, wheels admitted, retired and erased, and the warm start: what becomes of the
agreement of wheels, slots, orders and relocations. -/

namespace Sys2Proof.Machine

/-! ## Visits released, engaged and started (R082, R088, R094, R101) -/

theorem Visit.mem_slots (v : Visit) (p : Nat) : p ∈ v.slots ↔ p = v.source ∨ v.dest = some p := by
  simp [Visit.slots]

/-! Entries changed in their state alone keep their wheels and destinations. -/

section
variable {l : List Relocation} {f : Relocation → Relocation}
  (hf : ∀ q, (f q).wheel = q.wheel ∧ (f q).dest = q.dest)
include hf

theorem Relocation.exists_map (P : Nat → Nat → Prop) :
    (∃ q ∈ l.map f, P q.wheel q.dest) ↔ ∃ q ∈ l, P q.wheel q.dest := by
  constructor
  · rintro ⟨q, hq, hP⟩
    obtain ⟨x, hx, rfl⟩ := List.mem_map.1 hq
    exact ⟨x, hx, by rwa [(hf x).1, (hf x).2] at hP⟩
  · rintro ⟨x, hx, hP⟩
    exact ⟨f x, List.mem_map_of_mem hx, by rwa [(hf x).1, (hf x).2]⟩

theorem Relocation.map_wheel_map : (l.map f).map (fun q => q.wheel) = l.map fun q => q.wheel := by
  rw [List.map_map]
  exact List.map_congr_left fun q _ => (hf q).1

theorem Relocation.map_dest_map : (l.map f).map (fun q => q.dest) = l.map fun q => q.dest := by
  rw [List.map_map]
  exact List.map_congr_left fun q _ => (hf q).2

end

/-- Two unended visits never work the same wheel. -/
theorem State.claimsFor_head {s : State} {v : Visit} {U : List Visit} (h : s.claimsFor (v :: U)) {g : Nat}
    (hg : v.wheel = some g) {u : Visit} (hu : u ∈ U) : u.wheel ≠ some g := by
  obtain ⟨-, -, hwheels⟩ := h
  rw [List.filterMap_cons_some hg, List.nodup_cons] at hwheels
  exact fun he => hwheels.1 (List.mem_filterMap.2 ⟨u, hu, he⟩)

/-- The release of an unended visit, which ends it (R094). -/
theorem State.Works.releaseVisit {s : State} {v : Visit} {U : List Visit} (h : s.Works (v :: U)) :
    (s.releaseVisit v).Works U := by
  have hrec := State.record?_releaseVisit s v
  have hslot := State.slot_releaseVisit s v
  have hof : ∀ j, (s.releaseVisit v).handleOf j = s.handleOf j := fun j => by simp
  have hdisc : (s.releaseVisit v).discrepancies = s.discrepancies := by simp
  have hcand : (s.releaseVisit v).candidates = s.candidates := by simp
  have hqueue := State.relocations_releaseVisit s v
  have hback : ∀ j x, (s.releaseVisit v).record? j = some x → ∃ r, s.record? j = some r ∧
      r.location = x.location ∧ r.relocationPending = x.relocationPending ∧ r.holds = x.holds ∧
      ((v.wheel.map handleIndex = some j ∧ x.claim = .none) ∨ (v.wheel.map handleIndex ≠ some j ∧ x = r)) := by
    intro j x hx
    rw [hrec] at hx
    split at hx
    · rename_i hj
      cases hr : s.record? j with
      | none =>
        rw [hr] at hx
        cases hx
      | some r =>
        rw [hr] at hx
        rw [← Option.some.inj hx]
        exact ⟨r, rfl, rfl, rfl, rfl, .inl ⟨hj, rfl⟩⟩
    · rename_i hj
      exact ⟨x, hx, rfl, rfl, rfl, .inr ⟨hj, rfl⟩⟩
  have hon : ∀ j r, s.record? j = some r → ∃ x, (s.releaseVisit v).record? j = some x ∧
      x.location = r.location ∧ x.holds = r.holds ∧ (r.claim = .none → x.claim = .none) := by
    intro j r hr
    rw [hrec, hr]
    split
    · exact ⟨_, rfl, rfl, rfl, fun _ => rfl⟩
    · exact ⟨r, rfl, rfl, rfl, id⟩
  have hlive : ∀ j r, s.record? j = some r → ∃ x, (s.releaseVisit v).record? j = some x := fun j r hr => by
    obtain ⟨x, hx, -⟩ := hon j r hr
    exact ⟨x, hx⟩
  obtain ⟨hclaim, hvisit, hwheels⟩ := h.claims
  obtain ⟨heng, hslots⟩ := h.engaged
  obtain ⟨hw, hd, hreserved, hempty, hpending, hnames, hissued, hmoves⟩ := h.relocations
  have hother : ∀ u ∈ U, ∀ g, u.wheel = some g → v.wheel.map handleIndex ≠ some (handleIndex g) := by
    intro u hu g hg he
    obtain ⟨k, hk, hkg⟩ := Option.map_eq_some_iff.1 he
    obtain ⟨r, hr, hgr, -⟩ := h.wheel (List.mem_cons_of_mem v hu) hg
    obtain ⟨x, hx, hkx, -⟩ := h.wheel List.mem_cons_self hk
    have hsame : k = g := by rw [← hkx, hkg, hgr]
    exact State.claimsFor_head h.claims hk hu (hsame ▸ hg)
  rw [List.flatMap_cons, List.nodup_append] at hslots
  obtain ⟨-, hslotsU, hapart⟩ := hslots
  have hnot : ∀ p ∈ v.slots, ∀ u ∈ U, p ∉ u.slots := fun p hp u hu hpu =>
    hapart p hp p (List.mem_flatMap.2 ⟨u, hu, hpu⟩) rfl
  have hmem : ∀ q, q ∈ (s.releaseVisit v).relocations ↔ ∃ x ∈ s.relocations,
      (if v.wheel = some x.wheel ∧ v.dest ≠ none then { x with state := .queued } else x) = q := fun q => by
    rw [hqueue, List.mem_map]
  have hstate_only : ∀ q : Relocation,
      (if v.wheel = some q.wheel ∧ v.dest ≠ none then { q with state := .queued } else q).wheel = q.wheel ∧
      (if v.wheel = some q.wheel ∧ v.dest ≠ none then { q with state := .queued } else q).dest = q.dest := fun q => by
    split <;> exact ⟨rfl, rfl⟩
  have hkeys := fun P => hqueue ▸ Relocation.exists_map (l := s.relocations) hstate_only P
  have hmapw := hqueue ▸ Relocation.map_wheel_map (l := s.relocations) hstate_only
  have hmapd := hqueue ▸ Relocation.map_dest_map (l := s.relocations) hstate_only
  refine ⟨(Keeps.releaseVisit s v).base h.base, fun j p => ?locations, ⟨fun j x hx => ?claims, fun u hu g hg => ?visits,
    hwheels.sublist ((List.sublist_cons_self v U).filterMap _)⟩, ⟨fun p => ?engaged, hslotsU⟩, ⟨hmapw ▸ hw, hmapd ▸ hd,
    fun p => ?reserved, fun p hp => ?empty, fun j x hx => ?pending, fun q hq => ?names, fun q hq => ?issued,
    fun u hu d hud => ?moves⟩, fun c hc => ?free, State.seenRecordsLive_of h.seen hlive hof fun e he => hdisc ▸ he⟩
  case locations =>
    have hoccupant : ((s.releaseVisit v).slot p).occupant = (s.slot p).occupant := by
      rw [hslot]
      split <;> rfl
    rw [hoccupant, h.locations j p]
    constructor
    · rintro ⟨r, hr, hp⟩
      obtain ⟨x, hx, hloc, -⟩ := hon j r hr
      exact ⟨x, hx, hloc.trans hp⟩
    · rintro ⟨x, hx, hp⟩
      obtain ⟨r, hr, hloc, -⟩ := hback j x hx
      exact ⟨r, hr, hloc.trans hp⟩
  case claims =>
    rw [hof]
    obtain ⟨r, hr, -, -, -, ⟨hj, hnone⟩ | ⟨hj, rfl⟩⟩ := hback j x hx
    · obtain ⟨g, hg, hgj⟩ := Option.map_eq_some_iff.1 hj
      obtain ⟨-, -, hgx, -⟩ := h.wheel List.mem_cons_self hg
      rw [hgj] at hgx
      rw [hgx]
      exact ⟨fun hne => absurd hnone hne, fun ⟨u, hu, hug⟩ => absurd hug (State.claimsFor_head h.claims hg hu)⟩
    · rw [hclaim j x hr]
      refine ⟨fun ⟨u, hu, hug⟩ => ?_, fun ⟨u, hu, hug⟩ => ⟨u, List.mem_cons_of_mem v hu, hug⟩⟩
      rcases List.mem_cons.1 hu with rfl | hu
      · exact absurd (by rw [hug, Option.map_some, State.handleIndex_handleOf s (h.base.index_lt hr)]) hj
      · exact ⟨u, hu, hug⟩
  case visits =>
    obtain ⟨x, ⟨hx, hgx⟩, hsource, hstate⟩ := hvisit u (List.mem_cons_of_mem v hu) g hg
    exact ⟨x, ⟨by rw [hrec, if_neg (hother u hu g hg), hx], (hof _).trans hgx⟩, hsource, hstate⟩
  case engaged =>
    rw [hslot]
    split
    · rename_i hp
      rw [← v.mem_slots p] at hp
      exact ⟨fun hfalse => (by cases hfalse), fun ⟨u, hu, hpu⟩ => absurd hpu (hnot p hp u hu)⟩
    · rename_i hp
      rw [← v.mem_slots p] at hp
      rw [heng p]
      refine ⟨fun ⟨u, hu, hpu⟩ => ?_, fun ⟨u, hu, hpu⟩ => ⟨u, List.mem_cons_of_mem v hu, hpu⟩⟩
      rcases List.mem_cons.1 hu with rfl | hu
      · exact absurd hpu hp
      · exact ⟨u, hu, hpu⟩
  case reserved =>
    have hres : ((s.releaseVisit v).slot p).reserved = (s.slot p).reserved := by
      rw [hslot]
      split <;> rfl
    rw [hres, hreserved p]
    exact (hkeys fun _ d => d = p).symm
  case empty =>
    rw [hslot] at hp ⊢
    split at hp <;> rename_i hps
    · rw [if_pos hps]
      exact hempty p hp
    · rw [if_neg hps]
      exact hempty p hp
  case pending =>
    obtain ⟨r, hr, -, hpend, -⟩ := hback j x hx
    rw [← hpend, hpending j r hr, hof]
    exact (hkeys fun w _ => w = s.handleOf j).symm
  case names =>
    obtain ⟨y, hy, rfl⟩ := (hmem q).1 hq
    obtain ⟨x, hx, hgx⟩ := hnames y hy
    obtain ⟨x', hx'⟩ := hlive _ x hx
    split <;> exact ⟨x', hx', (hof _).trans hgx⟩
  case issued =>
    obtain ⟨y, hy, rfl⟩ := (hmem q).1 hq
    split
    · rename_i hvy
      refine ⟨fun hst => (by cases hst), fun ⟨u, hu, huw, _⟩ => ?_⟩
      exact absurd huw (State.claimsFor_head h.claims hvy.1 hu)
    · rename_i hvy
      rw [hissued y hy]
      refine ⟨fun ⟨u, hu, huw, hud⟩ => ?_, fun ⟨u, hu, hx⟩ => ⟨u, List.mem_cons_of_mem v hu, hx⟩⟩
      rcases List.mem_cons.1 hu with rfl | hu
      · exact absurd ⟨huw, by rw [hud]; exact Option.some_ne_none _⟩ hvy
      · exact ⟨u, hu, huw, hud⟩
  case moves =>
    obtain ⟨y, hy, hyw, hyd⟩ := hmoves u (List.mem_cons_of_mem v hu) d hud
    obtain ⟨q, hq, h1, h2⟩ := (hkeys fun w x => u.wheel = some w ∧ d = x).2 ⟨y, hy, hyw, hyd⟩
    exact ⟨q, hq, h1, h2⟩
  case free =>
    obtain ⟨x, ⟨hx, hgx⟩, hclaimed, hheld⟩ := h.free c (hcand ▸ hc)
    obtain ⟨y, hy, -, hholds, hnone⟩ := hon _ x hx
    refine ⟨y, ⟨hy, (hof _).trans hgx⟩, hnone hclaimed, ?_⟩
    rwa [State.held, State.misplaced, hdisc, hof, hholds]

/-- A visit is engaged: its wheel stands unclaimed at its source, none of its slots is engaged, and a move has its entry
in the queue (R082). -/
theorem State.Works.engageVisit {s : State} {v : Visit} {U : List Visit} (h : s.Works U)
    (hstate : v.state ≠ .started)
    (hwheel : ∀ g, v.wheel = some g → ∃ r, s.Names g r ∧ r.claim = .none ∧ r.location = some v.source)
    (hfree : ∀ p ∈ v.slots, (s.slot p).engaged = false) (hdistinct : v.slots.Nodup)
    (hmove : ∀ d, v.dest = some d → ∃ q ∈ s.relocations, v.wheel = some q.wheel ∧ d = q.dest) :
    (s.engageVisit v).Works (v :: U) := by
  have hrec := State.record?_engageVisit s v
  have hslot := State.slot_engageVisit s v
  have hof : ∀ j, (s.engageVisit v).handleOf j = s.handleOf j := fun j => by simp
  have hdisc : (s.engageVisit v).discrepancies = s.discrepancies := by simp
  have hqueue := State.relocations_engageVisit s v
  have hback : ∀ j x, (s.engageVisit v).record? j = some x → ∃ r, s.record? j = some r ∧
      r.location = x.location ∧ r.relocationPending = x.relocationPending ∧
      ((v.wheel.map handleIndex = some j ∧ x.claim = .claimed) ∨ (v.wheel.map handleIndex ≠ some j ∧ x = r)) := by
    intro j x hx
    rw [hrec] at hx
    split at hx
    · rename_i hj
      cases hr : s.record? j with
      | none =>
        rw [hr] at hx
        cases hx
      | some r =>
        rw [hr] at hx
        rw [← Option.some.inj hx]
        exact ⟨r, rfl, rfl, rfl, .inl ⟨hj, rfl⟩⟩
    · rename_i hj
      exact ⟨x, hx, rfl, rfl, .inr ⟨hj, rfl⟩⟩
  have hon : ∀ j r, s.record? j = some r → ∃ x, (s.engageVisit v).record? j = some x ∧ x.location = r.location := by
    intro j r hr
    rw [hrec, hr]
    split
    · exact ⟨_, rfl, rfl⟩
    · exact ⟨r, rfl, rfl⟩
  have hlive : ∀ j r, s.record? j = some r → ∃ x, (s.engageVisit v).record? j = some x := fun j r hr => by
    obtain ⟨x, hx, -⟩ := hon j r hr
    exact ⟨x, hx⟩
  have hidx : ∀ g, v.wheel = some g → s.handleOf (handleIndex g) = g := fun g hg => by
    obtain ⟨r, ⟨-, hgr⟩, -⟩ := hwheel g hg
    exact hgr
  obtain ⟨hclaim, hvisit, hwheels⟩ := h.claims
  obtain ⟨heng, hslots⟩ := h.engaged
  obtain ⟨hw, hd, hreserved, hempty, hpending, hnames, hissued, hmoves⟩ := h.relocations
  have hnew : ∀ g, v.wheel = some g → ∀ u ∈ U, u.wheel ≠ some g := fun g hg u hu hug => by
    obtain ⟨r, ⟨hr, hgr⟩, hc, -⟩ := hwheel g hg
    exact h.no_visit hr hc hu (by rw [hgr, hug])
  have hother : ∀ u ∈ U, ∀ g, u.wheel = some g → v.wheel.map handleIndex ≠ some (handleIndex g) := by
    intro u hu g hg he
    obtain ⟨k, hk, hkg⟩ := Option.map_eq_some_iff.1 he
    obtain ⟨-, -, hgr, -⟩ := h.wheel hu hg
    exact hnew k hk u hu (by rw [hg, ← hgr, ← hkg, hidx k hk])
  have hmem : ∀ q, q ∈ (s.engageVisit v).relocations ↔ ∃ x ∈ s.relocations,
      (if v.wheel = some x.wheel ∧ v.dest ≠ none then { x with state := .issued } else x) = q := fun q => by
    rw [hqueue, List.mem_map]
  have hstate_only : ∀ q : Relocation,
      (if v.wheel = some q.wheel ∧ v.dest ≠ none then { q with state := .issued } else q).wheel = q.wheel ∧
      (if v.wheel = some q.wheel ∧ v.dest ≠ none then { q with state := .issued } else q).dest = q.dest := fun q => by
    split <;> exact ⟨rfl, rfl⟩
  have hkeys := fun P => hqueue ▸ Relocation.exists_map (l := s.relocations) hstate_only P
  have hmapw := hqueue ▸ Relocation.map_wheel_map (l := s.relocations) hstate_only
  have hmapd := hqueue ▸ Relocation.map_dest_map (l := s.relocations) hstate_only
  refine ⟨(Keeps.engageVisit s v).base h.base, fun j p => ?locations, ⟨fun j x hx => ?claims, fun u hu g hg => ?visits,
    ?wheels⟩, ⟨fun p => ?engaged, ?slots⟩, ⟨hmapw ▸ hw, hmapd ▸ hd, fun p => ?reserved, fun p hp => ?empty,
    fun j x hx => ?pending, fun q hq => ?names, fun q hq => ?issued, fun u hu d hud => ?moves⟩, fun c hc => ?free,
    State.seenRecordsLive_of h.seen hlive hof fun e he => hdisc ▸ he⟩
  case locations =>
    have hoccupant : ((s.engageVisit v).slot p).occupant = (s.slot p).occupant := by
      rw [hslot]
      split <;> rfl
    rw [hoccupant, h.locations j p]
    constructor
    · rintro ⟨r, hr, hp⟩
      obtain ⟨x, hx, hloc⟩ := hon j r hr
      exact ⟨x, hx, hloc.trans hp⟩
    · rintro ⟨x, hx, hp⟩
      obtain ⟨r, hr, hloc, -⟩ := hback j x hx
      exact ⟨r, hr, hloc.trans hp⟩
  case claims =>
    rw [hof]
    obtain ⟨r, hr, -, -, ⟨hj, hclaimed⟩ | ⟨hj, rfl⟩⟩ := hback j x hx
    · obtain ⟨g, hg, hgj⟩ := Option.map_eq_some_iff.1 hj
      have hgx := hidx g hg
      rw [hgj] at hgx
      exact ⟨fun _ => ⟨v, List.mem_cons_self, by rw [hg, hgx]⟩, fun _ => by rw [hclaimed]; simp⟩
    · rw [hclaim j x hr]
      refine ⟨fun ⟨u, hu, hug⟩ => ⟨u, List.mem_cons_of_mem v hu, hug⟩, fun ⟨u, hu, hug⟩ => ?_⟩
      rcases List.mem_cons.1 hu with rfl | hu
      · exact absurd (by rw [hug, Option.map_some, State.handleIndex_handleOf s (h.base.index_lt hr)]) hj
      · exact ⟨u, hu, hug⟩
  case visits =>
    rcases List.mem_cons.1 hu with rfl | hu
    · obtain ⟨r, ⟨hr, hgr⟩, hc, hsource⟩ := hwheel g hg
      refine ⟨{ r with claim := .claimed }, ⟨?_, (hof _).trans hgr⟩, hsource, ?_⟩
      · rw [hrec, if_pos (by rw [hg]; rfl), hr]
        rfl
      · simp [hstate]
    · obtain ⟨x, ⟨hx, hgx⟩, hsource, hst⟩ := hvisit u hu g hg
      exact ⟨x, ⟨by rw [hrec, if_neg (hother u hu g hg), hx], (hof _).trans hgx⟩, hsource, hst⟩
  case wheels =>
    cases hg : v.wheel with
    | none => rwa [List.filterMap_cons_none hg]
    | some g =>
      rw [List.filterMap_cons_some hg, List.nodup_cons]
      refine ⟨fun hin => ?_, hwheels⟩
      obtain ⟨u, hu, hug⟩ := List.mem_filterMap.1 hin
      exact hnew g hg u hu hug
  case engaged =>
    rw [hslot]
    split
    · rename_i hp
      rw [← v.mem_slots p] at hp
      exact ⟨fun _ => ⟨v, List.mem_cons_self, hp⟩, fun _ => rfl⟩
    · rename_i hp
      rw [← v.mem_slots p] at hp
      rw [heng p]
      refine ⟨fun ⟨u, hu, hpu⟩ => ⟨u, List.mem_cons_of_mem v hu, hpu⟩, fun ⟨u, hu, hpu⟩ => ?_⟩
      rcases List.mem_cons.1 hu with rfl | hu
      · exact absurd hpu hp
      · exact ⟨u, hu, hpu⟩
  case slots =>
    rw [List.flatMap_cons, List.nodup_append]
    refine ⟨hdistinct, hslots, fun p hp q hq hpq => ?_⟩
    obtain ⟨u, hu, hqu⟩ := List.mem_flatMap.1 hq
    have hengaged := (heng q).2 ⟨u, hu, hqu⟩
    rw [← hpq, hfree p hp] at hengaged
    cases hengaged
  case reserved =>
    have hres : ((s.engageVisit v).slot p).reserved = (s.slot p).reserved := by
      rw [hslot]
      split <;> rfl
    rw [hres, hreserved p]
    exact (hkeys fun _ d => d = p).symm
  case empty =>
    rw [hslot] at hp ⊢
    split at hp <;> rename_i hps
    · rw [if_pos hps]
      exact hempty p hp
    · rw [if_neg hps]
      exact hempty p hp
  case pending =>
    obtain ⟨r, hr, -, hpend, -⟩ := hback j x hx
    rw [← hpend, hpending j r hr, hof]
    exact (hkeys fun w _ => w = s.handleOf j).symm
  case names =>
    obtain ⟨y, hy, rfl⟩ := (hmem q).1 hq
    obtain ⟨x, hx, hgx⟩ := hnames y hy
    obtain ⟨x', hx'⟩ := hlive _ x hx
    split <;> exact ⟨x', hx', (hof _).trans hgx⟩
  case issued =>
    obtain ⟨y, hy, rfl⟩ := (hmem q).1 hq
    split
    · rename_i hvy
      obtain ⟨d, hvd⟩ := Option.ne_none_iff_exists'.1 hvy.2
      obtain ⟨z, hz, hzw, hzd⟩ := hmove d hvd
      have hyz : y = z := List.inj_on_of_nodup_map hw hy hz (Option.some.inj (hvy.1.symm.trans hzw))
      exact ⟨fun _ => ⟨v, List.mem_cons_self, hvy.1, by rw [hvd, hzd, hyz]⟩, fun _ => rfl⟩
    · rename_i hvy
      rw [hissued y hy]
      refine ⟨fun ⟨u, hu, hx⟩ => ⟨u, List.mem_cons_of_mem v hu, hx⟩, fun ⟨u, hu, huw, hud⟩ => ?_⟩
      rcases List.mem_cons.1 hu with rfl | hu
      · exact absurd ⟨huw, by rw [hud]; exact Option.some_ne_none _⟩ hvy
      · exact ⟨u, hu, huw, hud⟩
  case moves =>
    have hentry : ∃ y ∈ s.relocations, u.wheel = some y.wheel ∧ d = y.dest := by
      rcases List.mem_cons.1 hu with rfl | hu
      · exact hmove d hud
      · exact hmoves u hu d hud
    exact (hkeys fun w x => u.wheel = some w ∧ d = x).2 hentry
  case free =>
    have hsub : c ∈ s.candidates ∧ v.wheel.map handleIndex ≠ some (handleIndex c.handle) := by
      unfold State.engageVisit at hc
      cases hg : v.wheel with
      | none =>
        refine ⟨by simpa [hg] using hc, by simp⟩
      | some g =>
        cases hvd : v.dest <;> simp [hg, hvd, State.dropCandidate] at hc <;> exact ⟨hc.1, by simpa using Ne.symm hc.2⟩
    obtain ⟨x, ⟨hx, hgx⟩, hclaimed, hheld⟩ := h.free c hsub.1
    refine ⟨x, ⟨by rw [hrec, if_neg hsub.2, hx], (hof _).trans hgx⟩, hclaimed, ?_⟩
    rwa [State.held, State.misplaced, hdisc, hof]

end Sys2Proof.Machine

/-! SUPPORT. Visits started, wheels admitted, retired and erased, and the starts: what becomes of the agreement of
wheels, slots, orders and relocations. -/

namespace Sys2Proof.Machine

/-! ## A visit started (R088) -/

/-- The wheel of a visit in the robot's hand. -/
def State.takeInHand (s : State) (v : Visit) : State :=
  match v.wheel with
  | none => s
  | some h => s.setClaim (handleIndex h) .inHand

theorem Keeps.takeInHand (s : State) (v : Visit) : Keeps s (s.takeInHand v) := by
  unfold State.takeInHand
  split
  · exact Keeps.refl s
  · exact Keeps.setClaim s _ _

theorem State.Works.takeInHand {s : State} {v w : Visit} {U : List Visit} (h : s.Works (v :: U))
    (hwheel : w.wheel = v.wheel) (hsource : w.source = v.source) (hdest : w.dest = v.dest)
    (hstate : w.state = .started) : (s.takeInHand v).Works (w :: U) := by
  have hrec : ∀ j, (s.takeInHand v).record? j = if v.wheel.map handleIndex = some j
      then (s.record? j).map fun r => { r with claim := .inHand } else s.record? j := by
    intro j
    unfold State.takeInHand
    cases hg : v.wheel with
    | none => simp
    | some g =>
      dsimp only
      rw [State.record?_setClaim]
      by_cases hj : j = handleIndex g
      · simp [hj]
      · simp [hj, Ne.symm hj]
  have hframe : s.takeInHand v = { s with registry := (s.takeInHand v).registry } ∧
      ∀ j, (s.takeInHand v).handleOf j = s.handleOf j := by
    unfold State.takeInHand
    split
    · exact ⟨rfl, fun _ => rfl⟩
    · exact ⟨by apply State.ext <;> simp, fun j => by simp⟩
  obtain ⟨hframe, hof⟩ := hframe
  have hslot : ∀ p, (s.takeInHand v).slot p = s.slot p := fun p => by rw [hframe]; rfl
  have hqueue : (s.takeInHand v).relocations = s.relocations := by rw [hframe]
  have hdisc : (s.takeInHand v).discrepancies = s.discrepancies := by rw [hframe]
  have hcand : (s.takeInHand v).candidates = s.candidates := by rw [hframe]
  have hback : ∀ j x, (s.takeInHand v).record? j = some x → ∃ r, s.record? j = some r ∧
      r.location = x.location ∧ r.relocationPending = x.relocationPending ∧
      ((v.wheel.map handleIndex = some j ∧ x.claim = .inHand) ∨ x = r) := by
    intro j x hx
    rw [hrec] at hx
    split at hx
    · rename_i hj
      cases hr : s.record? j with
      | none =>
        rw [hr] at hx
        cases hx
      | some r =>
        rw [hr] at hx
        rw [← Option.some.inj hx]
        exact ⟨r, rfl, rfl, rfl, .inl ⟨hj, rfl⟩⟩
    · exact ⟨x, hx, rfl, rfl, .inr rfl⟩
  have hon : ∀ j r, s.record? j = some r → ∃ x, (s.takeInHand v).record? j = some x ∧ x.location = r.location := by
    intro j r hr
    rw [hrec, hr]
    split
    · exact ⟨_, rfl, rfl⟩
    · exact ⟨r, rfl, rfl⟩
  have hlive : ∀ j r, s.record? j = some r → ∃ x, (s.takeInHand v).record? j = some x := fun j r hr => by
    obtain ⟨x, hx, -⟩ := hon j r hr
    exact ⟨x, hx⟩
  obtain ⟨hclaim, hvisit, hwheels⟩ := h.claims
  obtain ⟨heng, hslots⟩ := h.engaged
  obtain ⟨hw, hd, hreserved, hempty, hpending, hnames, hissued, hmoves⟩ := h.relocations
  have hexists : ∀ P : Option Nat → Option Nat → Prop,
      (∃ u ∈ w :: U, P u.wheel u.dest) ↔ ∃ u ∈ v :: U, P u.wheel u.dest := fun P => by
    simp only [List.mem_cons, exists_eq_or_imp, hwheel, hdest]
  have hsame : w.slots = v.slots := by rw [Visit.slots, Visit.slots, hsource, hdest]
  refine ⟨(Keeps.takeInHand s v).base h.base, fun j p => ?locations, ⟨fun j x hx => ?claims, fun u hu g hg => ?visits,
    by rwa [List.filterMap_cons, hwheel, ← List.filterMap_cons]⟩, ⟨fun p => ?engaged, ?slots⟩,
    ⟨hqueue ▸ hw, hqueue ▸ hd, fun p => by rw [hslot, hqueue]; exact hreserved p,
    fun p hp => hslot p ▸ hempty p (hslot p ▸ hp), fun j x hx => ?waiting, fun q hq => ?names,
    fun q hq => (hissued q (hqueue ▸ hq)).trans (hexists fun a b => a = some q.wheel ∧ b = some q.dest).symm,
    fun u hu d hud => ?moves⟩, fun c hc => ?free, State.seenRecordsLive_of h.seen hlive hof fun e he => hdisc ▸ he⟩
  case locations =>
    rw [hslot, h.locations j p]
    constructor
    · rintro ⟨r, hr, hp⟩
      obtain ⟨x, hx, hloc⟩ := hon j r hr
      exact ⟨x, hx, hloc.trans hp⟩
    · rintro ⟨x, hx, hp⟩
      obtain ⟨r, hr, hloc, -⟩ := hback j x hx
      exact ⟨r, hr, hloc.trans hp⟩
  case claims =>
    rw [hof, hexists fun a _ => a = some (s.handleOf j)]
    obtain ⟨r, hr, -, -, ⟨hj, hin⟩ | rfl⟩ := hback j x hx
    · obtain ⟨g, hg, hgj⟩ := Option.map_eq_some_iff.1 hj
      obtain ⟨-, -, hgx, -⟩ := h.wheel List.mem_cons_self hg
      rw [hgj] at hgx
      exact ⟨fun _ => ⟨v, List.mem_cons_self, by rw [hg, hgx]⟩, fun _ => by rw [hin]; simp⟩
    · exact hclaim j x hr
  case visits =>
    rcases List.mem_cons.1 hu with rfl | hu
    · rw [hwheel] at hg
      obtain ⟨r, ⟨hr, hgr⟩, hloc, -⟩ := hvisit v List.mem_cons_self g hg
      refine ⟨{ r with claim := .inHand }, ⟨?_, (hof _).trans hgr⟩, by rw [hsource]; exact hloc, by simp [hstate]⟩
      rw [hrec, if_pos (by rw [hg]; rfl), hr]
      rfl
    · obtain ⟨x, ⟨hx, hgx⟩, hloc, hst⟩ := hvisit u (List.mem_cons_of_mem v hu) g hg
      refine ⟨x, ⟨?_, (hof _).trans hgx⟩, hloc, hst⟩
      rw [hrec, if_neg fun he => ?_, hx]
      obtain ⟨k, hk, hkg⟩ := Option.map_eq_some_iff.1 he
      obtain ⟨-, -, hkx, -⟩ := h.wheel List.mem_cons_self hk
      have hkg' : k = g := by rw [← hkx, hkg, hgx]
      exact State.claimsFor_head h.claims hk hu (hkg' ▸ hg)
  case engaged =>
    rw [hslot, heng p]
    simp only [List.mem_cons, exists_eq_or_imp, hsame]
  case slots =>
    rw [List.flatMap_cons, hsame, ← List.flatMap_cons]
    exact hslots
  case waiting =>
    obtain ⟨r, hr, -, hpend, -⟩ := hback j x hx
    rw [← hpend, hof, hqueue]
    exact hpending j r hr
  case names =>
    obtain ⟨x, hx, hgx⟩ := hnames q (hqueue ▸ hq)
    obtain ⟨x', hx'⟩ := hlive _ x hx
    exact ⟨x', hx', (hof _).trans hgx⟩
  case moves =>
    rw [hqueue]
    rcases List.mem_cons.1 hu with rfl | hu
    · rw [hwheel]
      exact hmoves v List.mem_cons_self d (hdest ▸ hud)
    · exact hmoves u (List.mem_cons_of_mem v hu) d hud
  case free =>
    obtain ⟨x, ⟨hx, hgx⟩, hclaimed, hheld⟩ := h.free c (hcand ▸ hc)
    refine ⟨x, ⟨?_, (hof _).trans hgx⟩, hclaimed, by rwa [State.held, State.misplaced, hdisc, hof]⟩
    rw [hrec, if_neg fun he => ?_, hx]
    obtain ⟨k, hk, hkg⟩ := Option.map_eq_some_iff.1 he
    obtain ⟨r, hr, -, hne, -⟩ := h.wheel List.mem_cons_self hk
    rw [hkg, hx] at hr
    exact hne (Option.some.inj hr ▸ hclaimed)

/-! ## Wheels admitted (R041) -/

/-- A new record, off the map, unclaimed and with no relocation, at a free index and under a new tag. -/
theorem State.Works.admitAt {s : State} {U : List Visit} (h : s.Works U) {i : Nat} {r : WheelRecord} (hi : i < 4096)
    (hnone : s.record? i = none) (htag : s.registry.tagIndex.read? r.tag = none) (hover : r.overdue = false)
    (hloc : r.location = none) (hc : r.claim = .none) (hpend : r.relocationPending = false) :
    (s.admitAt i r).Works U := by
  have hrec : ∀ j, (s.admitAt i r).record? j = if j = i then some r else s.record? j :=
    fun j => Table.read?_write _ i j r
  have hsame : ∀ j x, s.record? j = some x → (s.admitAt i r).record? j = some x := fun j x hx => by
    rw [hrec, if_neg fun he => (by rw [he, hnone] at hx; cases hx), hx]
  obtain ⟨hclaim, hvisit, hwheels⟩ := h.claims
  obtain ⟨hw, hd, hreserved, hempty, hpending, hnames, hissued, hmoves⟩ := h.relocations
  have hnew : ∀ g, (∃ x, s.Names g x) → g ≠ s.handleOf i := by
    rintro g ⟨x, hx, -⟩ rfl
    rw [State.handleIndex_handleOf s hi, hnone] at hx
    cases hx
  refine ⟨(Keeps.admitAt hi (fun _ => hnone) htag hover).base h.base, fun j p => ?locations, ⟨fun j x hx => ?claims,
    fun v hv g hg => ?visits, hwheels⟩, h.engaged, ⟨hw, hd, hreserved, hempty, fun j x hx => ?pending,
    fun q hq => ?names, hissued, hmoves⟩, fun c hcand => ?free, State.seenRecordsLive_of h.seen
      (fun j x hx => ⟨x, hsame j x hx⟩) (fun _ => rfl) fun e he => he⟩
  case locations =>
    refine (h.locations j p).trans ⟨fun ⟨x, hx, hp⟩ => ⟨x, hsame j x hx, hp⟩, fun ⟨x, hx, hp⟩ => ?_⟩
    rw [hrec] at hx
    split at hx
    · rw [← Option.some.inj hx, hloc] at hp
      cases hp
    · exact ⟨x, hx, hp⟩
  case claims =>
    rw [hrec] at hx
    split at hx
    · rename_i hj
      rw [← Option.some.inj hx, hj]
      refine ⟨fun hne => absurd hc hne, fun ⟨v, hv, hvw⟩ => ?_⟩
      obtain ⟨x, hn, -⟩ := hvisit v hv _ hvw
      exact absurd rfl (hnew _ ⟨x, hn⟩)
    · exact hclaim j x hx
  case visits =>
    obtain ⟨x, ⟨hx, hgx⟩, hrest⟩ := hvisit v hv g hg
    exact ⟨x, ⟨hsame _ x hx, hgx⟩, hrest⟩
  case pending =>
    rw [hrec] at hx
    split at hx
    · rename_i hj
      rw [← Option.some.inj hx, hj, hpend]
      refine ⟨fun hfalse => (by cases hfalse), fun ⟨q, hq, hqw⟩ => ?_⟩
      exact absurd hqw (hnew _ (hnames q hq))
    · exact hpending j x hx
  case names =>
    obtain ⟨x, hx, hgx⟩ := hnames q hq
    exact ⟨x, hsame _ x hx, hgx⟩
  case free =>
    obtain ⟨x, ⟨hx, hgx⟩, hrest⟩ := h.free c hcand
    exact ⟨x, ⟨hsame _ x hx, hgx⟩, hrest⟩

/-- A wheel off the map takes a slot that stands empty and is not reserved. -/
theorem State.Works.locateAt {s : State} {U : List Visit} (h : s.Works U) {i : Nat} {r : WheelRecord}
    {p? : Option Nat} (hr : s.record? i = some r) (hloc : r.location = none) (hc : r.claim = .none)
    (hp : ∀ p, p? = some p → (s.slot p).occupant = none ∧ (s.slot p).reserved = false) :
    (s.locateAt i p?).Works U := by
  have hmove := h.moveRecord hr hc fun p hpp => ⟨.inl (hp p hpp).1, (hp p hpp).2⟩
  have hrec : ∀ j, (s.locateAt i p?).record? j = if j = i then some { r with location := p? } else s.record? j := by
    intro j
    rw [State.record?_locateAt, hr]
    cases p? <;> simp [hloc]
  refine Views.works (s := s.moveRecord i p?) ⟨fun j => ?records, fun q => ?slots, fun j => by simp, by simp⟩
    ((Keeps.locateAt s i p?).base h.base) (fun c hcand => ?free) ?seen hmove
  case records => rw [hrec, State.record?_moveRecord, hr]; rfl
  case slots =>
    rw [State.slot_locateAt, State.slot_moveRecord, hr]
    by_cases hq : p? = some q
    · simp [hq, SlotRecord.work]
    · simp [hq, hloc, SlotRecord.work]
  case free =>
    obtain ⟨x, ⟨hx, hgx⟩, hclaim, hheld⟩ := h.free c (by simpa using hcand)
    have hmis : (s.locateAt i p?).misplaced (handleIndex c.handle) = s.misplaced (handleIndex c.handle) := by
      simp [State.misplaced]
    have hof : (s.locateAt i p?).handleOf (handleIndex c.handle) = c.handle := by simpa using hgx
    unfold State.Names State.held
    rw [hrec, hof, hmis]
    split
    · rename_i hj
      rw [hj, hr] at hx
      rw [← Option.some.inj hx] at hclaim hheld
      exact ⟨_, ⟨rfl, rfl⟩, hclaim, hheld⟩
    · exact ⟨x, ⟨hx, rfl⟩, hclaim, hheld⟩
  case seen =>
    refine State.seenRecordsLive_of h.seen (fun j x hx => ?_) (fun j => by simp) fun e he => by simpa using he
    rw [hrec]
    split
    · exact ⟨_, rfl⟩
    · exact ⟨x, hx⟩

/-! ## Wheels retired and erased (R049, R050) -/

/-- The record, its tag and its handle leave, and every entry forgets the handle. -/
def State.forgetRecord (s : State) (i tag g h : Nat) : State :=
  { s with
    registry := { s.registry with
      records := s.registry.records.clear i
      generations := s.registry.generations.writeD 0 i g
      tagIndex := s.registry.tagIndex.clear tag }
    discrepancies := s.discrepancies.mapValues fun _ e => e.forget h }

theorem State.retireRecord_eq (s : State) (i : Nat) (r : WheelRecord) : s.retireRecord i r =
    (((s.moveRecord i none).endRelocation (s.handleOf i)).setOverdue i false).forgetRecord i r.tag
      ((s.generation i + 1) % 16) (s.handleOf i) := rfl

theorem State.Works.forgetRecord {s : State} {U : List Visit} (h : s.Works U) {i g : Nat} {r : WheelRecord}
    (hr : s.record? i = some r) (hover : r.overdue = false) (hloc : r.location = none) (hc : r.claim = .none)
    (hpend : r.relocationPending = false) (hcand : ∀ c ∈ s.candidates, handleIndex c.handle ≠ i) :
    (s.forgetRecord i r.tag g (s.handleOf i)).Works U := by
  have hrec : ∀ j, (s.forgetRecord i r.tag g (s.handleOf i)).record? j = if j = i then none else s.record? j :=
    fun j => Table.read?_clear _ i j
  have hof : ∀ j, j ≠ i → (s.forgetRecord i r.tag g (s.handleOf i)).handleOf j = s.handleOf j := by
    intro j hj
    have hgen : (s.forgetRecord i r.tag g (s.handleOf i)).generation j = s.generation j :=
      Table.readD_writeD_ne _ _ _ hj
    rw [State.handleOf, hgen, State.handleOf]
  have hnames' : ∀ k, k ≠ s.handleOf i → ∀ x, s.Names k x → (s.forgetRecord i r.tag g (s.handleOf i)).Names k x := by
    intro k hk x hx
    have hne : handleIndex k ≠ i := fun he => hk (by rw [← hx.2, he])
    exact ⟨by rw [hrec, if_neg hne, hx.1], (hof _ hne).trans hx.2⟩
  obtain ⟨hclaim, hvisit, hwheels⟩ := h.claims
  obtain ⟨hw, hd, hreserved, hempty, hpending, hnames, hissued, hmoves⟩ := h.relocations
  have hqueue : ∀ q ∈ s.relocations, q.wheel ≠ s.handleOf i := fun q hq he => by
    have := (hpending i r hr).2 ⟨q, hq, he⟩
    rw [hpend] at this
    cases this
  have hseen : ∀ k e, (k, e) ∈ (s.forgetRecord i r.tag g (s.handleOf i)).discrepancies → ∀ y, e.seenRecord = some y →
      y ≠ s.handleOf i ∧ ∃ x ∈ s.discrepancies, x.2.seenRecord = some y := by
    intro k e he y hy
    obtain ⟨x, hx, hxe⟩ := List.mem_map.1 he
    rw [← (Prod.mk.inj hxe).2] at hy
    simp only [Discrepancy.forget] at hy
    split at hy
    · cases hy
    · rename_i hne
      exact ⟨fun hys => hne (hys ▸ hy), x, hx, hy⟩
  refine ⟨(Keeps.clearRecord hr hover (s.handleOf i)).base h.base, fun j p => ?locations, ⟨fun j x hx => ?claims,
    fun v hv k hk => ?visits, hwheels⟩, h.engaged, ⟨hw, hd, hreserved, hempty, fun j x hx => ?pending,
    fun q hq => ?names, hissued, hmoves⟩, fun c hc => ?free, fun e he y hy => ?seen⟩
  case locations =>
    refine (h.locations j p).trans ?_
    rw [hrec]
    split
    · rename_i hj
      rw [hj, hr]
      refine ⟨fun ⟨x, hx, hp⟩ => ?_, fun ⟨x, hx, _⟩ => (by cases hx)⟩
      rw [← Option.some.inj hx, hloc] at hp
      cases hp
    · rfl
  case claims =>
    rw [hrec] at hx
    split at hx
    · cases hx
    · rename_i hj
      rw [hof j hj]
      exact hclaim j x hx
  case visits =>
    obtain ⟨x, hn, hrest⟩ := hvisit v hv k hk
    exact ⟨x, hnames' k (fun he => h.no_visit hr hc hv (he ▸ hk)) x hn, hrest⟩
  case pending =>
    rw [hrec] at hx
    split at hx
    · cases hx
    · rename_i hj
      rw [hof j hj]
      exact hpending j x hx
  case names =>
    obtain ⟨x, hn⟩ := hnames q hq
    exact ⟨x, hnames' _ (hqueue q hq) x hn⟩
  case free =>
    obtain ⟨x, hn, hclaimed, hheld⟩ := h.free c hc
    have hne := hcand c hc
    have hk : c.handle ≠ s.handleOf i := fun he => hne (by rw [he, State.handleIndex_handleOf s (h.base.index_lt hr)])
    refine ⟨x, hnames' _ hk x hn, hclaimed, ?_⟩
    rw [State.held, Bool.or_eq_false_iff] at hheld ⊢
    refine ⟨hheld.1, ?_⟩
    have hmis := hheld.2
    simp only [State.misplaced, List.any_eq_false, decide_eq_true_eq] at hmis ⊢
    intro e he hsame
    rw [hof _ hne] at hsame
    obtain ⟨-, y, hy, hys⟩ := hseen e.1 e.2 he _ hsame
    exact hmis y hy hys
  case seen =>
    obtain ⟨hne, x, hx, hxy⟩ := hseen e.1 e.2 he y hy
    obtain ⟨z, hz⟩ := h.seen x hx y hxy
    exact ⟨z, hnames' y hne z hz⟩

theorem State.Works.retireRecord {s : State} {U : List Visit} (h : s.Works U) {i : Nat} {r : WheelRecord}
    (hr : s.record? i = some r) (hc : r.claim = .none) : (s.retireRecord i r).Works U := by
  have hmoved := h.moveRecord (p? := none) hr hc fun p hp => (by cases hp)
  have hended := hmoved.endRelocation (g := s.handleOf i) fun v hv hw => absurd hw (h.no_visit hr hc hv)
  have hmarked := (Mild.setOverdue _ i false).works hended
  have hidx := State.handleIndex_handleOf s (h.base.index_lt hr)
  have hlive : ∃ x, (((s.moveRecord i none).endRelocation (s.handleOf i)).setOverdue i false).record? i = some x ∧
      x.tag = r.tag ∧ x.overdue = false ∧ x.location = none ∧ x.claim = .none ∧ x.relocationPending = false := by
    rw [State.record?_setOverdue, if_pos rfl, State.record?_endRelocation, hidx, State.record?_moveRecord, if_pos rfl,
      hr]
    split
    · exact ⟨_, rfl, rfl, rfl, rfl, hc, rfl⟩
    · rename_i hnone
      have hentry : (s.moveRecord i none).relocationOf? (s.handleOf i) = none := by
        by_contra hne
        exact hnone ⟨rfl, hne⟩
      refine ⟨_, rfl, rfl, rfl, rfl, hc, ?_⟩
      obtain ⟨-, -, -, -, hpending, -⟩ := h.relocations
      refine Bool.eq_false_iff.2 fun hp => ?_
      obtain ⟨q, hq, hqw⟩ := (hpending i r hr).1 hp
      have hf := h.relocationOf? hq
      rw [hqw] at hf
      have hsame : (s.moveRecord i none).relocationOf? (s.handleOf i) = s.relocationOf? (s.handleOf i) := by
        simp [State.relocationOf?]
      rw [hsame, hf] at hentry
      cases hentry
  obtain ⟨x, hx, htag, hover, hloc, hclaim, hpend⟩ := hlive
  have hcand : ∀ c ∈ (((s.moveRecord i none).endRelocation (s.handleOf i)).setOverdue i false).candidates,
      handleIndex c.handle ≠ i := by
    intro c hcm
    have hmem : c ∈ (s.moveRecord i none).candidates := by simpa using hcm
    exact of_decide_eq_true (List.mem_filter.1 hmem).2
  have hforget := hmarked.forgetRecord (g := (s.generation i + 1) % 16) hx hover hloc hclaim hpend hcand
  have hof : (((s.moveRecord i none).endRelocation (s.handleOf i)).setOverdue i false).handleOf i = s.handleOf i := by
    simp
  rw [htag, hof] at hforget
  rw [State.retireRecord_eq]
  exact hforget

/-- Nothing is left of the wheels once no order is open (R050). -/
theorem State.Works.erase {s : State} (h : s.Works []) : s.erase.Works [] := by
  have hslot : ∀ p, s.erase.slot p = (s.slot p).erased := fun p =>
    Table.readD_mapD s.shelf.slots (fun _ => SlotRecord.cold) (fun _ v => v.erased) p
      (State.slots_ordered h.base.tables) rfl
  have hnone : ∀ i, s.erase.record? i = none := fun _ => rfl
  refine ⟨(Keeps.erase s).base h.base, fun i p => ?_, ⟨fun i r hr => (by cases hr), fun v hv => (by cases hv), .nil⟩,
    ⟨fun p => ?_, .nil⟩, ⟨.nil, .nil, fun p => ?_, fun p _ => by rw [hslot]; rfl, fun i r hr => (by cases hr),
    fun q hq => (by cases hq), fun q hq => (by cases hq), fun v hv => (by cases hv)⟩, fun c hc => (by cases hc),
    fun e he => (by cases he)⟩
  · rw [hslot, hnone]
    exact ⟨fun hx => (by cases hx), fun ⟨r, hr, _⟩ => (by cases hr)⟩
  · rw [hslot]
    exact ⟨fun hx => (by cases hx), fun ⟨v, hv, _⟩ => (by cases hv)⟩
  · rw [hslot]
    exact ⟨fun hx => (by cases hx), fun ⟨q, hq, _⟩ => (by cases hq)⟩

/-! ## The starts (R198) -/

/-- A warm start ends every visit: no claim and no engagement is left, and every relocation waits again. -/
theorem State.Works.warmStart {s : State} {U : List Visit} (h : s.Works U) : s.warmStart.Works [] := by
  obtain ⟨hreg, -, -, hcand, -, hqueue, -, -⟩ := s.warmStart_kept
  obtain ⟨-, -, -, -, hdisc, -, -⟩ := s.warmStart_fields
  have hrec := State.record?_warmStart s
  have hslot := State.slot_warmStart h.base.tables
  have hof : ∀ i, s.warmStart.handleOf i = s.handleOf i := fun i => by
    rw [State.handleOf, State.generation, hreg]
    rfl
  have hqueue' : s.warmStart.relocations = s.relocations.map fun q => { q with state := .queued } := hqueue
  have hback : ∀ j x, s.warmStart.record? j = some x → ∃ r, s.record? j = some r ∧ r.afterWarm = x := fun j x hx => by
    rw [hrec] at hx
    exact Option.map_eq_some_iff.1 hx
  have hlive : ∀ j r, s.record? j = some r → ∃ x, s.warmStart.record? j = some x := fun j r hr => by
    rw [hrec, hr]
    exact ⟨_, rfl⟩
  obtain ⟨hw, hd, hreserved, hempty, hpending, hnames, -, -⟩ := h.relocations
  have hstate_only : ∀ q : Relocation, ({ q with state := .queued } : Relocation).wheel = q.wheel ∧
      ({ q with state := .queued } : Relocation).dest = q.dest := fun q => ⟨rfl, rfl⟩
  have hkeys := fun P => hqueue' ▸ Relocation.exists_map (l := s.relocations) hstate_only P
  refine ⟨(Keeps.warmStart s).base h.base, fun j p => ?locations, ⟨fun j x hx => ?claims, fun v hv => (by cases hv),
    .nil⟩, ⟨fun p => ?engaged, .nil⟩, ⟨?wheels, ?dests, fun p => ?reserved, fun p hp => ?empty,
    fun j x hx => ?pending, fun q hq => ?names, fun q hq => ?issued, fun v hv => (by cases hv)⟩, fun c hc => ?free,
    State.seenRecordsLive_of h.seen hlive hof fun e he => hdisc ▸ he⟩
  case locations =>
    rw [hslot]
    refine (h.locations j p).trans ⟨fun ⟨r, hr, hp⟩ => ⟨r.afterWarm, by rw [hrec, hr]; rfl, ?_⟩, fun ⟨x, hx, hp⟩ => ?_⟩
    · rw [r.afterWarm_fields.2.2.1]
      exact hp
    · obtain ⟨r, hr, rfl⟩ := hback j x hx
      exact ⟨r, hr, r.afterWarm_fields.2.2.1 ▸ hp⟩
  case claims =>
    obtain ⟨r, hr, rfl⟩ := hback j x hx
    exact ⟨fun hne => absurd r.afterWarm_fields.2.2.2.1 hne, fun ⟨v, hv, _⟩ => (by cases hv)⟩
  case engaged =>
    rw [hslot]
    exact ⟨fun hx => (by cases hx), fun ⟨v, hv, _⟩ => (by cases hv)⟩
  case wheels => rwa [hqueue', Relocation.map_wheel_map hstate_only]
  case dests => rwa [hqueue', Relocation.map_dest_map hstate_only]
  case reserved =>
    rw [hslot]
    exact (hreserved p).trans (hkeys fun _ d => d = p).symm
  case empty =>
    rw [hslot] at hp ⊢
    exact hempty p hp
  case pending =>
    obtain ⟨r, hr, rfl⟩ := hback j x hx
    rw [r.afterWarm_fields.2.2.2.2, hof]
    exact (hpending j r hr).trans (hkeys fun w _ => w = s.handleOf j).symm
  case names =>
    rw [hqueue'] at hq
    obtain ⟨y, hy, rfl⟩ := List.mem_map.1 hq
    obtain ⟨r, hr, hgr⟩ := hnames y hy
    obtain ⟨x, hx⟩ := hlive _ r hr
    exact ⟨x, hx, (hof _).trans hgr⟩
  case issued =>
    rw [hqueue'] at hq
    obtain ⟨y, hy, rfl⟩ := List.mem_map.1 hq
    exact ⟨fun hx => (by cases hx), fun ⟨v, hv, _⟩ => (by cases hv)⟩
  case free =>
    rw [hcand] at hc
    cases hc

end Sys2Proof.Machine

/-! SUPPORT. The order window: its legality and its unended visits, and what becomes of both when an order joins,
changes or leaves. -/

namespace Sys2Proof.Machine

/-! ## A member found by its number -/

/-- A list whose numbers differ stands around the member found under a number. -/
theorem List.split_of_find {α : Type} {key : α → Nat} {l : List α} {n : Nat} {a : α} (hn : (l.map key).Nodup)
    (ha : l.find? (fun x => decide (key x = n)) = some a) :
    ∃ pre post, l = pre ++ a :: post ∧ key a = n ∧ (∀ x ∈ pre, key x ≠ n) ∧ ∀ x ∈ post, key x ≠ n := by
  obtain ⟨hk, pre, post, rfl, hpre⟩ := List.find?_eq_some_iff_append.1 ha
  have hkey : key a = n := of_decide_eq_true hk
  refine ⟨pre, post, rfl, hkey, fun x hx => by simpa using hpre x hx, fun x hx he => ?_⟩
  rw [List.map_append, List.map_cons, List.nodup_append, List.nodup_cons] at hn
  exact hn.2.1.1 (List.mem_map.2 ⟨x, hx, he.trans hkey.symm⟩)

theorem List.map_update_of_split {α : Type} {key : α → Nat} {pre post : List α} {n : Nat} {a : α} (ha : key a = n)
    (hpre : ∀ x ∈ pre, key x ≠ n) (hpost : ∀ x ∈ post, key x ≠ n) (f : α → α) :
    ((pre ++ a :: post).map fun x => if key x = n then f x else x) = pre ++ f a :: post := by
  have hsame : ∀ l : List α, (∀ x ∈ l, key x ≠ n) → (l.map fun x => if key x = n then f x else x) = l := by
    intro l hl
    refine (List.map_congr_left fun x hx => ?_).trans (List.map_id l)
    rw [if_neg (hl x hx)]
    rfl
  rw [List.map_append, List.map_cons, hsame pre hpre, hsame post hpost, if_pos ha]

theorem List.filter_ne_of_split {α : Type} {key : α → Nat} {pre post : List α} {n : Nat} {a : α} (ha : key a = n)
    (hpre : ∀ x ∈ pre, key x ≠ n) (hpost : ∀ x ∈ post, key x ≠ n) :
    ((pre ++ a :: post).filter fun x => decide (key x ≠ n)) = pre ++ post := by
  have hsame : ∀ l : List α, (∀ x ∈ l, key x ≠ n) → (l.filter fun x => decide (key x ≠ n)) = l :=
    fun l hl => List.filter_eq_self.2 fun x hx => decide_eq_true (hl x hx)
  rw [List.filter_append, List.filter_cons_of_neg (by simp [ha]), hsame pre hpre, hsame post hpost]

/-! ## The window -/

/-- The visits of an order that are not ended. -/
def Order.unended (o : Order) : List Visit := o.visits.filter fun v => !v.state.ended

/-- The unended visits of a window. -/
def unendedOf (w : List Order) : List Visit := w.flatMap Order.unended

/-- Legal orders under different numbers. -/
def windowLegal (w : List Order) : Prop := (w.map fun o => o.number).Nodup ∧ ∀ o ∈ w, o.legal

theorem State.unended_eq (s : State) : s.unended = unendedOf s.dispatcher.window := rfl

theorem State.ordersLegal_eq (s : State) : s.ordersLegal = windowLegal s.dispatcher.window := rfl

/-- The agreement, by the window of the state. -/
theorem State.worksAgree_iff_window (s : State) : s.worksAgree ↔
    windowLegal s.dispatcher.window ∧ s.Works (unendedOf s.dispatcher.window) := s.worksAgree_iff

/-- The agreement does not look at the dispatcher. -/
theorem State.Works.withDispatcher {s t : State} {U : List Visit} (h : s.Works U) (hb : t.Base)
    (ht : t = { s with dispatcher := t.dispatcher }) : t.Works U := by
  refine h.of_same hb ?_ ?_ ?_ ?_ ?_ ?_ <;> rw [ht]
  · exact fun _ => rfl
  · exact fun _ => rfl
  · exact fun _ => rfl

theorem Mild.agrees {s t : State} (h : Mild s t) (hs : s.worksAgree) : t.worksAgree := by
  rw [State.worksAgree_iff_window] at hs ⊢
  rw [h.window]
  exact ⟨hs.1, h.works hs.2⟩

/-- A change of the window alone, with the same unended visits in a legal window. -/
theorem State.worksAgree_window {s t : State} (hs : s.worksAgree) (hk : Keeps s t)
    (ht : t = { s with dispatcher := t.dispatcher }) (hlegal : windowLegal t.dispatcher.window)
    (hu : unendedOf t.dispatcher.window = unendedOf s.dispatcher.window) : t.worksAgree := by
  rw [State.worksAgree_iff_window] at hs ⊢
  rw [hu]
  exact ⟨hlegal, hs.2.withDispatcher (hk.base hs.2.base) ht⟩

/-- A change of an order that leaves its number, kind, aisle and visits alone. -/
structure Order.Same (o p : Order) : Prop where
  number : p.number = o.number
  kind : p.kind = o.kind
  aisle : p.aisle = o.aisle
  visits : p.visits = o.visits

theorem Order.Same.legal {o p : Order} (h : o.Same p) (ho : o.legal) : p.legal := by
  unfold Order.legal
  rw [h.number, h.kind, h.aisle, h.visits]
  exact ho

theorem windowLegal_map {w : List Order} {f : Order → Order} (h : windowLegal w) (hf : ∀ o : Order, o.Same (f o)) :
    windowLegal (w.map f) := by
  refine ⟨?_, fun o ho => ?_⟩
  · rw [List.map_map]
    exact (List.map_congr_left fun o _ => (hf o).number) ▸ h.1
  · obtain ⟨x, hx, rfl⟩ := List.mem_map.1 ho
    exact (hf x).legal (h.2 x hx)

theorem unendedOf_map {w : List Order} {f : Order → Order} (hf : ∀ o : Order, o.Same (f o)) :
    unendedOf (w.map f) = unendedOf w := by
  unfold unendedOf
  rw [List.flatMap_map]
  exact congrArg (fun g => List.flatMap g w) (funext fun o => by rw [Order.unended, Order.unended, (hf o).visits])

theorem windowLegal_filter {w : List Order} (h : windowLegal w) (p : Order → Bool) : windowLegal (w.filter p) :=
  ⟨h.1.sublist (List.filter_sublist.map _), fun o ho => h.2 o (List.mem_of_mem_filter ho)⟩

/-- A state whose orders were changed in their state or their timer. -/
theorem State.worksAgree_mapOrders {s t : State} (hs : s.worksAgree) {f : Order → Order} (hf : ∀ o : Order, o.Same (f o))
    (ht : t = { s with dispatcher := { s.dispatcher with window := s.dispatcher.window.map f } }) :
    t.worksAgree := by
  have hk : Keeps s t := Keeps.mapOrders ht fun o => by rw [(hf o).visits]
  have hw := (s.worksAgree_iff_window.1 hs).1
  rw [ht] at hk ⊢
  exact State.worksAgree_window hs hk rfl (windowLegal_map hw hf) (unendedOf_map hf)

theorem State.worksAgree_updOrder {s : State} (hs : s.worksAgree) (n : Nat) {f : Order → Order}
    (hf : ∀ o : Order, o.Same (f o)) : (s.updOrder n f).worksAgree :=
  State.worksAgree_mapOrders hs (fun o => by
    split
    · exact hf o
    · exact ⟨rfl, rfl, rfl, rfl⟩) rfl

theorem State.worksAgree_loadTimer {s : State} (hs : s.worksAgree) (n k : Nat) : (s.loadTimer n k).worksAgree :=
  State.worksAgree_updOrder hs n fun _ => ⟨rfl, rfl, rfl, rfl⟩

/-! ## One visit of one order -/

/-- The visits of a legal order are numbered apart. -/
theorem Order.legal.numbers_nodup {o : Order} (h : o.legal) : (o.visits.map fun v => v.number).Nodup := by
  obtain ⟨-, -, -, -, hnumbers, -⟩ := h
  rw [hnumbers]
  exact (List.nodup_range).map fun a b h => Nat.succ.inj h

/-- A visit changed in its state and what it proceeded with stays legal, while at most one visit is started. -/
theorem Order.legal_updVisit {o : Order} (h : o.legal) {k : Nat} {f : Visit → Visit}
    (hf : ∀ v, (f v).number = v.number ∧ (f v).source = v.source ∧ (f v).actions = v.actions ∧ (f v).wheel = v.wheel ∧
      (f v).dest = v.dest)
    (hone : ((o.updVisit k f).visits.filter fun v => decide (v.state = .started)).length ≤ 1) :
    (o.updVisit k f).legal := by
  obtain ⟨h1, h2, h3, h4, hnumbers, haisle, -, hmove, hbatch⟩ := h
  have hupd : ∀ v, (if v.number = k then f v else v).number = v.number ∧
      (if v.number = k then f v else v).source = v.source ∧ (if v.number = k then f v else v).actions = v.actions ∧
      (if v.number = k then f v else v).wheel = v.wheel ∧ (if v.number = k then f v else v).dest = v.dest := by
    intro v
    split
    · exact hf v
    · exact ⟨rfl, rfl, rfl, rfl, rfl⟩
  have hmem : ∀ {P : Visit → Prop}, (∀ v, P v → P (if v.number = k then f v else v)) → (∀ v ∈ o.visits, P v) →
      ∀ v ∈ (o.updVisit k f).visits, P v := by
    intro P hP hall v hv
    obtain ⟨u, hu, rfl⟩ := List.mem_map.1 hv
    exact hP u (hall u hu)
  have hlen := o.length_updVisit k f
  refine ⟨h1, h2, hlen.symm ▸ h3, hlen.symm ▸ h4, ?_, hmem (fun v hv => (hupd v).2.1 ▸ hv) haisle, hone,
    fun hk => ⟨hlen.trans (hmove hk).1, hmem (fun v hv => ?_) (hmove hk).2⟩,
    fun hk => ⟨hmem (fun v hv => (hupd v).2.2.2.2.trans hv) (hbatch hk).1, (hbatch hk).2.imp (hmem fun v hv => ?_)
      (hmem fun v hv => ?_)⟩⟩
  · rw [hlen, ← hnumbers, Order.updVisit, List.map_map]
    exact List.map_congr_left fun v _ => (hupd v).1
  · obtain ⟨ha, hw, hd⟩ := hv
    exact ⟨(hupd v).2.2.1.trans ha, (hupd v).2.2.2.1 ▸ hw, (hupd v).2.2.2.2 ▸ hd⟩
  · exact ⟨(hupd v).2.2.1.trans hv.1, (hupd v).2.2.2.1.trans hv.2⟩
  · unfold Visit.isWork
    rw [(hupd v).2.2.1, (hupd v).2.2.2.1]
    exact hv

/-- The visit `v` of the order `n` changed by `f`: the unended visits lose `v` and gain what `f` leaves unended. -/
theorem windowLegal_updVisit {w : List Order} (hw : windowLegal w) {n k : Nat} {o : Order} {v : Visit}
    {f : Visit → Visit} (ho : w.find? (fun x => decide (x.number = n)) = some o) (hv : o.visit? k = some v)
    (hf : ∀ v, (f v).number = v.number ∧ (f v).source = v.source ∧ (f v).actions = v.actions ∧ (f v).wheel = v.wheel ∧
      (f v).dest = v.dest)
    (hun : v.state.ended = false)
    (hstart : (f v).state = .started → (o.visits.any fun u => decide (u.state = .started)) = false) :
    windowLegal (w.map fun x => if x.number = n then x.updVisit k f else x) ∧
    ∃ R, (unendedOf w).Perm (v :: R) ∧
      (unendedOf (w.map fun x => if x.number = n then x.updVisit k f else x)).Perm
        (if (f v).state.ended then R else f v :: R) := by
  obtain ⟨pre, post, rfl, hon, hpre, hpost⟩ := List.split_of_find (key := fun x : Order => x.number) hw.1 ho
  have hlegal : o.legal := hw.2 o (List.mem_append_right _ List.mem_cons_self)
  obtain ⟨a, b, hab, hvk, ha, hb⟩ := List.split_of_find (key := fun x : Visit => x.number) hlegal.numbers_nodup hv
  rw [List.map_update_of_split (key := fun x : Order => x.number) hon hpre hpost]
  have hvisits : (o.updVisit k f).visits = a ++ f v :: b := by
    rw [Order.updVisit]
    dsimp only
    rw [hab]
    exact List.map_update_of_split (key := fun x : Visit => x.number) hvk ha hb f
  have hone : ((o.updVisit k f).visits.filter fun v => decide (v.state = .started)).length ≤ 1 := by
    obtain ⟨-, -, -, -, -, -, hstarted, -⟩ := hlegal
    rw [hab, List.filter_append, List.length_append] at hstarted
    rw [hvisits, List.filter_append, List.length_append]
    by_cases hs : (f v).state = .started
    · have hnone := hstart hs
      rw [hab, List.any_append, List.any_cons, Bool.or_eq_false_iff, Bool.or_eq_false_iff] at hnone
      have hempty : ∀ l : List Visit, (l.any fun u => decide (u.state = .started)) = false →
          (l.filter fun v => decide (v.state = .started)) = [] := by
        intro l hl
        rw [List.filter_eq_nil_iff]
        simpa [List.any_eq_false] using hl
      rw [hempty a hnone.1, List.filter_cons_of_pos (by simpa using hs), hempty b hnone.2.2]
      simp
    · rw [List.filter_cons_of_neg (by simpa using hs)]
      have hsub : (b.filter fun v => decide (v.state = .started)).length ≤
          ((v :: b).filter fun v => decide (v.state = .started)).length :=
        ((List.sublist_cons_self v b).filter _).length_le
      omega
  refine ⟨⟨?_, fun x hx => ?_⟩, unendedOf pre ++ ((a.filter fun v => !v.state.ended) ++
    (b.filter fun v => !v.state.ended)) ++ unendedOf post, ?_, ?_⟩
  · have hnodup := hw.1
    rw [List.map_append, List.map_cons] at hnodup ⊢
    exact hnodup
  · rcases List.mem_append.1 hx with hx | hx
    · exact hw.2 x (List.mem_append_left _ hx)
    · rcases List.mem_cons.1 hx with rfl | hx
      · exact Order.legal_updVisit hlegal hf hone
      · exact hw.2 x (List.mem_append_right _ (List.mem_cons_of_mem _ hx))
  · have hopen : o.unended = (a.filter fun v => !v.state.ended) ++ v :: (b.filter fun v => !v.state.ended) := by
      rw [Order.unended, hab, List.filter_append, List.filter_cons_of_pos (by simp [hun])]
    rw [unendedOf, List.flatMap_append, List.flatMap_cons, hopen]
    simp only [unendedOf, List.append_assoc, List.cons_append]
    exact (List.Perm.append_left _ List.perm_middle).trans List.perm_middle
  · have hopen : (o.updVisit k f).unended = (a.filter fun v => !v.state.ended) ++
        ((f v :: b).filter fun v => !v.state.ended) := by
      rw [Order.unended, hvisits, List.filter_append]
    rw [unendedOf, List.flatMap_append, List.flatMap_cons, hopen]
    by_cases he : (f v).state.ended = true
    · rw [List.filter_cons_of_neg (by simp [he]), if_pos he]
      simp [unendedOf]
    · rw [List.filter_cons_of_pos (by simp [he]), if_neg he]
      simp only [unendedOf, List.append_assoc, List.cons_append]
      exact (List.Perm.append_left _ List.perm_middle).trans List.perm_middle

end Sys2Proof.Machine

/-! SUPPORT. The agreement under the starts, the port, the registry, the queue, the closing of orders, and the visits
that start and end. -/

namespace Sys2Proof.Machine

/-! ## Starts and the port -/

theorem State.worksAgree_warmStart {s : State} (h : s.worksAgree) : s.warmStart.worksAgree := by
  rw [State.worksAgree_iff_window] at h ⊢
  have hwindow : s.warmStart.dispatcher.window = [] := by
    obtain ⟨-, -, -, -, hd, -⟩ := s.warmStart_kept
    rw [hd]
    rfl
  rw [hwindow]
  exact ⟨⟨.nil, fun o ho => (by cases ho)⟩, h.2.warmStart⟩

theorem State.worksAgree_coldStart (s : State) : s.coldStart.worksAgree := worksAgree_reset

theorem State.worksAgree_start {s : State} (h : s.worksAgree) : s.start.worksAgree := by
  unfold State.start
  split
  · exact s.worksAgree_coldStart
  · exact State.worksAgree_warmStart h

theorem State.worksAgree_powerUp {s : State} (h : s.worksAgree) (a b : Bool) : (s.powerUp a b).worksAgree := by
  have hsupply : State.worksAgree { s with supply := { s.supply with mainPower := true, addr1 := a, addr0 := b } } :=
    (Mild.outer rfl).agrees h
  unfold State.powerUp
  dsimp only
  split
  · exact hsupply
  · exact State.worksAgree_start hsupply

theorem State.worksAgree_resetRelease {s : State} (h : s.worksAgree) (a b : Bool) :
    (s.resetRelease a b).worksAgree := by
  have hsupply : State.worksAgree { s with supply := { s.supply with resetLow := false, addr1 := a, addr0 := b } } :=
    (Mild.outer rfl).agrees h
  unfold State.resetRelease
  split
  · dsimp only
    split
    · exact State.worksAgree_start hsupply
    · exact hsupply
  · exact h

/-- A served request keeps what its owner keeps. -/
theorem State.worksAgree_serve {s : State} (h : s.worksAgree) {p : PortId} {c : Instr} {owner : State → State × Reply}
    (ho : ∀ u : State, u.worksAgree → (owner u).1.worksAgree) : (s.serve p c owner).worksAgree := by
  have howner : ∀ x y : BusPort, ((owner (s.withPort x)).1.withPort y).worksAgree := fun x y =>
    (Mild.withPort _ y).agrees (ho _ ((Mild.withPort s x).agrees h))
  obtain hs | ⟨x, y, hs | hs⟩ := s.serve_cases p c owner
  · rwa [hs]
  · rw [hs]
    exact howner x y
  · rw [hs]
    exact State.worksAgree_warmStart (howner x y)

theorem State.worksAgree_sendReply {s : State} (h : s.worksAgree) (a : Reply) (r : ReplyReader) :
    (s.sendReply a r).worksAgree := by
  obtain ⟨y, hs | hs⟩ := s.sendReply_cases a r
  · rw [hs]
    exact (Mild.withPort s y).agrees h
  · rw [hs]
    exact State.worksAgree_warmStart ((Mild.withPort s y).agrees h)

theorem State.worksAgree_takeMalformed {s : State} (h : s.worksAgree) (p : PortId) :
    (s.takeMalformed p).worksAgree := by
  obtain hs | ⟨st, hs⟩ := s.takeMalformed_cases p
  · rwa [hs]
  · rw [hs]
    have hports : ∀ x y : BusPort, ((s.withPort x).withPort y).worksAgree := fun x y =>
      (Mild.withPort _ y).agrees ((Mild.withPort s x).agrees h)
    obtain ⟨x, y, hu | hu⟩ := s.ownerTakes_cases p fun u => u.refuse st
    · rw [hu]
      exact hports x y
    · rw [hu]
      exact State.worksAgree_warmStart (hports x y)

theorem State.worksAgree_ownersTake {s : State} (h : s.worksAgree) : s.ownersTake.worksAgree := by
  unfold State.ownersTake
  split
  · exact State.worksAgree_takeMalformed (State.worksAgree_takeMalformed h .registry) .turner
  · exact h

theorem State.worksAgree_secondPassed {s : State} (h : s.worksAgree) : s.secondPassed.worksAgree := by
  have hcounters : s.countersPassed.worksAgree := by
    unfold State.countersPassed
    split
    · have hpoller : Mild s { s with poller := s.poller.secondPassed } := by
        refine Mild.outside ⟨fun h => h, fun _ h => h, fun _ h => h, fun _ h => h, fun _ hl => ⟨?_, hl.2⟩⟩ rfl rfl rfl rfl
          rfl rfl
        obtain ⟨htimer, hstaged, heval, hretries⟩ := hl.1
        exact ⟨htimer.trans (by simp [Poller.secondPassed]), hstaged, heval, hretries⟩
      exact State.worksAgree_mapOrders (hpoller.agrees h) (f := Order.secondPassed) (fun _ => ⟨rfl, rfl, rfl, rfl⟩) rfl
    · exact h
  have hclock : ∀ u : State, u.worksAgree → State.worksAgree { u with
      clock := { u.clock with second := min 60 (u.clock.second + 1) }
      pending := u.pending ++ (if u.operating then u.dueExpiries else []) } := fun u hu => (Mild.outer rfl).agrees hu
  exact hclock _ hcounters

/-- A change of the port, where the reply stays or is collected. -/
theorem State.worksAgree_writeEnded {s : State} (h : s.worksAgree) (p : PortId) (l : List Byte) :
    (s.writeEnded p l).worksAgree := by
  have hacks : ∀ n, (s.acks n).worksAgree := fun n => (Mild.outer rfl).agrees h
  unfold State.writeEnded
  split
  · exact hacks 0
  · split
    · exact hacks _
    · have hu := hacks (1 + ackedBytes l)
      generalize s.acks (1 + ackedBytes l) = u at hu ⊢
      have hframe : ∀ x : PortState, ((u.discardKept p).setPort p x).worksAgree := by
        intro x
        obtain ⟨y, hy⟩ := u.discardKept_port p
        obtain ⟨z, hz⟩ := (u.discardKept p).setPort_port p x
        rw [hz, hy]
        exact (Mild.withPort _ z).agrees ((Mild.withPort u y).agrees hu)
      unfold State.takeFrame
      split <;> exact hframe _

theorem State.worksAgree_readAt {s : State} (h : s.worksAgree) (a n : Nat) : (s.readAt a n).worksAgree := by
  unfold State.readAt
  split
  · exact (Mild.outer rfl).agrees h
  · have hacks : (s.acks 1).worksAgree := (Mild.outer rfl).agrees h
    generalize s.acks 1 = u at hacks ⊢
    unfold State.readBegun
    split
    · exact (Mild.outer rfl).agrees hacks
    · exact (Mild.outer rfl).agrees hacks
    · exact State.worksAgree_sendReply hacks _ _
    · exact State.worksAgree_sendReply hacks _ _
    · exact (Mild.outer rfl).agrees hacks

theorem State.worksAgree_holdEnded {s : State} (h : s.worksAgree) : s.holdEnded.worksAgree := by
  unfold State.holdEnded
  split
  · exact h
  · exact (Mild.outer rfl).agrees h

/-! ## The registry and the queue -/

/-- A slot that a command may take stands empty or holds the wheel itself, and is neither reserved nor engaged. -/
theorem State.placeRefusal_none {s : State} {self : Option Nat} {l : LSlot} {p : Nat}
    (h : s.placeRefusal self l = none) (hp : s.place? l = some p) :
    ((s.slot p).occupant = none ∨ (s.slot p).occupant = self) ∧ (s.slot p).reserved = false ∧
    (s.slot p).engaged = false := by
  unfold State.place? at hp
  unfold State.placeRefusal at h
  split at hp
  · cases hp
  · rename_i hnone
    rw [if_neg hnone, hp] at h
    dsimp only at h
    split at h
    · cases h
    split at h
    · cases h
    rename_i htaken
    split at h
    · cases h
    rename_i hengaged
    refine ⟨?_, ?_, Bool.eq_false_iff.2 hengaged⟩
    · by_contra hne
      refine htaken (.inl ⟨?_, fun he => hne (.inr he)⟩)
      exact Option.isSome_iff_ne_none.2 fun he => hne (.inl he)
    · exact Bool.eq_false_iff.2 fun he => htaken (.inr he)

/-- An owner that keeps the window and the agreement with its visits. -/
theorem State.worksAgree_of_works {s t : State} (hs : s.worksAgree) (hw : t.dispatcher.window = s.dispatcher.window)
    (h : s.Works (unendedOf s.dispatcher.window) → t.Works (unendedOf s.dispatcher.window)) : t.worksAgree := by
  rw [State.worksAgree_iff_window] at hs ⊢
  rw [hw]
  exact ⟨hs.1, h hs.2⟩

theorem State.worksAgree_ownAdmit (tag cls day : Nat) (l : LSlot) (w : Nat) (lt lb : TimeField) {s : State}
    (h : s.worksAgree) : (State.ownAdmit tag cls day l w lt lb s).1.worksAgree := by
  unfold State.ownAdmit
  split
  · exact h
  rename_i hpass
  dsimp only
  unfold State.admitRefusal at hpass
  split at hpass
  · cases hpass
  split at hpass
  · cases hpass
  split at hpass
  · cases hpass
  rename_i htag
  split at hpass
  · cases hpass
  rename_i hroom
  obtain ⟨i, hi⟩ := Option.ne_none_iff_exists'.1 hroom
  rw [hi, Option.getD_some]
  refine State.worksAgree_of_works h (by simp [State.admitAt]) fun hworks => ?_
  obtain ⟨hlt, hnone, -⟩ := State.lowestFree?_spec (State.records_ordered hworks.base.tables) hi
  have hnew := hworks.admitAt (r := admittedRecord s.clock.minutes tag cls day (weightValue w)
    ((timeValue? lt).getD .unsupplied) ((timeValue? lb).getD .unsupplied)) hlt hnone
    (by simpa [admittedRecord] using htag) rfl rfl rfl rfl
  refine hnew.locateAt (Table.read?_write_self _ _ _) rfl rfl fun p hp => ?_
  obtain ⟨hocc, hres, -⟩ := State.placeRefusal_none hpass hp
  exact ⟨hocc.elim id id, hres⟩

theorem State.worksAgree_amendLocation {s : State} (h : s.worksAgree) {i : Nat} {r : WheelRecord} {l : LSlot}
    (hr : s.record? i = some r) (hc : r.claim = .none) (hpass : s.placeRefusal (some i) l = none) :
    (((s.moveRecord i (s.place? l)).removeHold i .missing).removeHold i .blockedSlot).worksAgree := by
  refine State.worksAgree_of_works h (by simp) fun hworks => ?_
  refine ((Mild.removeHold _ i .missing).trans (Mild.removeHold _ i .blockedSlot)).works ?_
  refine hworks.moveRecord hr hc fun p hp => ?_
  obtain ⟨hocc, hres, -⟩ := State.placeRefusal_none hpass hp
  exact ⟨hocc, hres⟩

theorem State.worksAgree_retireRecord {s : State} (h : s.worksAgree) {i : Nat} {r : WheelRecord}
    (hr : s.record? i = some r) (hc : r.claim = .none) : (s.retireRecord i r).worksAgree :=
  State.worksAgree_of_works h (by simp [State.retireRecord]) fun hworks => hworks.retireRecord hr hc

theorem State.worksAgree_erase {s : State} (h : s.worksAgree) (hw : s.dispatcher.window = []) :
    s.erase.worksAgree := by
  refine State.worksAgree_of_works h rfl fun hworks => ?_
  rw [hw] at hworks ⊢
  exact hworks.erase

theorem State.worksAgree_queueRelocation {s : State} (h : s.worksAgree) {i p : Nat} {r : WheelRecord} {l : LSlot}
    (hr : s.record? i = some r) (hpass : s.relocateRefusal i r l = none) (hp : s.physical? l = some p) :
    (s.queueRelocation i p).worksAgree := by
  unfold State.relocateRefusal at hpass
  split at hpass
  · cases hpass
  rename_i hsome
  split at hpass
  · cases hpass
  split at hpass
  · cases hpass
  rename_i hpend
  split at hpass
  · cases hpass
  rename_i hroom
  have hplace : s.place? l = some p := by rw [State.place?, if_neg hsome, hp]
  obtain ⟨hocc, hres, -⟩ := State.placeRefusal_none hpass hplace
  exact State.worksAgree_of_works h (by simp [State.queueRelocation]) fun hworks =>
    hworks.queueRelocation hr (Bool.eq_false_iff.2 hpend) (hocc.elim id id) hres (Nat.not_le.1 hroom)

theorem State.worksAgree_endRelocation {s : State} (h : s.worksAgree) {g : Nat} {q : Relocation}
    (hq : s.relocationOf? g = some q) (hst : q.state ≠ .issued) : (s.endRelocation g).worksAgree := by
  refine State.worksAgree_of_works h (by simp) fun hworks => hworks.endRelocation fun v hv hvw => ?_
  obtain ⟨-, -, -, -, -, -, hissued, hmoves⟩ := hworks.relocations
  obtain ⟨hmem, hqw⟩ := State.relocationOf?_mem hq
  by_contra hne
  obtain ⟨d, hd⟩ := Option.ne_none_iff_exists'.1 hne
  obtain ⟨x, hx, hxw, hxd⟩ := hmoves v hv d hd
  have hxq : x = q := by
    have := hworks.relocationOf? hx
    rw [Option.some.inj (hxw.symm.trans hvw), hq] at this
    exact (Option.some.inj this).symm
  refine hst ((hissued q hmem).2 ⟨v, hv, by rw [hqw, hvw], ?_⟩)
  rw [hd, hxd, hxq]

/-! ## Orders closed and cancelled (R091, R092, R101) -/

/-- A list of unended visits is released. -/
theorem State.Works.releaseVisits {s : State} {U : List Visit} (L : List Visit) (h : s.Works (L ++ U)) :
    (L.foldl State.releaseVisit s).Works U := by
  induction L generalizing s with
  | nil => exact h
  | cons v L ih => exact ih h.releaseVisit

/-- Closing the visits of an order releases the unended ones. -/
theorem State.Works.closeVisits {s : State} {U : List Visit} (L : List Visit)
    (h : s.Works ((L.filter fun v => !v.state.ended) ++ U)) : (L.foldl State.closeVisit s).Works U := by
  induction L generalizing s with
  | nil => exact h
  | cons v L ih =>
    refine ih ?_
    have hopen : v.state.ended = false → s.Works (v :: ((L.filter fun v => !v.state.ended) ++ U)) := fun he => by
      rwa [List.filter_cons_of_pos (by simp [he])] at h
    have hended : v.state.ended = true → s.Works ((L.filter fun v => !v.state.ended) ++ U) := fun he => by
      rwa [List.filter_cons_of_neg (by simp [he])] at h
    unfold State.closeVisit
    cases hst : v.state with
    | waiting => exact (hopen (by rw [hst]; rfl)).releaseVisit
    | started => exact (Mild.doubtVisit _ v).works (hopen (by rw [hst]; rfl)).releaseVisit
    | done => exact hended (by rw [hst]; rfl)
    | skipped => exact hended (by rw [hst]; rfl)
    | withdrawn => exact hended (by rw [hst]; rfl)

theorem State.window_closeVisits (s : State) (L : List Visit) :
    (L.foldl State.closeVisit s).dispatcher = s.dispatcher :=
  foldl_unchanged (fun s : State => s.dispatcher) State.closeVisit (fun s v => by simp) L s

theorem State.worksAgree_closeOrder {s : State} (h : s.worksAgree) {n : Nat} {o : Order} (ho : s.order? n = some o) :
    (s.closeOrder o).worksAgree := by
  rw [State.worksAgree_iff_window] at h ⊢
  obtain ⟨hlegal, hworks⟩ := h
  obtain ⟨pre, post, hsplit, hon, hpre, hpost⟩ := List.split_of_find (key := fun x : Order => x.number) hlegal.1 ho
  have hwindow : (s.closeOrder o).dispatcher.window = pre ++ post := by
    have hd : (s.closeOrder o).dispatcher.window =
        (o.visits.foldl State.closeVisit s).dispatcher.window.filter fun x => decide (x.number ≠ o.number) := rfl
    rw [hd, State.window_closeVisits, hsplit, hon]
    exact List.filter_ne_of_split (key := fun x : Order => x.number) hon hpre hpost
  have hopen : s.Works (o.unended ++ (unendedOf pre ++ unendedOf post)) := by
    refine hworks.perm ?_
    rw [hsplit, unendedOf, List.flatMap_append, List.flatMap_cons]
    exact List.perm_append_comm_assoc _ _ _
  have hclosed := State.Works.closeVisits o.visits hopen
  rw [hwindow]
  refine ⟨?_, ?_⟩
  · rw [hsplit] at hlegal
    have hfilter := windowLegal_filter hlegal fun x => decide (x.number ≠ n)
    rwa [List.filter_ne_of_split (key := fun x : Order => x.number) hon hpre hpost] at hfilter
  · have hrest : unendedOf (pre ++ post) = unendedOf pre ++ unendedOf post := by
      rw [unendedOf, List.flatMap_append]
      rfl
    rw [hrest]
    exact hclosed.withDispatcher ((Keeps.dropOrder _ o.number).base hclosed.base) rfl

theorem State.worksAgree_expireOrder {s : State} (h : s.worksAgree) (n : Nat) : (s.expireOrder n).worksAgree := by
  unfold State.expireOrder
  split
  · exact h
  · rename_i o ho
    split
    · exact (Mild.latch _ _).agrees (State.worksAgree_closeOrder h ho)
    · exact h

/-- Withdrawing an order releases its unended visits. -/
theorem State.withdrawVisits_eq (s : State) (o : Order) :
    s.withdrawVisits o = o.unended.foldl State.releaseVisit s := by
  unfold State.withdrawVisits Order.unended
  induction o.visits generalizing s with
  | nil => rfl
  | cons v L ih =>
    rw [List.foldl_cons, ih]
    cases he : v.state.ended
    · rw [List.filter_cons_of_pos (by simp [he]), List.foldl_cons]
      rfl
    · rw [List.filter_cons_of_neg (by simp [he])]
      rfl

theorem State.Works.withdrawOrders {s : State} {U : List Visit} (L : List Order) (h : s.Works (unendedOf L ++ U)) :
    (L.foldl State.withdrawVisits s).Works U := by
  induction L generalizing s with
  | nil => exact h
  | cons o L ih =>
    refine ih ?_
    rw [State.withdrawVisits_eq]
    refine State.Works.releaseVisits o.unended ?_
    rwa [unendedOf, List.flatMap_cons, List.append_assoc] at h

theorem State.worksAgree_cancelOrders {s : State} (h : s.worksAgree) (a : Nat) : (s.cancelOrders a).worksAgree := by
  have hk := Keeps.cancelOrders s a
  rw [State.worksAgree_iff_window] at h ⊢
  obtain ⟨hlegal, hworks⟩ := h
  have hsame : ∀ o : Order, o.Same (o.cancel a) := fun o => by
    unfold Order.cancel
    split <;> exact ⟨rfl, rfl, rfl, rfl⟩
  have hwindow : (s.cancelOrders a).dispatcher.window =
      (s.dispatcher.window.filter fun o => !o.cancelled a).map fun o => o.cancel a := rfl
  have hsplit : s.Works (unendedOf (s.dispatcher.window.filter fun o => o.cancelled a) ++
      unendedOf (s.dispatcher.window.filter fun o => !o.cancelled a)) := by
    refine hworks.perm ?_
    rw [unendedOf, unendedOf, unendedOf, ← List.flatMap_append]
    exact ((List.filter_append_perm (fun o : Order => o.cancelled a) s.dispatcher.window).symm).flatMap_right _
  rw [hwindow, unendedOf_map hsame]
  refine ⟨windowLegal_map (windowLegal_filter hlegal _) hsame, ?_⟩
  exact (State.Works.withdrawOrders _ hsplit).withDispatcher (hk.base hworks.base) rfl

/-! ## Visits started, withdrawn and ended (R088, R094, R098) -/

/-- A visit of the window that ends: its state is set and it is released. -/
theorem State.worksAgree_endVisit {s t : State} (h : s.worksAgree) {n : Nat} {o : Order} {v : Visit} {k : Nat}
    {st : VisitState} (ho : s.order? n = some o) (hv : o.visit? k = some v) (hun : v.state.ended = false)
    (hst : st.ended = true)
    (hwindow : t.dispatcher.window = (s.setVisitState n k st).dispatcher.window)
    (hworks : ∀ R, s.Works (v :: R) → t.Works R) : t.worksAgree := by
  rw [State.worksAgree_iff_window] at h ⊢
  obtain ⟨hlegal, R, hbefore, hafter⟩ := windowLegal_updVisit (f := fun u => { u with state := st }) h.1 ho hv
    (fun _ => ⟨rfl, rfl, rfl, rfl, rfl⟩) hun fun hs => by
      have hs : st = .started := hs
      rw [hs] at hst
      cases hst
  rw [if_pos (show ({ v with state := st } : Visit).state.ended = true from hst)] at hafter
  rw [hwindow]
  exact ⟨hlegal, (hworks R (h.2.perm hbefore)).perm hafter.symm⟩

theorem State.worksAgree_withdraw {s : State} (h : s.worksAgree) {n : Nat} {o : Order} {v : Visit}
    (ho : s.order? n = some o) (hv : o.visit? v.number = some v) (hun : v.state.ended = false) (st : Status) :
    (s.withdraw n v st).1.worksAgree := by
  refine State.worksAgree_loadTimer ?_ _ _
  refine State.worksAgree_endVisit h ho hv hun (st := .withdrawn) rfl
    (by simp) fun R hR => ?_
  have hset := hR.withDispatcher ((Keeps.setVisitState s n v.number .withdrawn).base hR.base) rfl
  exact hset.releaseVisit

theorem State.worksAgree_proceed {s : State} (h : s.worksAgree) {n : Nat} {o : Order} {v : Visit}
    (ho : s.order? n = some o) (hv : o.visit? v.number = some v) (hun : v.state.ended = false)
    (hone : (o.visits.any fun u => decide (u.state = .started)) = false) (a : ActionSet) :
    (s.proceed n v a).1.worksAgree := by
  have hshape : (s.proceed n v a).1 = ((((s.updOrder n fun o => o.updVisit v.number fun u =>
      { u with state := .started, proceeded := some a }).takeInHand v).reach v.source).loadTimer n
      (((s.updOrder n fun o => o.updVisit v.number fun u =>
        { u with state := .started, proceeded := some a }).takeInHand v).reach
          v.source).dispatcher.settings.visitAllowance) := by
    unfold State.proceed State.takeInHand
    rfl
  rw [hshape]
  refine State.worksAgree_loadTimer ((Mild.reach _ _).agrees ?_) _ _
  have hupd := Keeps.updOrder s n (f := fun o => o.updVisit v.number fun u =>
    { u with state := .started, proceeded := some a }) fun o => o.length_updVisit _ _
  rw [State.worksAgree_iff_window] at h ⊢
  obtain ⟨hlegal, R, hbefore, hafter⟩ := windowLegal_updVisit
    (f := fun u => { u with state := .started, proceeded := some a }) h.1 ho hv
    (fun _ => ⟨rfl, rfl, rfl, rfl, rfl⟩) hun fun _ => hone
  have hwindow : ((s.updOrder n fun o => o.updVisit v.number fun u =>
      { u with state := .started, proceeded := some a }).takeInHand v).dispatcher.window =
      s.dispatcher.window.map fun x => if x.number = n then x.updVisit v.number fun u =>
        { u with state := .started, proceeded := some a } else x := by
    unfold State.takeInHand
    split
    · rfl
    · simp [State.updOrder]
  rw [hwindow]
  refine ⟨hlegal, State.Works.perm ?_ hafter.symm⟩
  have hold := (h.2.perm hbefore).withDispatcher (hupd.base h.2.base) rfl
  exact hold.takeInHand (w := { v with state := .started, proceeded := some a }) rfl rfl rfl rfl

/-- What an accepted start says of the order and the visit. -/
theorem startRefusal_none {o : Order} {v : Visit} {tag : Nat} (h : startRefusal o (some v) tag = none) :
    o.state ≠ .issued ∧ v.state = .waiting ∧ (o.visits.any fun u => decide (u.state = .started)) = false ∧
    v.actions.scan = false ∧ tag ≠ Config.tagAllOnes := by
  unfold startRefusal at h
  dsimp only at h
  split at h
  · cases h
  rename_i htag
  split at h
  · cases h
  rename_i hissued
  split at h
  · cases h
  rename_i hwait
  split at h
  · cases h
  rename_i hone
  split at h
  · cases h
  rename_i hscan
  exact ⟨hissued, not_not.1 hwait, Bool.eq_false_iff.2 hone, Bool.eq_false_iff.2 hscan, htag⟩

theorem State.worksAgree_ownVisitStart (n k tag : Nat) {s : State} (h : s.worksAgree) :
    (State.ownVisitStart n k tag s).1.worksAgree := by
  unfold State.ownVisitStart State.withOrder
  split
  · exact h
  · rename_i o ho
    dsimp only
    split
    · exact h
    · exact h
    · rename_i v hpass hv
      rw [hv] at hpass
      obtain ⟨-, hwait, hone, -, -⟩ := startRefusal_none hpass
      have hun : v.state.ended = false := by rw [hwait]; rfl
      have hvn : o.visit? v.number = some v := by rw [Order.number_of_visit? hv, hv]
      split
      · exact State.worksAgree_withdraw h ho hvn hun _
      · have hbase := (s.worksAgree_iff_window.1 h).2.base
        have hmild := Mild.compare hbase v.source (.tag tag)
        have hagree := hmild.agrees h
        have ho' : (s.compare v.source (.tag tag)).1.order? n = some o := by
          rw [State.order?, hmild.window]
          exact ho
        unfold State.checkStart
        dsimp only
        split
        · exact State.worksAgree_withdraw hagree ho' hvn hun _
        · split
          · exact State.worksAgree_withdraw hagree ho' hvn hun _
          · split
            · exact State.worksAgree_withdraw hagree ho' hvn hun _
            · exact State.worksAgree_proceed hagree ho' hvn hun hone _

end Sys2Proof.Machine

/-! SUPPORT. The agreement under the end of a visit, the move among them, and under an adopted report. -/

namespace Sys2Proof.Machine

/-! ## The end of a visit (R094, R098) -/

/-- What an accepted end says of the order and the visit. -/
theorem endRefusal_none {o : Order} {v : Visit} {e : VisitOutcome} {n tag : Nat}
    (h : endRefusal o (some v) e n tag = none) : actionSet? n ≠ none ∧ o.state ≠ .issued ∧ v.allows e = true ∧
      v.state.ended = false := by
  unfold endRefusal at h
  split at h
  · cases h
  · cases h
  · rename_i u a hu ha
    obtain rfl := Option.some.inj hu
    split at h
    · cases h
    split at h
    · cases h
    rename_i hissued
    split at h
    · cases h
    rename_i hallows
    have hallowed : v.allows e = true := by simpa using hallows
    refine ⟨by rw [ha]; exact Option.some_ne_none _, hissued, hallowed, ?_⟩
    unfold Visit.allows at hallowed
    split at hallowed <;> rename_i hst
    · rw [hst]; rfl
    · rw [hst]; rfl
    · cases hallowed
    · cases hallowed
    · cases hallowed

/-- A move is recorded after its visit is released and its relocation ended just as it is before. -/
theorem State.Works.moveDone {s : State} {v : Visit} {U : List Visit} (h : s.Works (v :: U)) {g p : Nat}
    (hg : v.wheel = some g) (hp : v.dest = some p) (w : Option Nat) : ((s.moveDone g p w).releaseVisit v).Works U := by
  have hbase := ((Keeps.moveDone s g p w).trans (Keeps.releaseVisit _ v)).base h.base
  obtain ⟨r, hr, hgr, -, hloc, -⟩ := h.wheel List.mem_cons_self hg
  obtain ⟨-, -, hreserved, hempty, -, -, -, hmoves⟩ := h.relocations
  obtain ⟨q, hq, hqw, hqd⟩ := hmoves v List.mem_cons_self p hp
  have hqg : q.wheel = g := Option.some.inj (hqw.symm.trans hg)
  have hof : s.relocationOf? g = some q := hqg ▸ h.relocationOf? hq
  have hreleased := h.releaseVisit
  have hstate_only : ∀ q : Relocation,
      (if v.wheel = some q.wheel ∧ v.dest ≠ none then { q with state := .queued } else q).wheel = q.wheel ∧
      (if v.wheel = some q.wheel ∧ v.dest ≠ none then { q with state := .queued } else q).dest = q.dest := fun q => by
    split <;> exact ⟨rfl, rfl⟩
  obtain ⟨y, hy, hyw, hyd⟩ := (State.relocations_releaseVisit s v ▸ Relocation.exists_map (l := s.relocations)
    hstate_only fun a b => a = g ∧ b = p).2 ⟨q, hq, hqg, hqd.symm⟩
  have hofR : (s.releaseVisit v).relocationOf? g = some y := hyw ▸ hreleased.relocationOf? hy
  have hended := hreleased.endRelocation (g := g) fun u hu hw => absurd hw (State.claimsFor_head h.claims hg hu)
  have hlive : ((s.releaseVisit v).endRelocation g).record? (handleIndex g) =
      some { r with claim := .none, relocationPending := false } := by
    rw [State.record?_endRelocation, if_pos ⟨rfl, by rw [hofR]; exact Option.some_ne_none _⟩,
      State.record?_releaseVisit, if_pos (by rw [hg]; rfl), hr]
    rfl
  have hslotE : ∀ x, ((s.releaseVisit v).endRelocation g).slot x = { s.slot x with
      reserved := if x = p then false else (s.slot x).reserved
      engaged := if x = v.source ∨ x = p then false else (s.slot x).engaged } := by
    intro x
    rw [State.slot_endRelocation, hofR, State.slot_releaseVisit, hp]
    simp only [Option.map_some, hyd, Option.some.injEq, eq_comm (a := p)]
    by_cases h1 : x = p
    · simp [h1]
    · by_cases h2 : x = v.source
      · subst h2
        simp [h1]
      · simp [h1, h2]
  have hmoved := hended.moveRecord (p? := some p) hlive rfl fun x hx => by
    obtain rfl := Option.some.inj hx
    rw [hslotE]
    refine ⟨.inl (hempty p ((hreserved p).2 ⟨q, hq, hqd.symm⟩)), by simp⟩
  have hdone := (((Mild.reach _ p).trans (Mild.removeHold _ (handleIndex g) .blockedSlot)).trans
    (Mild.updRecord _ (handleIndex g) (Keeps.updRecord _ _ (fun r => (r.weighed_fields w).1)
      fun r => (r.weighed_fields w).2.1) (fun r => by
        obtain ⟨-, -, h1, h2, -, h3⟩ := r.weighed_fields w
        rw [WheelRecord.work, h1, h2, h3]
        rfl) fun r hh => by
        obtain ⟨-, -, -, -, h1, -⟩ := r.weighed_fields w
        rwa [h1] at hh)).works hmoved
  have hofM : ((((s.moveRecord (handleIndex g) (some p)).reach p).removeHold (handleIndex g)
      .blockedSlot)).relocationOf? g = some q := by
    rw [← hof, State.relocationOf?, State.relocationOf?]
    simp
  refine hdone.of_same hbase (fun j => ?records) (fun x => ?slots) (fun j => ?handles) ?queue ?candidates ?entries
  case records =>
    simp only [State.moveDone, State.record?_releaseVisit, State.record?_updRecord, State.record?_endRelocation, hofM,
      State.record?_removeHold, State.reach_views, State.record?_moveRecord, hofR, hg, Option.map_some,
      Option.some.injEq]
    by_cases hj : j = handleIndex g
    · subst hj
      rw [hr]
      cases w <;> simp [WheelRecord.weighed]
    · simp [hj, Ne.symm hj]
  case slots =>
    rw [State.slot_releaseVisit]
    simp only [State.moveDone, State.updRecord_views, State.slot_endRelocation, hofM, State.removeHold_views,
      State.slot_reach, State.slot_moveRecord, hslotE, hlive, hr, Option.map_some, Option.some.injEq, hp, ← hqd,
      Option.bind_some]
    by_cases h1 : p = x
    · subst h1
      simp [SlotRecord.work]
    · by_cases h2 : x = v.source
      · subst h2
        simp [SlotRecord.work, h1, Ne.symm h1]
      · simp [SlotRecord.work, h1, Ne.symm h1, h2]
  case handles => simp [State.moveDone]
  case queue =>
    simp only [State.moveDone, State.relocations_releaseVisit, State.updRecord_fields, State.relocations_endRelocation,
      State.removeHold_fields, State.reach_fields, State.moveRecord_fields, List.filter_map]
    congr 1
    refine List.filter_congr fun x _ => ?_
    simp only [Function.comp]
    rw [(hstate_only x).1]
  case candidates => simp [State.moveDone, State.moveRecord, State.dropCandidate]
  case entries => simp [State.moveDone]

theorem State.window_visitOutcome (s : State) (v : Visit) (e : VisitOutcome) (a : ActionSet) (w : Option Nat)
    (tag : Nat) : (s.visitOutcome v e a w tag).dispatcher = s.dispatcher := by
  simp

/-- The outcomes of a visit and its release leave the agreement of the other visits. -/
theorem State.Works.visitOutcome {s : State} {v : Visit} {U : List Visit} (h : s.Works (v :: U)) (e : VisitOutcome)
    (a : ActionSet) (w : Option Nat) (tag : Nat) : ((s.visitOutcome v e a w tag).releaseVisit v).Works U := by
  cases e with
  | done =>
    show ((s.visitDone v a w tag).releaseVisit v).Works U
    unfold State.visitDone
    split
    · exact (((Mild.compare h.base v.source (.tag tag)).trans (Mild.reach _ _)).works h).releaseVisit
    · exact ((Mild.workDone s _ a w).works h).releaseVisit
    · rename_i g p hg hp
      exact h.moveDone hg hp w
  | aborted => exact ((Mild.doubtVisit s v).works h).releaseVisit
  | destUnreachable =>
    show (State.releaseVisit (match v.dest with | none => s | some p => s.unreachable p) v).Works U
    split
    · exact h.releaseVisit
    · exact ((Mild.unreachable s _).works h).releaseVisit
  | unreachable => exact ((Mild.unreachable s _).works h).releaseVisit
  | absent => exact ((Mild.compare h.base v.source .noWheel).works h).releaseVisit

theorem State.worksAgree_ownVisitEnd (e : VisitOutcome) (n k a w tag : Nat) {s : State} (h : s.worksAgree) :
    (State.ownVisitEnd e n k a w tag s).1.worksAgree := by
  unfold State.ownVisitEnd State.withOrder
  split
  · exact h
  · rename_i o ho
    dsimp only
    split
    · exact h
    · exact h
    · rename_i v hpass hv
      rw [hv] at hpass
      obtain ⟨-, -, -, hun⟩ := endRefusal_none hpass
      have hvn : o.visit? v.number = some v := by rw [Order.number_of_visit? hv, hv]
      refine State.worksAgree_loadTimer ?_ _ _
      refine State.worksAgree_endVisit h ho hvn hun (st := e.endState) (by cases e <;> rfl) ?_ fun R hR => ?_
      · simp [State.setVisitState, State.updOrder]
      · have hout := hR.visitOutcome e ((actionSet? a).getD ActionSet.empty) (weightValue w) tag
        exact hout.withDispatcher ((Keeps.setVisitState _ n v.number e.endState).base hout.base) rfl

/-! ## An adopted report (R134) -/

/-- What an adopted report says of the slot and of the wheel seen there. -/
theorem State.adoptRefusal_none {s : State} {p : Nat} {e : Discrepancy} (h : s.adoptRefusal p e = none) :
    (s.slot p).engaged = false ∧ ∀ g, e.moved? = some g → s.claimOf g = .none ∧
      ((s.slot p).reserved = true → ∀ q ∈ s.relocations, q.dest = p → q.wheel = g) := by
  unfold State.adoptRefusal at h
  split at h
  · cases h
  split at h
  · cases h
  split at h
  · rename_i hmoved
    split at h
    · cases h
    rename_i hengaged
    exact ⟨Bool.eq_false_iff.2 hengaged, fun g hg => by rw [hmoved] at hg; cases hg⟩
  · rename_i k hmoved
    split at h
    · cases h
    rename_i hclaim
    split at h
    · cases h
    rename_i hengaged
    split at h
    · cases h
    rename_i htaken
    refine ⟨Bool.eq_false_iff.2 fun he => hengaged (.inl he), fun g hg => ?_⟩
    rw [hmoved] at hg
    obtain rfl := Option.some.inj hg
    refine ⟨not_not.1 hclaim, fun hres q hq hqp => ?_⟩
    by_contra hne
    refine htaken ⟨hres, List.any_eq_true.2 ⟨q, hq, ?_⟩⟩
    simp [hqp, hne]

/-- A slot that is not engaged holds an unclaimed wheel. -/
theorem State.Works.unclaimed_of_free_slot {s : State} {U : List Visit} (h : s.Works U) {i p : Nat} {r : WheelRecord}
    (hr : s.record? i = some r) (hloc : r.location = some p) (hfree : (s.slot p).engaged = false) :
    r.claim = .none := by
  by_contra hne
  obtain ⟨v, hv, hvw⟩ := (h.claims.1 i r hr).1 hne
  obtain ⟨x, hx, -, -, hsource, -⟩ := h.wheel hv hvw
  rw [State.handleIndex_handleOf s (h.base.index_lt hr), hr] at hx
  rw [← Option.some.inj hx, hloc] at hsource
  have hengaged := (h.engaged.1 p).2 ⟨v, hv, by rw [Option.some.inj hsource]; exact List.mem_cons_self⟩
  rw [hfree] at hengaged
  cases hengaged

/-- The slot is emptied of the wheel that the finding expected there. -/
theorem State.Works.unseatExpected {s : State} {U : List Visit} (h : s.Works U) {p : Nat}
    (hfree : (s.slot p).engaged = false) : (s.unseatExpected p).Works U ∧
      ((s.unseatExpected p).slot p).occupant = none ∧
      (∀ j r, s.record? j = some r → ∃ x, (s.unseatExpected p).record? j = some x ∧ x.claim = r.claim) := by
  unfold State.unseatExpected
  split
  · rename_i hnone
    exact ⟨h, hnone, fun j r hr => ⟨r, hr, rfl⟩⟩
  · rename_i i hi
    obtain ⟨r, hr, hloc⟩ := (h.locations i p).1 hi
    refine ⟨h.moveRecord hr (h.unclaimed_of_free_slot hr hloc hfree) fun x hx => (by cases hx), ?_, fun j x hx => ?_⟩
    · rw [State.slot_moveRecord, hr]
      simp [hloc]
    · rw [State.record?_moveRecord]
      split
      · rename_i hj
        rw [← hj, hx]
        exact ⟨_, rfl, rfl⟩
      · exact ⟨x, hx, rfl⟩

/-- The wheel seen takes the slot, and its relocation to that slot ends. -/
theorem State.Works.seatSeen {s : State} {U : List Visit} (h : s.Works U) {p g : Nat} {r : WheelRecord}
    (hn : s.Names g r) (hc : r.claim = .none) (hocc : (s.slot p).occupant = none)
    (hres : (s.slot p).reserved = true → ∀ q ∈ s.relocations, q.dest = p → q.wheel = g) :
    (s.seatSeen p g).Works U := by
  obtain ⟨hr, hgr⟩ := hn
  obtain ⟨-, -, hreserved, -, -, -, -, -⟩ := h.relocations
  have hholds : ∀ u : State, Mild u (((u.removeHold (handleIndex g) .missing).removeHold (handleIndex g)
      .unconfirmed).removeHold (handleIndex g) .blockedSlot) := fun u =>
    ((Mild.removeHold u _ _).trans (Mild.removeHold _ _ _)).trans (Mild.removeHold _ _ _)
  have hsame : ((((s.moveRecord (handleIndex g) (some p)).removeHold (handleIndex g) .missing).removeHold
      (handleIndex g) .unconfirmed).removeHold (handleIndex g) .blockedSlot).relocationOf? g = s.relocationOf? g := by
    simp [State.relocationOf?]
  unfold State.seatSeen
  dsimp only
  rw [hsame]
  cases hfree : (s.slot p).reserved with
  | false =>
    have hseated := (hholds _).works (h.moveRecord (p? := some p) hr hc fun x hx => by
      obtain rfl := Option.some.inj hx
      exact ⟨.inl hocc, hfree⟩)
    split
    · exact hseated
    · rename_i q hq
      rw [if_neg fun hqp => ?_]
      · exact hseated
      · have := (hreserved p).2 ⟨q, (State.relocationOf?_mem hq).1, hqp⟩
        rw [hfree] at this
        cases this
  | true =>
    obtain ⟨q, hq, hqp⟩ := (hreserved p).1 hfree
    have hqg := hres hfree q hq hqp
    have hof : s.relocationOf? g = some q := hqg ▸ h.relocationOf? hq
    rw [hof]
    dsimp only
    rw [if_pos hqp]
    have hended := h.endRelocation (g := g) fun v hv hw =>
      absurd (by rw [hgr]; exact hw) (h.no_visit hr hc hv)
    have hlive : (s.endRelocation g).record? (handleIndex g) = some { r with relocationPending := false } := by
      rw [State.record?_endRelocation, if_pos ⟨rfl, by rw [hof]; exact Option.some_ne_none _⟩, hr]
      rfl
    have hseated := (hholds _).works (hended.moveRecord (p? := some p) hlive hc fun x hx => by
      obtain rfl := Option.some.inj hx
      rw [State.slot_endRelocation, hof, if_pos (by rw [Option.map_some, hqp])]
      exact ⟨.inl hocc, rfl⟩)
    refine hseated.of_same (((Keeps.moveRecord s (handleIndex g) (some p)).trans (hholds _).toKeeps |>.trans
      (Keeps.endRelocation _ g)).base h.base) (fun j => ?_) (fun x => ?_) (fun j => by simp) (by simp) ?_ (by simp)
    · simp only [State.record?_endRelocation, State.record?_removeHold, State.record?_moveRecord, hsame, hof]
      by_cases hj : j = handleIndex g
      · subst hj
        simp [hr]
      · simp [hj]
    · simp only [State.slot_endRelocation, State.removeHold_views, State.slot_moveRecord, hsame, hof, hlive, hr,
        Option.map_some, Option.some.injEq, hqp, Option.bind_some]
      by_cases hx : p = x
      · subst hx
        simp [SlotRecord.work]
      · simp [hx]
    · simp [State.moveRecord, State.dropCandidate]

theorem State.worksAgree_adopt {s : State} (h : s.worksAgree) {p k : Nat} {e : Discrepancy}
    (he : s.entryAt? p = some (k, e)) (hpass : s.adoptRefusal p e = none) : (s.adopt p k e).worksAgree := by
  obtain ⟨hfree, hmoved⟩ := State.adoptRefusal_none hpass
  refine State.worksAgree_of_works h (by simp) fun hworks => ?_
  obtain ⟨hunseated, hempty, hlive⟩ := hworks.unseatExpected hfree
  have hreserved : ((s.unseatExpected p).slot p).reserved = (s.slot p).reserved ∧
      (s.unseatExpected p).relocations = s.relocations ∧
      ∀ j, (s.unseatExpected p).handleOf j = s.handleOf j := by
    unfold State.unseatExpected
    split
    · exact ⟨rfl, rfl, fun _ => rfl⟩
    · exact ⟨by rw [State.slot_moveRecord], by simp, fun j => by simp⟩
  obtain ⟨hres, hqueue, hof⟩ := hreserved
  unfold State.adopt
  dsimp only
  refine (Mild.clearEntry _ k).works ?_
  split
  · exact hunseated
  · rename_i g hg
    obtain ⟨hclaim, hdest⟩ := hmoved g hg
    have hseen : e.seenRecord = some g := by
      unfold Discrepancy.moved? at hg
      split at hg
      · exact hg
      · cases hg
    obtain ⟨r, hr, hgr⟩ := hworks.seen (k, e) (State.entryAt?_mem he).1 g hseen
    obtain ⟨x, hx, hxc⟩ := hlive _ r hr
    have hrc : r.claim = .none := by
      unfold State.claimOf at hclaim
      rwa [hr] at hclaim
    exact hunseated.seatSeen ⟨hx, (hof _).trans hgr⟩ (hxc.trans hrc) hempty fun h1 q hq =>
      hdest (hres ▸ h1) q (hqueue ▸ hq)

end Sys2Proof.Machine

/-! SUPPORT. The number of a new order, the visits of a work source in order, and the wheels and slots a source names. -/

namespace Sys2Proof.Machine

/-! ## The number of a new order (R081) -/

theorem orderAfter_range (n : Nat) : 1 ≤ orderAfter n ∧ orderAfter n ≤ 255 := by
  unfold orderAfter
  split <;> omega

/-- The search ends at a free number, or has met a taken one at each of its numbers. -/
theorem freeNumber_cases (w : List Order) (fuel n : Nat) :
    (∃ k, freeNumber w fuel n = orderAfter^[k + 1] n) ∧
    ((∀ o ∈ w, o.number ≠ freeNumber w fuel n) ∨
      ∀ k ≤ fuel, ∃ o ∈ w, o.number = orderAfter^[k + 1] n) := by
  induction fuel generalizing n with
  | zero =>
    refine ⟨⟨0, rfl⟩, ?_⟩
    by_cases h : ∃ o ∈ w, o.number = orderAfter n
    · exact .inr fun k hk => by
        rw [Nat.le_zero.1 hk]
        exact h
    · exact .inl fun o ho he => h ⟨o, ho, he⟩
  | succ fuel ih =>
    rw [freeNumber]
    split
    · rename_i htaken
      obtain ⟨⟨k, hk⟩, hfree⟩ := ih (orderAfter n)
      refine ⟨⟨k + 1, by rw [hk, ← Function.iterate_succ_apply]⟩, hfree.imp id fun hall k hk => ?_⟩
      cases k with
      | zero =>
        obtain ⟨o, ho, hn⟩ := List.any_eq_true.1 htaken
        exact ⟨o, ho, of_decide_eq_true hn⟩
      | succ k =>
        rw [Function.iterate_succ_apply]
        exact hall k (Nat.le_of_succ_le_succ hk)
    · rename_i hfree
      refine ⟨⟨0, rfl⟩, .inl fun o ho he => hfree (List.any_eq_true.2 ⟨o, ho, decide_eq_true he⟩)⟩

/-- The numbers go round from 1 to 255. -/
theorem orderAfter_iterate {m : Nat} (h1 : 1 ≤ m) (h2 : m ≤ 255) (k : Nat) :
    orderAfter^[k] m = (m - 1 + k) % 255 + 1 := by
  induction k with
  | zero =>
    rw [Function.iterate_zero, id]
    omega
  | succ k ih =>
    rw [Function.iterate_succ_apply', ih]
    unfold orderAfter
    split <;> omega

/-- Five numbers in a row differ. -/
theorem orderAfter_nodup (n : Nat) : ((List.range 5).map fun k => orderAfter^[k + 1] n).Nodup := by
  obtain ⟨h1, h2⟩ := orderAfter_range n
  refine List.Nodup.map_on (fun a ha b hb he => ?_) List.nodup_range
  rw [List.mem_range] at ha hb
  rw [Function.iterate_succ_apply, Function.iterate_succ_apply, orderAfter_iterate h1 h2, orderAfter_iterate h1 h2] at he
  omega

/-- With at most four orders in the window the number is in range and free. -/
theorem State.nextNumber_fresh {s : State} (h : s.dispatcher.window.length ≤ 4) :
    1 ≤ s.nextNumber ∧ s.nextNumber ≤ 255 ∧ ∀ o ∈ s.dispatcher.window, o.number ≠ s.nextNumber := by
  obtain ⟨⟨k, hk⟩, hfree⟩ := freeNumber_cases s.dispatcher.window 4 s.dispatcher.lastNumber
  have hrange : 1 ≤ s.nextNumber ∧ s.nextNumber ≤ 255 := by
    rw [State.nextNumber, hk, Function.iterate_succ_apply']
    exact orderAfter_range _
  refine ⟨hrange.1, hrange.2, hfree.elim id fun hall => ?_⟩
  have hsub : ((List.range 5).map fun k => orderAfter^[k + 1] s.dispatcher.lastNumber) ⊆
      s.dispatcher.window.map fun o => o.number := by
    intro n hn
    obtain ⟨j, hj, rfl⟩ := List.mem_map.1 hn
    obtain ⟨o, ho, he⟩ := hall j (Nat.le_of_lt_succ (List.mem_range.1 hj))
    exact List.mem_map.2 ⟨o, ho, he⟩
  have hlength := (List.subperm_of_subset (orderAfter_nodup s.dispatcher.lastNumber) hsub).length_le
  rw [List.length_map, List.length_map, List.length_range] at hlength
  omega

/-! ## The visits of a batch, by source (R078) -/

theorem numberVisits_eq (n : Nat) (l : List Visit) :
    numberVisits n l = (l.zipIdx n).map fun e => { e.1 with number := e.2 } := by
  induction l generalizing n with
  | nil => rfl
  | cons v rest ih => rw [numberVisits, ih, List.zipIdx_cons, List.map_cons]

/-- What does not look at the number is not changed by numbering. -/
theorem numberVisits_map {α : Type} {f : Visit → α} (hf : ∀ v n, f { v with number := n } = f v) (n : Nat)
    (l : List Visit) : (numberVisits n l).map f = l.map f := by
  induction l generalizing n with
  | nil => rfl
  | cons v rest ih => rw [numberVisits, List.map_cons, List.map_cons, ih, hf]

theorem numberVisits_numbers (n : Nat) (l : List Visit) :
    (numberVisits n l).map (fun v => v.number) = List.range' n l.length := by
  induction l generalizing n with
  | nil => rfl
  | cons v rest ih => rw [numberVisits, List.map_cons, ih, List.length_cons, List.range'_succ]

theorem insertVisit_perm (v : Visit) (l : List Visit) : (insertVisit v l).Perm (v :: l) := by
  induction l with
  | nil => exact .refl _
  | cons u rest ih =>
    rw [insertVisit]
    split
    · exact .refl _
    · exact (ih.cons u).trans (.swap ..)

theorem insertVisit_sorted {v : Visit} {l : List Visit} (h : l.Pairwise fun a b => a.source ≤ b.source) :
    (insertVisit v l).Pairwise fun a b => a.source ≤ b.source := by
  induction l with
  | nil => exact List.pairwise_singleton _ _
  | cons u rest ih =>
    obtain ⟨hu, hrest⟩ := List.pairwise_cons.1 h
    rw [insertVisit]
    split
    · rename_i hlt
      refine List.pairwise_cons.2 ⟨fun x hx => ?_, h⟩
      rcases List.mem_cons.1 hx with rfl | hx
      · exact Nat.le_of_lt hlt
      · exact (Nat.le_of_lt hlt).trans (hu x hx)
    · rename_i hge
      refine List.pairwise_cons.2 ⟨fun x hx => ?_, ih hrest⟩
      rcases List.mem_cons.1 ((insertVisit_perm v rest).mem_iff.1 hx) with rfl | hx
      · exact Nat.not_lt.1 hge
      · exact hu x hx

theorem foldr_insertVisit (l : List Visit) : (l.foldr insertVisit []).Perm l ∧
    (l.foldr insertVisit []).Pairwise fun a b => a.source ≤ b.source := by
  induction l with
  | nil => exact ⟨.nil, .nil⟩
  | cons v rest ih => exact ⟨(insertVisit_perm v _).trans (ih.1.cons v), insertVisit_sorted ih.2⟩

/-- What does not look at the number is permuted by the sort. -/
theorem sortVisits_map_perm {α : Type} {f : Visit → α} (hf : ∀ v n, f { v with number := n } = f v) (l : List Visit) :
    ((sortVisits l).map f).Perm (l.map f) := by
  rw [sortVisits, numberVisits_map hf]
  exact (foldr_insertVisit l).1.map f

theorem sortVisits_numbers (l : List Visit) :
    (sortVisits l).map (fun v => v.number) = (List.range l.length).map fun n => n + 1 := by
  rw [sortVisits, numberVisits_numbers, (foldr_insertVisit l).1.length_eq, List.range'_eq_map_range]
  exact List.map_congr_left fun n _ => Nat.add_comm 1 n

theorem sortVisits_sorted (l : List Visit) : (sortVisits l).Pairwise fun a b => a.source ≤ b.source := by
  have hsources := numberVisits_map (f := fun v => v.source) (fun _ _ => rfl) 1 (l.foldr insertVisit [])
  have hsorted := List.pairwise_map.2 (foldr_insertVisit l).2
  exact List.pairwise_map.1 (hsources ▸ hsorted)

/-- A visit of the sorted list is one of the list, but for its number. -/
theorem mem_sortVisits {l : List Visit} {v : Visit} (h : v ∈ sortVisits l) : ∃ u ∈ l, v = { u with number := v.number } := by
  have hperm := sortVisits_map_perm (f := fun v => { v with number := 0 }) (fun _ _ => rfl) l
  obtain ⟨u, hu, he⟩ := List.mem_map.1 (hperm.mem_iff.1 (List.mem_map_of_mem h))
  obtain ⟨n, src, act, wh, cmp, tg, dst, pro, st⟩ := u
  obtain ⟨n', src', act', wh', cmp', tg', dst', pro', st'⟩ := v
  refine ⟨_, hu, ?_⟩
  simp only [Visit.mk.injEq] at he ⊢
  simp_all

/-! ## An order engages its visits (R082) -/

/-- A visit that can be engaged: its wheel stands unclaimed at its source, its slots are not engaged, and a move has its
entry in the queue. -/
structure Visit.Ready (v : Visit) (s : State) : Prop where
  state : v.state = .waiting
  wheel : ∀ g, v.wheel = some g → ∃ r, s.Names g r ∧ r.claim = .none ∧ r.location = some v.source
  free : ∀ p ∈ v.slots, (s.slot p).engaged = false
  move : ∀ d, v.dest = some d → ∃ q ∈ s.relocations, v.wheel = some q.wheel ∧ d = q.dest

/-- A visit stays ready when another of other wheels and slots is engaged. -/
theorem Visit.Ready.engageVisit {s : State} {u v : Visit} (hu : u.Ready s) (hv : v.Ready s)
    (hwheel : ∀ g, v.wheel = some g → u.wheel ≠ some g) (hslot : ∀ p ∈ v.slots, p ∉ u.slots) :
    v.Ready (s.engageVisit u) := by
  refine ⟨hv.state, fun g hg => ?_, fun p hp => ?_, fun d hd => ?_⟩
  · obtain ⟨r, ⟨hr, hgr⟩, hclaim, hloc⟩ := hv.wheel g hg
    refine ⟨r, ⟨?_, by simpa using hgr⟩, hclaim, hloc⟩
    rw [State.record?_engageVisit, if_neg fun he => ?_, hr]
    obtain ⟨k, hk, hkg⟩ := Option.map_eq_some_iff.1 he
    obtain ⟨-, ⟨-, hkr⟩, -⟩ := hu.wheel k hk
    exact hwheel g hg (by rw [hk, ← hkr, hkg, hgr])
  · rw [State.slot_engageVisit, if_neg fun he => hslot p hp ((u.mem_slots p).2 he)]
    exact hv.free p hp
  · obtain ⟨q, hq, hqw, hqd⟩ := hv.move d hd
    rw [State.relocations_engageVisit]
    refine ⟨_, List.mem_map_of_mem hq, ?_, ?_⟩ <;> split <;> assumption

/-- Ready visits of different wheels and slots are engaged one after the other. -/
theorem State.Works.engageVisits {vs : List Visit} {s : State} {U : List Visit} (h : s.Works U)
    (hready : ∀ v ∈ vs, v.Ready s) (hwheels : (vs.filterMap fun v => v.wheel).Nodup)
    (hslots : (vs.flatMap Visit.slots).Nodup) : (vs.foldl State.engageVisit s).Works (U ++ vs) := by
  induction vs generalizing s U with
  | nil => rwa [List.append_nil]
  | cons u rest ih =>
    have hu := hready u List.mem_cons_self
    rw [List.flatMap_cons, List.nodup_append] at hslots
    obtain ⟨hown, hrest, hdisjoint⟩ := hslots
    have hother : ∀ v ∈ rest, ∀ g, v.wheel = some g → u.wheel ≠ some g := fun v hv g hg hug => by
      rw [List.filterMap_cons_some hug, List.nodup_cons] at hwheels
      exact hwheels.1 (List.mem_filterMap.2 ⟨v, hv, hg⟩)
    have hkept : ∀ v ∈ rest, v.Ready (s.engageVisit u) := fun v hv =>
      hu.engageVisit (hready v (List.mem_cons_of_mem u hv)) (hother v hv) fun p hp hpu =>
        hdisjoint p hpu p (List.mem_flatMap.2 ⟨v, hv, hp⟩) rfl
    have hengaged := h.engageVisit (v := u) (by rw [hu.state]; exact VisitState.noConfusion) hu.wheel hu.free hown hu.move
    have hwrest : (rest.filterMap fun v => v.wheel).Nodup :=
      hwheels.sublist ((List.sublist_cons_self u rest).filterMap _)
    exact (ih hengaged hkept hwrest hrest).perm List.perm_middle.symm

/-- What the legality of an order asks of its kind, aisle and visits. -/
structure VisitsLegal (k : OrderKind) (a : Nat) (vs : List Visit) : Prop where
  some : 1 ≤ vs.length
  few : vs.length ≤ 8
  numbers : vs.map (fun v => v.number) = (List.range vs.length).map fun n => n + 1
  aisle : ∀ v ∈ vs, slotAisle v.source = a
  move : k = .move → vs.length = 1 ∧
    ∀ v ∈ vs, v.actions = ActionSet.moveOnly ∧ v.wheel.isSome = true ∧ v.dest.isSome = true
  batch : k = .batch → (∀ v ∈ vs, v.dest = none) ∧
    ((∀ v ∈ vs, v.actions = ActionSet.scanOnly ∧ v.wheel = none) ∨ ∀ v ∈ vs, v.isWork)

/-- The state when an order has joined the window and its visits are not yet engaged. -/
def State.withNewOrder (s : State) (k : OrderKind) (a : Nat) (vs : List Visit) : State :=
  { s with dispatcher := { s.dispatcher with
    window := s.dispatcher.window ++ [⟨s.nextNumber, k, a, .issued, s.dispatcher.settings.acceptAllowance, vs⟩]
    lastNumber := s.nextNumber } }

theorem State.issue_eq (s : State) (k : OrderKind) (a : Nat) (vs : List Visit) :
    (s.issue k a vs).1 = vs.foldl State.engageVisit (s.withNewOrder k a vs) := rfl

theorem Keeps.withNewOrder {s : State} (k : OrderKind) (a : Nat) {vs : List Visit}
    (hroom : s.dispatcher.window.length < 4) (hvs : vs.length ≤ 8) : Keeps s (s.withNewOrder k a vs) := by
  refine Keeps.dispatcher rfl id (fun _ => ?_) fun h o ho => ?_
  · unfold State.withNewOrder
    rw [List.length_append]
    exact hroom
  · rcases List.mem_append.1 ho with ho | ho
    · exact h o ho
    · rw [List.mem_singleton.1 ho]
      exact hvs

/-- Ready visits are issued in an order. -/
theorem State.worksAgree_issue {s : State} (h : s.worksAgree) (hroom : s.dispatcher.window.length < 4) {k : OrderKind}
    {a : Nat} {vs : List Visit} (hlegal : VisitsLegal k a vs) (hready : ∀ v ∈ vs, v.Ready s)
    (hwheels : (vs.filterMap fun v => v.wheel).Nodup) (hslots : (vs.flatMap Visit.slots).Nodup) :
    (s.issue k a vs).1.worksAgree := by
  obtain ⟨hlow, hhigh, hfresh⟩ := State.nextNumber_fresh (Nat.le_of_lt hroom)
  rw [State.worksAgree_iff_window] at h ⊢
  obtain ⟨⟨hnumbers, horders⟩, hworks⟩ := h
  have hwaiting : ∀ v ∈ vs, v.state = .waiting := fun v hv => (hready v hv).state
  have hunended : vs.filter (fun v => !v.state.ended) = vs :=
    List.filter_eq_self.2 fun v hv => by rw [hwaiting v hv]; rfl
  have hunstarted : vs.filter (fun v => decide (v.state = .started)) = [] :=
    List.filter_eq_nil_iff.2 fun v hv => by rw [hwaiting v hv]; exact (by decide)
  have hnew : (s.withNewOrder k a vs).Works (unendedOf s.dispatcher.window) :=
    hworks.withDispatcher ((Keeps.withNewOrder k a hroom hlegal.few).base hworks.base) rfl
  have hengaged := hnew.engageVisits (fun v hv => ⟨(hready v hv).state, (hready v hv).wheel, (hready v hv).free,
    (hready v hv).move⟩) hwheels hslots
  have hwindow : (s.issue k a vs).1.dispatcher.window = s.dispatcher.window ++
      [⟨s.nextNumber, k, a, .issued, s.dispatcher.settings.acceptAllowance, vs⟩] := by
    rw [State.issue_eq, (State.foldl_engageVisit_fields _ vs).2.2.1]
    rfl
  rw [hwindow]
  refine ⟨⟨?_, fun o ho => ?_⟩, ?_⟩
  · rw [List.map_append, List.map_singleton, List.nodup_append]
    refine ⟨hnumbers, List.nodup_singleton _, fun n hn m hm => ?_⟩
    obtain ⟨o, ho, rfl⟩ := List.mem_map.1 hn
    rw [List.mem_singleton.1 hm]
    exact hfresh o ho
  · rcases List.mem_append.1 ho with ho | ho
    · exact horders o ho
    · rw [List.mem_singleton.1 ho]
      refine ⟨hlow, hhigh, hlegal.some, hlegal.few, hlegal.numbers, hlegal.aisle, ?_, hlegal.move, hlegal.batch⟩
      dsimp only
      rw [hunstarted]
      exact Nat.zero_le 1
  · rw [unendedOf, List.flatMap_append, List.flatMap_singleton, Order.unended]
    dsimp only
    rw [hunended]
    exact hengaged

end Sys2Proof.Machine

/-! SUPPORT. What each source of work yields, and that the visits it yields can be engaged. -/

namespace Sys2Proof.Machine

/-! ## Relocations (R077) -/

theorem State.relocationReady_iff (s : State) (q : Relocation) : s.relocationReady q = true ↔
    q.state = .queued ∧ s.usable q.dest = true ∧ (s.slot q.dest).engaged = false ∧
    ∃ i r, s.named? q.wheel = some i ∧ s.record? i = some r ∧ s.dispatchable i r = true := by
  unfold State.relocationReady
  cases hn : s.named? q.wheel with
  | none => simp
  | some i =>
    cases hr : s.record? i <;> simp [hr, and_assoc]

/-- The move visit of a ready relocation. -/
theorem State.moveVisit?_of_named {s : State} {q : Relocation} {i p : Nat} {r : WheelRecord}
    (hn : s.named? q.wheel = some i) (hr : s.record? i = some r) (hp : r.location = some p) : s.moveVisit? q =
      some ⟨1, p, ActionSet.moveOnly, some q.wheel, some q.wheel, r.tag, some q.dest, none, .waiting⟩ := by
  obtain ⟨⟨hrec, -⟩, -⟩ := State.names_of_named hn hr
  unfold State.moveVisit?
  rw [hrec]
  dsimp only
  rw [hp]
  rfl

theorem State.relocationWork?_some {s : State} {v : Visit} (h : s.relocationWork? = some v) :
    ∃ q i r p, q ∈ s.relocations ∧ s.relocationReady q = true ∧ s.named? q.wheel = some i ∧ s.record? i = some r ∧
      s.dispatchable i r = true ∧ r.location = some p ∧
      v = ⟨1, p, ActionSet.moveOnly, some q.wheel, some q.wheel, r.tag, some q.dest, none, .waiting⟩ := by
  obtain ⟨q, hq, hv⟩ := Option.bind_eq_some_iff.1 h
  have hready : s.relocationReady q = true := List.find?_some hq
  obtain ⟨-, -, -, i, r, hn, hr, hd⟩ := (s.relocationReady_iff q).1 hready
  obtain ⟨-, -, p, hp, -⟩ := (s.dispatchable_iff i r).1 hd
  rw [State.moveVisit?_of_named hn hr hp] at hv
  exact ⟨q, i, r, p, List.mem_of_find?_eq_some hq, hready, hn, hr, hd, hp, (Option.some.inj hv).symm⟩

theorem State.worksAgree_fetchRelocation {s : State} (h : s.worksAgree) (hroom : s.dispatcher.window.length < 4)
    {v : Visit} (hv : s.relocationWork? = some v) : (s.issue .move (slotAisle v.source) [v]).1.worksAgree := by
  obtain ⟨q, i, r, p, hq, hready, hn, hr, hd, hp, rfl⟩ := State.relocationWork?_some hv
  obtain ⟨-, -, hdest, -⟩ := (s.relocationReady_iff q).1 hready
  obtain ⟨hclaim, -, x, hx, -, hsource⟩ := (s.dispatchable_iff i r).1 hd
  obtain rfl := Option.some.inj (hp.symm.trans hx)
  obtain ⟨hnames, -⟩ := State.names_of_named hn hr
  obtain ⟨-, hworks⟩ := s.worksAgree_iff_window.1 h
  obtain ⟨-, -, hreserved, hempty, -⟩ := hworks.relocations
  have hdistinct : p ≠ q.dest := fun he => by
    have hoccupied := (hworks.locations i p).2 ⟨r, hr, hp⟩
    rw [he, hempty q.dest ((hreserved q.dest).2 ⟨q, hq, rfl⟩)] at hoccupied
    cases hoccupied
  refine State.worksAgree_issue h hroom ⟨Nat.le_refl 1, by simp, rfl, by simp, fun _ => ⟨rfl, by simp⟩, nofun⟩ ?_ ?_ ?_
  · intro v hv
    obtain rfl := List.mem_singleton.1 hv
    refine ⟨rfl, fun g hg => ?_, fun y hy => ?_, fun d hd => ?_⟩
    · obtain rfl := Option.some.inj hg
      exact ⟨r, hnames, hclaim, hp⟩
    · rcases (Visit.mem_slots _ y).1 hy with rfl | hy
      · exact hsource
      · exact Option.some.inj hy ▸ hdest
    · exact ⟨q, hq, rfl, (Option.some.inj hd).symm⟩
  · simp
  · simpa [Visit.slots] using hdistinct

/-! ## Candidates (R078) -/

/-- A candidate of a computation is its wheel's, of the wheel's slot and of work. -/
theorem State.interval_candidate_fields {s : State} {i : Nat} {r : WheelRecord} {v : IntervalResult} {c : Candidate}
    (hv : s.interval i r = some v) (hc : v.candidate = some c) :
    ∃ p, r.location = some p ∧ c = ⟨s.handleOf i, s.eligible r p, s.score r p (s.eligible r p), slotAisle p⟩ ∧
      (s.eligible r p).isEmpty = false := by
  unfold State.interval at hv
  split at hv
  · split at hv
    · rw [← Option.some.inj hv] at hc
      cases hc
    · rename_i p hp
      dsimp only at hv
      rw [← Option.some.inj hv] at hc
      dsimp only at hc
      split at hc
      · rename_i hd
        exact ⟨p, hp, (Option.some.inj hc).symm, by simpa using (Bool.and_eq_true_iff.1 hd).2⟩
      · cases hc
  · cases hv

theorem State.recompute_some {s : State} {c d : Candidate} (h : s.recompute c = some d) :
    ∃ r v, s.record? (handleIndex c.handle) = some r ∧ s.interval (handleIndex c.handle) r = some v ∧
      v.candidate = some d := by
  unfold State.recompute at h
  split at h
  · cases h
  · rename_i r hr
    obtain ⟨v, hv, hd⟩ := Option.bind_eq_some_iff.1 h
    exact ⟨r, v, hr, hv, hd⟩

/-- A candidate that was computed again: its wheel waits in its slot for work of the candidate's aisle. -/
structure Candidate.Live (c : Candidate) (s : State) (r : WheelRecord) (p : Nat) : Prop where
  names : s.Names c.handle r
  claim : r.claim = .none
  location : r.location = some p
  free : (s.slot p).engaged = false
  aisle : slotAisle p = c.aisle
  work : c.actions.scan = false ∧ c.actions.move = false ∧ c.actions.isEmpty = false

theorem State.recompute_live {s : State} (h : s.Base) {c d : Candidate} (hd : s.recompute c = some d) :
    handleIndex d.handle = handleIndex c.handle ∧ ∃ r p, d.Live s r p := by
  obtain ⟨r, v, hr, hv, hc⟩ := State.recompute_some hd
  obtain ⟨hdispatch, hof⟩ := State.interval_candidate hv hc
  obtain ⟨p, hp, hfields, hwork⟩ := State.interval_candidate_fields hv hc
  obtain ⟨hclaim, -, x, hx, -, hfree⟩ := (s.dispatchable_iff _ r).1 hdispatch
  obtain rfl := Option.some.inj (hp.symm.trans hx)
  have hidx : handleIndex d.handle = handleIndex c.handle := by
    rw [hof, State.handleIndex_handleOf s (h.index_lt hr)]
  refine ⟨hidx, r, p, ⟨by rw [hidx, hr], by rw [hidx, hof]⟩, hclaim, hp, hfree, by rw [hfields], ?_⟩
  rw [hfields]
  exact ⟨rfl, rfl, hwork⟩

theorem State.survivors_perm (s : State) : s.survivors.Perm (s.candidates.filterMap s.recompute) :=
  (foldr_rankInsert _).1

/-- The survivors stand for different wheels. -/
theorem State.survivors_nodup {s : State} (h : s.Base) :
    (s.survivors.map fun c => handleIndex c.handle).Nodup := by
  rw [(s.survivors_perm.map _).nodup_iff, List.Nodup, List.pairwise_map, List.pairwise_filterMap]
  refine (List.pairwise_map.1 h.bounded.2.2).imp fun {a b} hab x hx y hy => ?_
  rw [(State.recompute_live h hx).1, (State.recompute_live h hy).1]
  exact hab

theorem State.chosen_sublist (s : State) : s.chosen.Sublist s.survivors := by
  unfold State.chosen
  split
  · exact List.nil_sublist _
  · rename_i lead rest hl
    rw [hl]
    exact (List.take_sublist _ _).trans (List.filter_sublist.cons_cons lead)

/-- The chosen candidates are of the aisle of the first. -/
theorem State.chosen_aisle (s : State) : ∀ c ∈ s.chosen, ∀ d ∈ s.chosen, c.aisle = d.aisle := by
  unfold State.chosen
  split
  · intro c hc
    cases hc
  · rename_i lead rest hl
    have hlead : ∀ c ∈ (lead :: rest.filter fun c => decide (c.aisle = lead.aisle)).take Config.visitMax,
        c.aisle = lead.aisle := fun c hc => by
      rcases List.mem_cons.1 (List.mem_of_mem_take hc) with rfl | hc
      · rfl
      · exact of_decide_eq_true (List.mem_filter.1 hc).2
    exact fun c hc d hd => (hlead c hc).trans (hlead d hd).symm

theorem State.chosen_live {s : State} (h : s.Base) {c : Candidate} (hc : c ∈ s.chosen) : ∃ r p, c.Live s r p := by
  obtain ⟨d, -, hd⟩ := List.mem_filterMap.1 (s.survivors_perm.mem_iff.1 (s.chosen_sublist.mem hc))
  exact (State.recompute_live h hd).2

theorem State.workVisit?_of_live {s : State} {c : Candidate} {r : WheelRecord} {p : Nat} (h : c.Live s r p) :
    s.workVisit? c = some ⟨0, p, c.actions, some c.handle, some c.handle, r.tag, none, none, .waiting⟩ := by
  obtain ⟨⟨hr, -⟩, -, hp, -⟩ := h
  unfold State.workVisit?
  rw [hr]
  dsimp only
  rw [hp]
  rfl

/-- Each visit of the candidate work but for its number. -/
theorem State.mem_candidateWork {s : State} (h : s.Base) {v : Visit} (hv : v ∈ s.candidateWork) :
    ∃ c r p, c ∈ s.chosen ∧ c.Live s r p ∧
      v = ⟨v.number, p, c.actions, some c.handle, some c.handle, r.tag, none, none, .waiting⟩ := by
  obtain ⟨u, hu, hvu⟩ := mem_sortVisits hv
  obtain ⟨c, hc, huc⟩ := List.mem_filterMap.1 hu
  obtain ⟨r, p, hlive⟩ := State.chosen_live h hc
  rw [State.workVisit?_of_live hlive] at huc
  refine ⟨c, r, p, hc, hlive, hvu.trans ?_⟩
  rw [← Option.some.inj huc]

/-- The visits of the candidate work are of different wheels at different slots. -/
theorem State.candidateWork_distinct {s : State} (h : s.Base) (hloc : s.locationsAgree) :
    (s.candidateWork.filterMap fun v => v.wheel).Nodup ∧ (s.candidateWork.map fun v => v.source).Nodup := by
  have hchosen : s.chosen.Pairwise fun a b => handleIndex a.handle ≠ handleIndex b.handle :=
    List.pairwise_map.1 ((State.survivors_nodup h).sublist (s.chosen_sublist.map _))
  have hpairs : ∀ R : Visit → Visit → Prop,
      (∀ a ∈ s.chosen, ∀ b ∈ s.chosen, handleIndex a.handle ≠ handleIndex b.handle →
        ∀ x, s.workVisit? a = some x → ∀ y, s.workVisit? b = some y → R x y) →
      (s.chosen.filterMap s.workVisit?).Pairwise R := fun R hR =>
    List.pairwise_filterMap.2 (hchosen.imp_of_mem fun {a b} ha hb hab => hR a ha b hb hab)
  refine ⟨?_, ?_⟩
  · have hperm : (s.candidateWork.map fun v => v.wheel).Perm ((s.chosen.filterMap s.workVisit?).map fun v => v.wheel) :=
      sortVisits_map_perm (fun _ _ => rfl) _
    have hids := hperm.filterMap id
    rw [List.filterMap_map, List.filterMap_map] at hids
    rw [(show (s.candidateWork.filterMap fun v => v.wheel) = s.candidateWork.filterMap (id ∘ fun v => v.wheel) from rfl),
      hids.nodup_iff, List.Nodup, List.pairwise_filterMap]
    refine hpairs _ fun a ha b hb hab x hx y hy g hg k hk hgk => ?_
    obtain ⟨_, _, hla⟩ := State.chosen_live h ha
    obtain ⟨_, _, hlb⟩ := State.chosen_live h hb
    rw [State.workVisit?_of_live hla] at hx
    rw [State.workVisit?_of_live hlb] at hy
    obtain rfl := Option.some.inj hx
    obtain rfl := Option.some.inj hy
    exact hab (congrArg handleIndex ((Option.some.inj hg).trans (hgk.trans (Option.some.inj hk).symm)))
  · have hperm : (s.candidateWork.map fun v => v.source).Perm
        ((s.chosen.filterMap s.workVisit?).map fun v => v.source) := sortVisits_map_perm (fun _ _ => rfl) _
    rw [hperm.nodup_iff, List.Nodup, List.pairwise_map]
    refine hpairs _ fun a ha b hb hab x hx y hy hxy => ?_
    obtain ⟨r, p, hla⟩ := State.chosen_live h ha
    obtain ⟨r', p', hlb⟩ := State.chosen_live h hb
    rw [State.workVisit?_of_live hla] at hx
    rw [State.workVisit?_of_live hlb] at hy
    obtain rfl := Option.some.inj hx
    obtain rfl := Option.some.inj hy
    obtain rfl : p = p' := hxy
    have hocc := (hloc (handleIndex a.handle) p).2 ⟨r, hla.names.1, hla.location⟩
    rw [(hloc (handleIndex b.handle) p).2 ⟨r', hlb.names.1, hlb.location⟩] at hocc
    exact hab (Option.some.inj hocc).symm

/-- Visits without a destination take their sources. -/
theorem slots_of_no_dest {vs : List Visit} (h : ∀ v ∈ vs, v.dest = none) :
    vs.flatMap Visit.slots = vs.map fun v => v.source := by
  induction vs with
  | nil => rfl
  | cons v rest ih =>
    rw [List.flatMap_cons, List.map_cons, ih fun u hu => h u (List.mem_cons_of_mem v hu), Visit.slots,
      h v List.mem_cons_self]
    rfl

theorem State.worksAgree_fetchBatch {s : State} (h : s.worksAgree) (hroom : s.dispatcher.window.length < 4) {v : Visit}
    {rest : List Visit} (hv : s.candidateWork = v :: rest) :
    (s.pruneCandidates.issue .batch (slotAisle v.source) (v :: rest)).1.worksAgree := by
  obtain ⟨-, hworks⟩ := s.worksAgree_iff_window.1 h
  have hprune : s.pruneCandidates.worksAgree := (Mild.candidates rfl List.filter_sublist).agrees h
  obtain ⟨hwheels, hsources⟩ := State.candidateWork_distinct hworks.base hworks.locations
  have hmem := fun u (hu : u ∈ s.candidateWork) => State.mem_candidateWork hworks.base hu
  rw [← hv]
  have hdest : ∀ u ∈ s.candidateWork, u.dest = none := fun u hu => by
    obtain ⟨c, r, p, -, -, he⟩ := hmem u hu
    rw [he]
  refine State.worksAgree_issue hprune hroom ⟨?_, s.length_candidateWork, ?_, fun u hu => ?_, nofun,
    fun _ => ⟨hdest, .inr fun u hu => ?_⟩⟩ (fun u hu => ?_) hwheels (slots_of_no_dest hdest ▸ hsources)
  · rw [hv, List.length_cons]
    exact Nat.le_add_left 1 _
  · rw [State.candidateWork, sortVisits_numbers, length_sortVisits]
  · obtain ⟨c, r, p, hc, hlive, he⟩ := hmem u hu
    obtain ⟨d, x, y, hd, hlive', he'⟩ := hmem v (hv ▸ List.mem_cons_self)
    rw [he, he']
    dsimp only
    rw [hlive.aisle, hlive'.aisle, s.chosen_aisle c hc d hd]
  · obtain ⟨c, r, p, -, hlive, he⟩ := hmem u hu
    obtain ⟨h1, h2, h3⟩ := hlive.work
    rw [he]
    exact ⟨h1, h2, h3, rfl⟩
  · obtain ⟨c, r, p, -, hlive, he⟩ := hmem u hu
    rw [he]
    refine ⟨rfl, fun g hg => ?_, fun y hy => ?_, nofun⟩
    · obtain rfl := Option.some.inj hg
      exact ⟨r, hlive.names, hlive.claim, hlive.location⟩
    · rcases (Visit.mem_slots _ y).1 hy with rfl | hy
      · exact hlive.free
      · cases hy

/-! ## The census (R120) -/

/-- The slots of a census batch are different slots of one rack and take part in the census. -/
structure State.CensusBatch (s : State) (l : List Nat) : Prop where
  distinct : l.Nodup
  eligible : ∀ p ∈ l, s.scanEligible p = true
  rack : ∀ p ∈ l, ∀ q ∈ l, slotRack p = slotRack q
  few : l.length ≤ 8

theorem State.CensusBatch.nil (s : State) : s.CensusBatch [] := ⟨.nil, nofun, nofun, Nat.zero_le 8⟩

theorem State.censusBatch_review {s : State} (h : s.shelf.slots.ordered = true) : s.CensusBatch s.reviewBatch := by
  cases hl : s.flaggedSlots.filter s.scanEligible with
  | nil => exact State.reviewBatch_nil hl ▸ CensusBatch.nil s
  | cons p rest =>
    have hsub : ((p :: rest).filter fun q => decide (slotRack q = slotRack p)).Sublist
        (s.flaggedSlots.filter s.scanEligible) := hl ▸ List.filter_sublist
    have hrack : ∀ q ∈ (((p :: rest).filter fun q => decide (slotRack q = slotRack p)).take 8),
        slotRack q = slotRack p := fun q hq => of_decide_eq_true (List.mem_filter.1 (List.mem_of_mem_take hq)).2
    rw [State.reviewBatch_cons hl]
    refine ⟨?_, fun q hq => ?_, fun q hq x hx => (hrack q hq).trans (hrack x hx).symm, List.length_take_le _ _⟩
    · exact ((State.flaggedSlots_pairwise h).imp Nat.ne_of_lt).sublist
        ((List.take_sublist _ _).trans (hsub.trans List.filter_sublist))
    · exact (List.mem_filter.1 (hsub.mem (List.mem_of_mem_take hq))).2

/-- The eligible slots of a stretch within one rack. -/
theorem State.censusBatch_range (s : State) {p k n : Nat} (h : p + n ≤ k * 256 + 256) (hp : k * 256 ≤ p) :
    s.CensusBatch (((List.range' p n).filter s.scanEligible).take 8) := by
  have hrack : ∀ q ∈ ((List.range' p n).filter s.scanEligible).take 8, slotRack q = k := fun q hq => by
    obtain ⟨h1, h2⟩ := List.mem_range'_1.1 (List.mem_filter.1 (List.mem_of_mem_take hq)).1
    unfold slotRack
    omega
  refine ⟨?_, fun q hq => (List.mem_filter.1 (List.mem_of_mem_take hq)).2,
    fun q hq x hx => (hrack q hq).trans (hrack x hx).symm, List.length_take_le _ _⟩
  exact List.Nodup.sublist ((List.take_sublist _ _).trans List.filter_sublist) List.nodup_range'

theorem State.censusBatch_directed (s : State) (d : DirectedRack) : s.CensusBatch (s.directedBatch d) := by
  rw [State.directedBatch_eq]
  by_cases hw : d.walk ≤ 256
  · exact s.censusBatch_range (k := d.rack) (by omega) (by omega)
  · rw [Nat.sub_eq_zero_of_le (by omega)]
    exact CensusBatch.nil s

theorem State.censusBatch_directedTake (s : State) (l : List DirectedRack) : s.CensusBatch (s.directedTake l).1 := by
  induction l with
  | nil => exact CensusBatch.nil s
  | cons d rest ih =>
    rw [State.directedTake]
    split
    · exact ih
    · exact s.censusBatch_directed d

theorem State.censusBatch_cursor (s : State) : s.CensusBatch s.cursorBatch := by
  unfold State.cursorBatch
  split
  · exact CensusBatch.nil s
  · rename_i p hp
    rw [collectFrom_eq]
    exact s.censusBatch_range (k := p / 256) (by show p + (256 - p % 256) ≤ _; omega) (by omega)

theorem State.censusBatch_take {s : State} (h : s.shelf.slots.ordered = true) : s.CensusBatch s.censusTake.1 := by
  unfold State.censusTake
  split
  · exact State.censusBatch_review h
  · dsimp only
    split
    · exact s.censusBatch_directedTake _
    · split
      · exact s.censusBatch_cursor
      · exact CensusBatch.nil s

theorem State.worksAgree_census {s t : State} (h : s.worksAgree) (hk : Keeps s t)
    (ht : t = { s with census := t.census }) : t.worksAgree := by
  refine (Mild.outside hk ?_ ?_ ?_ ?_ ?_ ?_).agrees h <;> rw [ht]

theorem State.worksAgree_fetchCensus {s : State} (h : s.worksAgree) (hroom : s.dispatcher.window.length < 4) :
    s.fetchCensus.1.worksAgree := by
  obtain ⟨-, hworks⟩ := s.worksAgree_iff_window.1 h
  have hbatch := State.censusBatch_take (State.slots_ordered hworks.base.tables)
  obtain ⟨-, hdirected⟩ := s.length_censusTake
  have htaken : State.worksAgree { s with census := s.censusTake.2 } :=
    State.worksAgree_census h (Keeps.census rfl (.inl hdirected)) rfl
  unfold State.fetchCensus
  split
  · dsimp only
    split
    · exact htaken
    · rename_i p rest hp
      rw [hp] at hbatch
      have hmem : ∀ v ∈ sortVisits ((p :: rest).map s.scanVisit), ∃ q ∈ p :: rest,
          v = { s.scanVisit q with number := v.number } := fun v hv => by
        obtain ⟨u, hu, he⟩ := mem_sortVisits hv
        obtain ⟨q, hq, rfl⟩ := List.mem_map.1 hu
        exact ⟨q, hq, he⟩
      have hdest : ∀ v ∈ sortVisits ((p :: rest).map s.scanVisit), v.dest = none := fun v hv => by
        obtain ⟨q, -, he⟩ := hmem v hv
        rw [he]
        rfl
      have hwheel : ∀ v ∈ sortVisits ((p :: rest).map s.scanVisit), v.wheel = none := fun v hv => by
        obtain ⟨q, -, he⟩ := hmem v hv
        rw [he]
        rfl
      refine State.worksAgree_issue htaken hroom ⟨?_, ?_, ?_, fun v hv => ?_, nofun, fun _ => ⟨hdest, .inl fun v hv => ?_⟩⟩
        (fun v hv => ?_) ?_ ?_
      · rw [length_sortVisits]
        exact Nat.le_add_left 1 _
      · rw [length_sortVisits, List.length_map]
        exact hbatch.few
      · rw [sortVisits_numbers, length_sortVisits]
      · obtain ⟨q, hq, he⟩ := hmem v hv
        have hrack := hbatch.rack q hq p List.mem_cons_self
        rw [he]
        show slotAisle q = slotAisle p
        unfold slotRack at hrack
        unfold slotAisle
        omega
      · obtain ⟨q, -, he⟩ := hmem v hv
        rw [he]
        exact ⟨rfl, rfl⟩
      · obtain ⟨q, hq, he⟩ := hmem v hv
        rw [he]
        refine ⟨rfl, nofun, fun y hy => ?_, nofun⟩
        rcases (Visit.mem_slots _ y).1 hy with rfl | hy
        · have heligible := hbatch.eligible _ hq
          have hfree : (s.slot y).engaged = false := by simpa using (Bool.and_eq_true_iff.1 heligible).2
          exact hfree
        · cases hy
      · rw [List.filterMap_eq_nil_iff.2 hwheel]
        exact .nil
      · rw [slots_of_no_dest hdest]
        have hperm := sortVisits_map_perm (f := fun v => v.source) (fun _ _ => rfl) ((p :: rest).map s.scanVisit)
        rw [hperm.nodup_iff, List.map_map]
        exact (List.map_id (p :: rest)).symm ▸ hbatch.distinct
  · exact h

/-! ## The fetch -/

theorem State.worksAgree_fetchWork {s : State} (h : s.worksAgree) (hroom : s.dispatcher.window.length < 4) :
    s.fetchWork.1.worksAgree := by
  unfold State.fetchWork
  split
  · rename_i v hv
    exact State.worksAgree_fetchRelocation h hroom hv
  · unfold State.fetchCandidates
    split
    · split
      · exact State.worksAgree_fetchCensus ((Mild.candidates rfl List.filter_sublist).agrees h) hroom
      · rename_i v rest hv
        exact State.worksAgree_fetchBatch h hroom hv
    · exact State.worksAgree_fetchCensus h hroom

theorem State.worksAgree_ownFetch (a : Nat) {s : State} (h : s.worksAgree) : (State.ownFetch a s).1.worksAgree := by
  have hsweep : State.worksAgree { s with sweep := { s.sweep with turnerAisle := a } } := (Mild.outer rfl).agrees h
  unfold State.ownFetch
  split
  · dsimp only
    split
    · exact hsweep
    · split
      · exact hsweep
      · rename_i hroom
        exact State.worksAgree_fetchWork hsweep (Nat.not_le.1 hroom)
  · exact h

end Sys2Proof.Machine

/-! SUPPORT. Every command keeps the agreement of wheels, slots, orders and relocations; O7 to O12. -/

namespace Sys2Proof.Machine

/-! ## Requests -/

theorem State.worksAgree_withHandle {s : State} (h : s.worksAgree) (g : Nat) {f : Nat → WheelRecord → State × Reply}
    (hf : ∀ i r, s.record? i = some r → (f i r).1.worksAgree) : (s.withHandle g f).1.worksAgree := by
  unfold State.withHandle
  split
  · exact h
  · split
    · exact h
    · rename_i r hr
      exact hf _ r hr

theorem State.worksAgree_withTime {s : State} (h : s.worksAgree) (time : TimeField) {f : TimeValue → State × Reply}
    (hf : ∀ v, (f v).1.worksAgree) : (s.withTime time f).1.worksAgree := by
  unfold State.withTime
  split
  · exact h
  · exact h
  · split
    · exact hf _
    · exact h

theorem State.worksAgree_withSlot {s : State} (h : s.worksAgree) (l : LSlot) {f : Nat → State × Reply}
    (hf : ∀ p, (f p).1.worksAgree) : (s.withSlot l f).1.worksAgree := by
  unfold State.withSlot
  split
  · exact h
  · split
    · exact h
    · exact hf _

theorem State.worksAgree_withEntry {s : State} (h : s.worksAgree) (l : LSlot)
    {f : Nat → Nat → Discrepancy → State × Reply} (hf : ∀ p k e, s.entryAt? p = some (k, e) → (f p k e).1.worksAgree) :
    (s.withEntry l f).1.worksAgree := by
  refine State.worksAgree_withSlot h l fun p => ?_
  split
  · exact h
  · rename_i k e he
    exact hf p k e he

theorem State.worksAgree_withOrder {s : State} (h : s.worksAgree) (n : Nat) {f : Order → State × Reply}
    (hf : ∀ o, s.order? n = some o → (f o).1.worksAgree) : (s.withOrder n f).1.worksAgree := by
  unfold State.withOrder
  split
  · exact h
  · rename_i o ho
    exact hf o ho

/-- An amendment of a field outside the work, the tag, the overdue mark and the holds. -/
theorem State.worksAgree_amended {s : State} (h : s.worksAgree) {i : Nat} {r r' : WheelRecord}
    (hr : s.record? i = some r) (htag : r'.tag = r.tag) (hover : r'.overdue = r.overdue) (hwork : r'.work = r.work)
    (hholds : r'.holds = r.holds) : (s.amended i r').1.worksAgree :=
  (Mild.setRecord hr (Keeps.setRecord hr htag hover) hwork (by rw [hholds]; exact id)).agrees h

/-- A change of the poller, the zones and the attention set. -/
theorem ClimateKept.agrees {s t : State} (h : ClimateKept s t) (hs : s.worksAgree) : t.worksAgree := by
  refine (Mild.outside h.keeps ?_ ?_ ?_ ?_ ?_ ?_).agrees hs <;> rw [h.frame]

/-- A change of the dispatcher's state or settings. -/
theorem State.worksAgree_dispatcher {s t : State} (hs : s.worksAgree) (hk : Keeps s t)
    (ht : t = { s with dispatcher := t.dispatcher }) (hw : t.dispatcher.window = s.dispatcher.window) :
    t.worksAgree := by
  refine (Mild.outside hk ?_ ?_ ?_ ?_ ?_ hw).agrees hs <;> rw [ht]

/-- An event that happens only while the part works. -/
theorem State.worksAgree_ite {s t : State} {c : Prop} [Decidable c] (h : s.worksAgree) (ht : c → t.worksAgree) :
    (if c then t else s).worksAgree := by
  split
  · rename_i hc
    exact ht hc
  · exact h

/-! ## Every command -/

/-- Every command keeps the agreement. -/
theorem exec_agrees (c : Instr) {s : State} (h : s.worksAgree) : ∃ t, exec c s = .next t ∧ t.worksAgree := by
  have hbase := ((s.worksAgree_iff).1 h).2.base
  cases c
  case powerUp a b => exact ⟨_, rfl, State.worksAgree_powerUp h a b⟩
  case resetNAssert => exact ⟨_, rfl, (Mild.outer rfl).agrees h⟩
  case resetNRelease a b => exact ⟨_, rfl, State.worksAgree_resetRelease h a b⟩
  case backupSupplyLoss => exact ⟨_, rfl, (Mild.outer rfl).agrees h⟩
  case mainPowerLoss => exact ⟨_, rfl, (Mild.outer rfl).agrees h⟩
  case clockMinuteTick => exact ⟨_, rfl, (Mild.outer rfl).agrees h⟩
  case sweepStep => exact ⟨_, rfl, State.worksAgree_ite h fun _ => (Mild.sweepStep hbase).agrees h⟩
  case orderExpiry n => exact ⟨_, rfl, State.worksAgree_ite h fun _ => State.worksAgree_expireOrder h n⟩
  case roundBoundary => exact ⟨_, rfl, State.worksAgree_ite h fun _ => s.boundary_kept.agrees h⟩
  case measure a => exact ⟨_, rfl, State.worksAgree_ite h fun hc => (State.measured_kept a hc.2.1).agrees h⟩
  case conversionWaitEnd => exact ⟨_, rfl, State.worksAgree_ite h fun hc => (State.waitEnded_kept hc.2).agrees h⟩
  case sensorRead a => exact ⟨_, rfl, State.worksAgree_ite h fun hc => (State.readEnded_kept a hc.2.1).agrees h⟩
  case arbitrationLoss f w =>
    exact ⟨_, rfl, State.worksAgree_ite h fun hc => (State.arbitrationLost_kept f w hc.2.1).agrees h⟩
  case busStartCondition own => exact ⟨_, rfl, State.worksAgree_ite h fun _ => (s.startSeen_kept own).agrees h⟩
  case busStopCondition => exact ⟨_, rfl, State.worksAgree_ite h fun _ => s.busIdle_kept.agrees h⟩
  case busIdleTimeout => exact ⟨_, rfl, State.worksAgree_ite h fun _ => s.busIdle_kept.agrees h⟩
  case writeTransaction a l =>
    refine ⟨_, rfl, State.worksAgree_ite h fun _ => ?_⟩
    split
    · exact (Mild.outer rfl).agrees h
    · exact State.worksAgree_writeEnded h _ l
  case replyRead a k =>
    exact ⟨_, rfl, State.worksAgree_ite h fun _ =>
      State.worksAgree_readAt (s := s.strapped k.addr1 k.addr0) ((Mild.outer rfl).agrees h) a _⟩
  case clockHoldTimeout => exact ⟨_, rfl, State.worksAgree_ite h fun _ => State.worksAgree_holdEnded h⟩
  case restartDelayExpiry => exact ⟨_, rfl, State.worksAgree_ite h fun _ => State.worksAgree_warmStart h⟩
  case admitWheel tag cls day l w lt lb =>
    exact ⟨_, rfl, State.worksAgree_serve h fun u hu => State.worksAgree_ownAdmit tag cls day l w lt lb hu⟩
  case lookupTag tag =>
    refine ⟨_, rfl, State.worksAgree_serve h fun u hu => ?_⟩
    repeat' split
    all_goals exact hu
  case lookupSlot l =>
    refine ⟨_, rfl, State.worksAgree_serve h fun u hu => ?_⟩
    repeat' split
    all_goals exact hu
  case readRecord g =>
    exact ⟨_, rfl, State.worksAgree_serve h fun u hu => State.worksAgree_withHandle hu g fun _ _ _ => hu⟩
  case nextRecord n =>
    refine ⟨_, rfl, State.worksAgree_serve h fun u hu => ?_⟩
    repeat' split
    all_goals exact hu
  case amendClass g k =>
    refine ⟨_, rfl, State.worksAgree_serve h fun u hu => State.worksAgree_withHandle hu g fun i r hr => ?_⟩
    split
    · exact State.worksAgree_amended hu hr rfl rfl rfl rfl
    · exact hu
  case amendMakeDay g d =>
    exact ⟨_, rfl, State.worksAgree_serve h fun u hu => State.worksAgree_withHandle hu g fun i r hr =>
      State.worksAgree_amended hu hr rfl rfl rfl rfl⟩
  case amendLastTurn g time =>
    refine ⟨_, rfl, State.worksAgree_serve h fun u hu => State.worksAgree_withHandle hu g fun i r hr =>
      State.worksAgree_withTime hu time fun v => ?_⟩
    cases v
    · exact hu
    · exact State.worksAgree_amended hu hr rfl rfl rfl rfl
    · exact hu
  case amendLastBrush g time =>
    refine ⟨_, rfl, State.worksAgree_serve h fun u hu => State.worksAgree_withHandle hu g fun i r hr =>
      State.worksAgree_withTime hu time fun v => ?_⟩
    cases v
    · exact hu
    · exact State.worksAgree_amended hu hr rfl rfl rfl rfl
    · exact State.worksAgree_amended hu hr rfl rfl rfl rfl
  case amendIntakeWeight g w =>
    exact ⟨_, rfl, State.worksAgree_serve h fun u hu => State.worksAgree_withHandle hu g fun i r hr =>
      State.worksAgree_amended hu hr rfl rfl rfl rfl⟩
  case amendLastWeight g w =>
    exact ⟨_, rfl, State.worksAgree_serve h fun u hu => State.worksAgree_withHandle hu g fun i r hr =>
      State.worksAgree_amended hu hr rfl rfl rfl rfl⟩
  case amendLocation g l =>
    refine ⟨_, rfl, State.worksAgree_serve h fun u hu => State.worksAgree_withHandle hu g fun i r hr => ?_⟩
    split
    · exact hu
    · rename_i hclaim
      split
      · exact hu
      · rename_i hpass
        exact State.worksAgree_amendLocation hu hr (not_not.1 hclaim) hpass
  case hold g =>
    exact ⟨_, rfl, State.worksAgree_serve h fun u hu => State.worksAgree_withHandle hu g fun i _ _ =>
      (Mild.addHold u i _).agrees hu⟩
  case release g n =>
    refine ⟨_, rfl, State.worksAgree_serve h fun u hu => State.worksAgree_withHandle hu g fun i r _ => ?_⟩
    split
    · exact hu
    · exact (Mild.removeHold u i _).agrees hu
  case retire g =>
    refine ⟨_, rfl, State.worksAgree_serve h fun u hu => State.worksAgree_withHandle hu g fun i r hr => ?_⟩
    split
    · exact hu
    · rename_i hclaim
      exact State.worksAgree_retireRecord hu hr (not_not.1 hclaim)
  case eraseRegistry =>
    refine ⟨_, rfl, State.worksAgree_serve h fun u hu => ?_⟩
    split
    · rename_i hidle
      exact State.worksAgree_erase hu hidle.2
    · exact hu
  case mapRack p n c l =>
    refine ⟨_, rfl, State.worksAgree_serve h fun u hu => ?_⟩
    split
    · exact hu
    · rename_i m hm
      dsimp only
      split
      · exact hu
      · rename_i hrange
        split
        · exact hu
        · rename_i htaken
          split
          · exact hu
          · exact (Mild.mapRack ((u.worksAgree_iff).1 hu).2.base.tables (Keeps.mapRack
              ⟨by dsimp only; omega, by dsimp only; omega⟩ ⟨by dsimp only; omega, by dsimp only; omega⟩
              (logicalField?_range hm) (by simpa using htaken))).agrees hu
  case readRack p =>
    refine ⟨_, rfl, State.worksAgree_serve h fun u hu => ?_⟩
    split <;> exact hu
  case readSlot l => exact ⟨_, rfl, State.worksAgree_serve h fun u hu => State.worksAgree_withSlot hu l fun _ => hu⟩
  case unblock l =>
    exact ⟨_, rfl, State.worksAgree_serve h fun u hu => State.worksAgree_withSlot hu l fun p =>
      (Mild.unblockSlot u p).agrees hu⟩
  case setWindow n z fa la lo hi =>
    refine ⟨_, rfl, State.worksAgree_serve h fun u hu => ?_⟩
    split
    · exact hu
    · rename_i zone hzone
      split
      · rename_i hrange
        exact (Mild.outside (Keeps.setWindow
          ⟨hrange.2.2.2.1, hrange.2.1, hrange.2.2.2.2, hrange.2.2.1, windowZone?_range hzone⟩)
          rfl rfl rfl rfl rfl rfl).agrees hu
      · exact hu
  case readWindow n =>
    refine ⟨_, rfl, State.worksAgree_serve h fun u hu => ?_⟩
    split <;> exact hu
  case setClass k bt bb st g ca tl th bh w lt lb ol =>
    refine ⟨_, rfl, State.worksAgree_serve h fun u hu => ?_⟩
    split
    · exact (Mild.outside (Keeps.setClass u k _) rfl rfl rfl rfl rfl rfl).agrees hu
    · exact hu
  case readClass k =>
    refine ⟨_, rfl, State.worksAgree_serve h fun u hu => ?_⟩
    split <;> exact hu
  case readCandidates n =>
    refine ⟨_, rfl, State.worksAgree_serve h fun u hu => ?_⟩
    split <;> exact hu
  case pause =>
    exact ⟨_, rfl, State.worksAgree_serve h fun u hu =>
      State.worksAgree_dispatcher hu (Keeps.setDispatchState u .paused) rfl rfl⟩
  case resume =>
    exact ⟨_, rfl, State.worksAgree_serve h fun u hu =>
      State.worksAgree_dispatcher hu (Keeps.setDispatchState u .running) rfl rfl⟩
  case setDispatch a o v b c =>
    refine ⟨_, rfl, State.worksAgree_serve h fun u hu => ?_⟩
    split
    · exact hu
    · exact State.worksAgree_dispatcher hu (Keeps.setDispatch u _) rfl rfl
  case readDispatch => exact ⟨_, rfl, State.worksAgree_serve h fun u hu => hu⟩
  case cancelOrders a =>
    refine ⟨_, rfl, State.worksAgree_serve h fun u hu => ?_⟩
    split
    · exact State.worksAgree_cancelOrders hu a
    · exact hu
  case readOrders n =>
    refine ⟨_, rfl, State.worksAgree_serve h fun u hu => ?_⟩
    split
    · exact hu
    · exact State.worksAgree_withOrder hu n fun _ _ => hu
  case relocate g l =>
    refine ⟨_, rfl, State.worksAgree_serve h fun u hu => State.worksAgree_withHandle hu g fun i r hr => ?_⟩
    split
    · exact hu
    · rename_i hpass
      split
      · exact hu
      · rename_i p hp
        exact State.worksAgree_queueRelocation hu hr hpass hp
  case unrelocate g =>
    refine ⟨_, rfl, State.worksAgree_serve h fun u hu => State.worksAgree_withHandle hu g fun _ _ _ => ?_⟩
    split
    · exact hu
    · rename_i q hq
      split
      · exact hu
      · rename_i hst
        exact State.worksAgree_endRelocation hu hq hst
  case readRelocations => exact ⟨_, rfl, State.worksAgree_serve h fun u hu => hu⟩
  case censusRack n =>
    refine ⟨_, rfl, State.worksAgree_serve h fun u hu => ?_⟩
    split
    · exact State.worksAgree_census hu (Keeps.emptyDirected u) rfl
    split
    · exact hu
    split
    · exact hu
    split
    · exact hu
    split
    · exact hu
    · rename_i hroom
      exact State.worksAgree_census hu (Keeps.censusRack u _ (Nat.not_le.1 hroom)) rfl
  case censusRackNone =>
    exact ⟨_, rfl, State.worksAgree_serve h fun u hu => State.worksAgree_census hu (Keeps.emptyDirected u) rfl⟩
  case readCensus => exact ⟨_, rfl, State.worksAgree_serve h fun u hu => hu⟩
  case readDiscrepancy k =>
    refine ⟨_, rfl, State.worksAgree_serve h fun u hu => ?_⟩
    repeat' split
    all_goals exact hu
  case readDiscrepancyNext k =>
    refine ⟨_, rfl, State.worksAgree_serve h fun u hu => ?_⟩
    repeat' split
    all_goals exact hu
  case resolveDismiss l =>
    exact ⟨_, rfl, State.worksAgree_serve h fun u hu => State.worksAgree_withEntry hu l fun p _ _ _ =>
      (Mild.dismissEntry u p).agrees hu⟩
  case resolveAdopt l =>
    refine ⟨_, rfl, State.worksAgree_serve h fun u hu => State.worksAgree_withEntry hu l fun p k e he => ?_⟩
    split
    · exact hu
    · rename_i hpass
      exact State.worksAgree_adopt hu he hpass
  case resolveRescan l =>
    exact ⟨_, rfl, State.worksAgree_serve h fun u hu => State.worksAgree_withEntry hu l fun p _ _ _ =>
      (Mild.updSlot u p (f := fun v => { v with review := true }) fun _ => rfl).agrees hu⟩
  case setSensor n a z =>
    refine ⟨_, rfl, State.worksAgree_serve h fun u hu => ?_⟩
    split
    · exact hu
    · rename_i hpass
      exact (State.writeSensor_kept hpass).agrees hu
  case readSensor n =>
    refine ⟨_, rfl, State.worksAgree_serve h fun u hu => ?_⟩
    split <;> exact hu
  case setPoll r per w =>
    refine ⟨_, rfl, State.worksAgree_serve h fun u hu => ?_⟩
    split
    · exact hu
    · exact (u.setPoll_kept _).agrees hu
  case readPoll => exact ⟨_, rfl, State.worksAgree_serve h fun u hu => hu⟩
  case setZone z bl bh hy al ah dr dc g =>
    refine ⟨_, rfl, State.worksAgree_serve h fun u hu => ?_⟩
    dsimp only
    split
    · rename_i hpass
      exact (u.storeSettings_kept z ⟨ZoneSettings.clamped_clamped _, (Bool.and_eq_true_iff.1 hpass).2⟩).agrees hu
    · exact hu
  case readZone z =>
    refine ⟨_, rfl, State.worksAgree_serve h fun u hu => ?_⟩
    split <;> exact hu
  case ackAlarm z =>
    refine ⟨_, rfl, State.worksAgree_serve h fun u hu => ?_⟩
    split
    · split
      · exact hu
      · exact (u.setAlarm_kept z _).agrees hu
    · exact hu
  case takeAttention => exact ⟨_, rfl, State.worksAgree_serve h fun u hu => (Mild.outer rfl).agrees hu⟩
  case setMask m => exact ⟨_, rfl, State.worksAgree_serve h fun u hu => (Mild.outer rfl).agrees hu⟩
  case readStatus => exact ⟨_, rfl, State.worksAgree_serve h fun u hu => hu⟩
  case setClock m => exact ⟨_, rfl, State.worksAgree_serve h fun u hu => (Mild.outer rfl).agrees hu⟩
  case readClock => exact ⟨_, rfl, State.worksAgree_serve h fun u hu => hu⟩
  case restart => exact ⟨_, rfl, State.worksAgree_serve h fun u hu => (Mild.outer rfl).agrees hu⟩
  case fetch a => exact ⟨_, rfl, State.worksAgree_serve h fun u hu => State.worksAgree_ownFetch a hu⟩
  case accept n =>
    refine ⟨_, rfl, State.worksAgree_serve h fun u hu => State.worksAgree_withOrder hu n fun o _ => ?_⟩
    split
    · exact State.worksAgree_loadTimer (State.worksAgree_updOrder hu n
        (f := fun o => { o with state := .accepted }) fun _ => ⟨rfl, rfl, rfl, rfl⟩) n _
    · exact hu
  case visitStart n v tag =>
    exact ⟨_, rfl, State.worksAgree_serve h fun u hu => State.worksAgree_ownVisitStart n v tag hu⟩
  case visitEndDone n v a w tag =>
    exact ⟨_, rfl, State.worksAgree_serve h fun u hu => State.worksAgree_ownVisitEnd .done n v a w tag hu⟩
  case visitEndAborted n v a w tag =>
    exact ⟨_, rfl, State.worksAgree_serve h fun u hu => State.worksAgree_ownVisitEnd .aborted n v a w tag hu⟩
  case visitEndDestUnreachable n v a w tag =>
    exact ⟨_, rfl, State.worksAgree_serve h fun u hu => State.worksAgree_ownVisitEnd .destUnreachable n v a w tag hu⟩
  case visitEndUnreachable n v a w tag =>
    exact ⟨_, rfl, State.worksAgree_serve h fun u hu => State.worksAgree_ownVisitEnd .unreachable n v a w tag hu⟩
  case visitEndAbsent n v a w tag =>
    exact ⟨_, rfl, State.worksAgree_serve h fun u hu => State.worksAgree_ownVisitEnd .absent n v a w tag hu⟩
  case closeOrder n =>
    exact ⟨_, rfl, State.worksAgree_serve h fun u hu => State.worksAgree_withOrder hu n fun o ho =>
      State.worksAgree_closeOrder hu ho⟩
  case readOrder n =>
    refine ⟨_, rfl, State.worksAgree_serve h fun u hu => ?_⟩
    split
    · exact hu
    · exact State.worksAgree_withOrder hu n fun _ _ => hu

/-- Every step keeps the agreement. -/
theorem step_agrees {s t : State} (hs : s.worksAgree) (h : step s = .next t) : t.worksAgree := by
  cases hp : s.pending with
  | nil =>
    rw [step, hp] at h
    exact Host.Outcome.next.inj h ▸ State.worksAgree_secondPassed (State.worksAgree_ownersTake hs)
  | cons c rest =>
    rw [step, hp] at h
    obtain ⟨u, hu, ht⟩ := exec_agrees c (s := { s with pending := rest }) ((Mild.outer rfl).agrees hs)
    rwa [Host.Outcome.next.inj (h.symm.trans hu)]

/-- Settles O7: every step keeps the locations in agreement with the slots. -/
theorem stepsKeepLocationsAgreed : Obligations.StepsKeepLocationsAgreed := by
  intro s t hs h
  exact ((State.worksAgree_iff t).1 (step_agrees hs h)).2.locations

/-- Settles O8: every step keeps the claims with the unended visits. -/
theorem stepsKeepClaimsWithTheirVisits : Obligations.StepsKeepClaimsWithTheirVisits := by
  intro s t hs h
  exact ((State.worksAgree_iff t).1 (step_agrees hs h)).2.claims

/-- Settles O9: every step keeps the engagements with the unended visits. -/
theorem stepsKeepEngagementsWithTheirVisits : Obligations.StepsKeepEngagementsWithTheirVisits := by
  intro s t hs h
  exact ((State.worksAgree_iff t).1 (step_agrees hs h)).2.engaged

/-- Settles O10: every step keeps the reservations with the relocations. -/
theorem stepsKeepReservationsWithTheirRelocations : Obligations.StepsKeepReservationsWithTheirRelocations := by
  intro s t hs h
  exact ((State.worksAgree_iff t).1 (step_agrees hs h)).2.relocations

/-- Settles O11: every step keeps the candidates unclaimed and unheld, and the records seen in findings live. -/
theorem stepsKeepCandidatesUnclaimedAndUnheld : Obligations.StepsKeepCandidatesUnclaimedAndUnheld := by
  intro s t hs h
  obtain ⟨-, hworks⟩ := (State.worksAgree_iff t).1 (step_agrees hs h)
  exact ⟨hworks.free, hworks.seen⟩

/-- Settles O12: every step keeps the order window legal. -/
theorem stepsKeepTheOrderWindowLegal : Obligations.StepsKeepTheOrderWindowLegal := by
  intro s t hs h
  exact ((State.worksAgree_iff t).1 (step_agrees hs h)).1

end Sys2Proof.Machine

/-! SUPPORT. A refused request changes nothing; O15. -/

namespace Sys2Proof.Machine

/-- An answer that changes the state only where it is no refusal. -/
def State.Spares (s : State) (x : State × Reply) : Prop := x.2.status.isRefusal = true → x.1 = s

theorem State.Spares.same {s : State} {x : State × Reply} (h : x.1 = s) : s.Spares x := fun _ => h

theorem State.Spares.accepted {s : State} {x : State × Reply} (h : x.2.status.isRefusal = false) : s.Spares x :=
  fun hr => absurd hr (by rw [h]; exact Bool.false_ne_true)

theorem State.Spares.done (s t : State) : s.Spares t.done := .accepted rfl

theorem State.Spares.ok (s t : State) (l : List Byte) : s.Spares (t, Reply.ok l) := .accepted rfl

theorem State.Spares.refuse (s : State) (st : Status) : s.Spares (s.refuse st) := .same rfl

theorem State.Spares.report (s : State) (l : List Byte) : s.Spares (s.report l) := .same rfl

theorem storedStatus_accepted {α : Type} [DecidableEq α] (a b : α) : (storedStatus a b).isRefusal = false := by
  unfold storedStatus
  split <;> rfl

/-! ## What a request names -/

theorem State.Spares.withHandle {s : State} (h : Nat) {f : Nat → WheelRecord → State × Reply}
    (hf : ∀ i r, s.Spares (f i r)) : s.Spares (s.withHandle h f) := by
  unfold State.withHandle
  split
  · exact .refuse s _
  · split
    · exact .refuse s _
    · exact hf _ _

theorem State.Spares.withTime {s : State} (time : TimeField) {f : TimeValue → State × Reply}
    (hf : ∀ v, s.Spares (f v)) : s.Spares (s.withTime time f) := by
  unfold State.withTime
  split
  · exact .refuse s _
  · exact .refuse s _
  · split
    · exact hf _
    · exact .refuse s _

theorem State.Spares.withSlot {s : State} (l : LSlot) {f : Nat → State × Reply} (hf : ∀ p, s.Spares (f p)) :
    s.Spares (s.withSlot l f) := by
  unfold State.withSlot
  split
  · exact .refuse s _
  · split
    · exact .refuse s _
    · exact hf _

theorem State.Spares.withEntry {s : State} (l : LSlot) {f : Nat → Nat → Discrepancy → State × Reply}
    (hf : ∀ p k e, s.Spares (f p k e)) : s.Spares (s.withEntry l f) := by
  refine .withSlot l fun p => ?_
  split
  · exact .refuse s _
  · exact hf _ _ _

theorem State.Spares.withOrder {s : State} (n : Nat) {f : Order → State × Reply} (hf : ∀ o, s.Spares (f o)) :
    s.Spares (s.withOrder n f) := by
  unfold State.withOrder
  split
  · exact .refuse s _
  · exact hf _

/-! ## The longer owners -/

theorem State.spares_ownAdmit (tag cls day : Nat) (l : LSlot) (w : Nat) (lt lb : TimeField) (s : State) :
    s.Spares (State.ownAdmit tag cls day l w lt lb s) := by
  unfold State.ownAdmit
  split
  · exact .refuse s _
  · exact .ok s _ _

theorem State.spares_storeSettings (s : State) (z : Nat) (c : ZoneSettings) : s.Spares (s.storeSettings z c) := by
  unfold State.storeSettings
  split <;> exact .accepted rfl

theorem State.spares_issue (s t : State) (k : OrderKind) (a : Nat) (vs : List Visit) : s.Spares (t.issue k a vs) :=
  .accepted rfl

theorem State.spares_noneDue (s t : State) : s.Spares t.noneDue := .accepted rfl

theorem State.spares_fetchCensus (s t : State) : s.Spares t.fetchCensus := by
  unfold State.fetchCensus
  split
  · dsimp only
    split
    · exact State.spares_noneDue s _
    · exact State.spares_issue s _ _ _ _
  · exact State.spares_noneDue s _

theorem State.spares_fetchWork (s t : State) : s.Spares t.fetchWork := by
  unfold State.fetchWork
  split
  · exact State.spares_issue s _ _ _ _
  · unfold State.fetchCandidates
    split
    · split
      · exact State.spares_fetchCensus s _
      · exact State.spares_issue s _ _ _ _
    · exact State.spares_fetchCensus s _

theorem State.spares_ownFetch (a : Nat) (s : State) : s.Spares (State.ownFetch a s) := by
  unfold State.ownFetch
  split
  · dsimp only
    split
    · exact .accepted rfl
    · split
      · exact .accepted rfl
      · exact State.spares_fetchWork s _
  · exact .refuse s _

theorem State.spares_checkStart (s : State) (n : Nat) (v : Visit) (tag : Nat) : s.Spares (s.checkStart n v tag) := by
  unfold State.checkStart
  dsimp only
  repeat' split
  all_goals exact .accepted rfl

theorem State.spares_ownVisitStart (n v tag : Nat) (s : State) : s.Spares (State.ownVisitStart n v tag s) := by
  refine .withOrder n fun o => ?_
  split
  · exact .refuse s _
  · exact .refuse s _
  · split
    · exact .accepted rfl
    · exact s.spares_checkStart _ _ _

theorem State.spares_ownVisitEnd (e : VisitOutcome) (n v a w tag : Nat) (s : State) :
    s.Spares (State.ownVisitEnd e n v a w tag s) := by
  refine .withOrder n fun o => ?_
  split
  · exact .refuse s _
  · exact .refuse s _
  · exact .done s _

/-! ## Every request -/

/-- Every request is served by an owner whose refusals change nothing. -/
theorem exec_spares {c : Instr} {p : PortId} (h : requestPort c = some p) :
    ∃ owner : State → State × Reply, (∀ s, exec c s = .next (s.serve p c owner)) ∧ ∀ s : State, s.Spares (owner s) := by
  cases c <;> simp [requestPort, requestOf, kindForm] at h <;> subst h <;>
    refine ⟨_, fun _ => rfl, fun (s : State) => ?_⟩
  case admitWheel tag cls day l w lt lb => exact s.spares_ownAdmit tag cls day l w lt lb
  case lookupTag tag =>
    repeat' split
    all_goals exact .same rfl
  case lookupSlot l =>
    repeat' split
    all_goals exact .same rfl
  case readRecord g => exact .withHandle g fun _ _ => .same rfl
  case nextRecord n =>
    repeat' split
    all_goals exact .same rfl
  case amendClass g k =>
    refine .withHandle g fun _ _ => ?_
    split
    · exact .done s _
    · exact .refuse s _
  case amendMakeDay g d => exact .withHandle g fun _ _ => .done s _
  case amendLastTurn g time =>
    refine .withHandle g fun _ _ => .withTime time fun v => ?_
    cases v
    · exact .refuse s _
    · exact .done s _
    · exact .refuse s _
  case amendLastBrush g time =>
    refine .withHandle g fun _ _ => .withTime time fun v => ?_
    cases v
    · exact .refuse s _
    · exact .done s _
    · exact .done s _
  case amendIntakeWeight g w => exact .withHandle g fun _ _ => .done s _
  case amendLastWeight g w => exact .withHandle g fun _ _ => .done s _
  case amendLocation g l =>
    refine .withHandle g fun _ _ => ?_
    split
    · exact .refuse s _
    · split
      · exact .refuse s _
      · exact .done s _
  case hold g => exact .withHandle g fun _ _ => .done s _
  case release g n =>
    refine .withHandle g fun _ _ => ?_
    split
    · exact .refuse s _
    · exact .done s _
  case retire g =>
    refine .withHandle g fun _ _ => ?_
    split
    · exact .refuse s _
    · exact .done s _
  case eraseRegistry =>
    split
    · exact .done s _
    · exact .refuse s _
  case mapRack p n c l =>
    split
    · exact .refuse s _
    · dsimp only
      split
      · exact .refuse s _
      split
      · exact .refuse s _
      split
      · exact .refuse s _
      · exact .ok s _ _
  case readRack p => split <;> exact .same rfl
  case readSlot l => exact .withSlot l fun _ => .same rfl
  case unblock l => exact .withSlot l fun _ => .done s _
  case setWindow n z fa la lo hi =>
    split
    · exact .refuse s _
    · split
      · exact .done s _
      · exact .refuse s _
  case readWindow n => split <;> exact .same rfl
  case setClass k bt bb st g ca tl th bh w lt lb ol =>
    split
    · exact .accepted (storedStatus_accepted _ _)
    · exact .refuse s _
  case readClass k => split <;> exact .same rfl
  case readCandidates n => split <;> exact .same rfl
  case pause => exact .done s _
  case resume => exact .done s _
  case setDispatch a o v b c =>
    split
    · exact .refuse s _
    · exact .accepted (storedStatus_accepted _ _)
  case readDispatch => exact .same rfl
  case cancelOrders a =>
    split
    · exact .ok s _ _
    · exact .refuse s _
  case readOrders n =>
    split
    · exact .same rfl
    · exact .withOrder n fun _ => .same rfl
  case relocate g l =>
    refine .withHandle g fun _ _ => ?_
    split
    · exact .refuse s _
    · split
      · exact .refuse s _
      · exact .ok s _ _
  case unrelocate g =>
    refine .withHandle g fun _ _ => ?_
    split
    · exact .refuse s _
    · split
      · exact .refuse s _
      · exact .done s _
  case readRelocations => exact .same rfl
  case censusRack n =>
    split
    · exact .done s _
    split
    · exact .refuse s _
    split
    · exact .refuse s _
    split
    · exact .refuse s _
    split
    · exact .refuse s _
    · exact .ok s _ _
  case censusRackNone => exact .done s _
  case readCensus => exact .same rfl
  case readDiscrepancy k =>
    repeat' split
    all_goals exact .same rfl
  case readDiscrepancyNext k =>
    repeat' split
    all_goals exact .same rfl
  case resolveDismiss l => exact .withEntry l fun _ _ _ => .done s _
  case resolveAdopt l =>
    refine .withEntry l fun _ _ _ => ?_
    split
    · exact .refuse s _
    · exact .done s _
  case resolveRescan l => exact .withEntry l fun _ _ _ => .done s _
  case setSensor n a z =>
    split
    · exact .refuse s _
    · exact .accepted rfl
  case readSensor n => split <;> exact .same rfl
  case setPoll r per w =>
    split
    · exact .refuse s _
    · exact .accepted (storedStatus_accepted _ _)
  case readPoll => exact .same rfl
  case setZone z bl bh hy al ah dr dc g =>
    dsimp only
    split
    · exact s.spares_storeSettings z _
    · exact .refuse s _
  case readZone z => split <;> exact .same rfl
  case ackAlarm z =>
    split
    · split
      · exact .refuse s _
      · exact .done s _
    · exact .refuse s _
  case takeAttention => exact .accepted rfl
  case setMask m => exact .accepted rfl
  case readStatus => exact .same rfl
  case setClock m => exact .done s _
  case readClock => exact .same rfl
  case restart => exact .done s _
  case fetch a => exact s.spares_ownFetch a
  case accept n =>
    refine .withOrder n fun _ => ?_
    split
    · exact .done s _
    · exact .refuse s _
  case visitStart n v tag => exact s.spares_ownVisitStart n v tag
  case visitEndDone n v a w tag => exact s.spares_ownVisitEnd .done n v a w tag
  case visitEndAborted n v a w tag => exact s.spares_ownVisitEnd .aborted n v a w tag
  case visitEndDestUnreachable n v a w tag => exact s.spares_ownVisitEnd .destUnreachable n v a w tag
  case visitEndUnreachable n v a w tag => exact s.spares_ownVisitEnd .unreachable n v a w tag
  case visitEndAbsent n v a w tag => exact s.spares_ownVisitEnd .absent n v a w tag
  case closeOrder n => exact .withOrder n fun _ => .done s _
  case readOrder n =>
    split
    · exact .same rfl
    · exact .withOrder n fun _ => .same rfl

/-- A handle names nothing where its index is free or of another generation (R3). -/
theorem State.named?_eq_none (s : State) (h : Nat) :
    s.named? h = none ↔ s.record? (h % 4096) = none ∨ s.generation (h % 4096) ≠ h / 4096 := by
  unfold State.named? handleIndex handleGeneration
  cases s.record? (h % 4096) <;> simp

/-- A request of a stale handle is refused. -/
theorem State.replies_of_stale {s : State} {c : Instr} {h : Nat} (hf : s.free .registry = true)
    (hc : requestHandle c = some h) (hn : s.named? h = none) : s.Replies c .registry s ⟨.staleHandle, []⟩ := by
  cases c <;> cases hc <;> exact State.replies_of_owner rfl hf (State.withHandle_of_stale hn _)

/-- Settles O15: every owner spares the state where it refuses, and a stale handle is refused before the owner looks at
a record. -/
theorem refusedRequestsChangeNothing : Obligations.RefusedRequestsChangeNothing := by
  refine ⟨fun s c p hc hf => ?_, fun s c h => ⟨s.named?_eq_none h, State.replies_of_stale⟩⟩
  obtain ⟨owner, howner, hspares⟩ := exec_spares hc
  exact ⟨(owner s).1, (owner s).2, (howner s).trans (congrArg _ (State.serve_of_free hf rfl)), hspares s⟩

end Sys2Proof.Machine

/-! SUPPORT. The frame of a request and its reading; O16. -/

namespace Sys2Proof.Machine

/-! ## Big-endian fields -/

theorem foldl_be (k n a : Nat) : (be k n).foldl (fun n b => n * 256 + b.toNat) a = a * 256 ^ k + n % 256 ^ k := by
  induction k generalizing a with
  | zero =>
    rw [be, List.foldl_nil, Nat.pow_zero, Nat.mod_one]
    omega
  | succ k ih =>
    have hsplit : n % (256 ^ k * 256) = n % 256 ^ k + 256 ^ k * (n / 256 ^ k % 256) := Nat.mod_mul
    rw [be, List.foldl_cons, ih, BitVec.toNat_ofNat, Nat.pow_succ 256, hsplit]
    ring

theorem unbe_be {k n : Nat} (h : fits k n = true) : unbe (be k n) = n := by
  rw [unbe, foldl_be, Nat.zero_mul, Nat.zero_add, Nat.mod_eq_of_lt (of_decide_eq_true h)]

/-- The field that begins a payload. -/
theorem field_be {k n : Nat} (h : fits k n = true) (l : List Byte) : field (be k n ++ l) 0 k = n := by
  rw [field, List.drop_zero, List.take_append_of_le_length (by simp), List.take_of_length_le (by simp), unbe_be h]

theorem field_be_only {k n : Nat} (h : fits k n = true) : field (be k n) 0 k = n := by
  simpa using field_be h []

/-- A field behind another. -/
theorem field_be_append {k n o : Nat} (h : k ≤ o) (l : List Byte) (j : Nat) :
    field (be k n ++ l) o j = field l (o - k) j := by
  rw [field, List.drop_append, length_be, List.drop_of_length_le (by simpa using h), List.nil_append, field]

/-! ## Payloads read back -/

/-- The payload of a request is as long as its kind asks, and the kind is known. -/
theorem requestOf_form {i : Instr} {k : Nat} {l : List Byte} (h : requestOf i = some (k, l)) :
    ∃ p lengths, kindForm k = some (p, lengths) ∧ lengths.contains l.length = true ∧ l.length ≤ 124 ∧ k < 256 := by
  cases i <;> cases h <;>
    exact ⟨_, _, rfl, by simp [beLSlot, beTimeField, visitEndPayload, amendPayload],
      by simp [beLSlot, beTimeField, visitEndPayload, amendPayload], by decide⟩

/-- The payload of a request is read back as the request. -/
theorem parseRequest_requestOf {i : Instr} {k : Nat} {l : List Byte} (hw : i.wf = true) (hc : i ≠ .censusRack 0)
    (h : requestOf i = some (k, l)) : parseRequest k l = .command i := by
  have hsmall : ∀ n, n < 256 → fits 1 n = true := fun n hn => decide_eq_true (by simpa using hn)
  cases i <;> cases h
  case censusRack rack =>
    have hrack : rack ≠ 0 := fun he => hc (he ▸ rfl)
    simp [parseRequest, field_be_only hw, hrack]
  all_goals
    simp only [Instr.wf, LSlot.wf, TimeField.wf, visitEndWf, Bool.and_eq_true] at hw
    simp [parseRequest, parseAmend, parseReadDiscrepancy, parseResolve, parseVisitEnd, fieldLSlot, fieldTime, beLSlot,
      beTimeField, visitEndPayload, amendPayload, field_be, field_be_only, field_be_append, hw, hsmall]

/-! ## Frames -/

theorem byteSum_append (l m : List Byte) : byteSum (l ++ m) = byteSum l + byteSum m := by
  induction l with
  | nil => simp [byteSum]
  | cons b l ih =>
    change b + byteSum (l ++ m) = b + byteSum l + byteSum m
    rw [ih, BitVec.add_assoc]

/-- The check byte makes up the sum. -/
theorem byteSum_frameOf (head : Byte) (l : List Byte) : byteSum (frameOf head l) = 0#8 := by
  unfold frameOf
  dsimp only
  rw [byteSum_append]
  generalize byteSum (head :: BitVec.ofNat 8 l.length :: l) = sum
  have hone : byteSum [-sum] = -sum := by simp [byteSum]
  rw [hone, BitVec.add_right_neg]

theorem length_frameOf (head : Byte) (l : List Byte) : (frameOf head l).length = l.length + 3 := by
  simp [frameOf]

theorem frameOf_eq (head : Byte) (l : List Byte) : ∃ c, frameOf head l =
    head :: BitVec.ofNat 8 l.length :: (l ++ [c]) := ⟨_, rfl⟩

/-- A frame of a short payload is complete. -/
theorem completeFrame?_frameOf (head : Byte) {l : List Byte} (h : l.length ≤ 124) :
    completeFrame? (frameOf head l) = some (frameOf head l) := by
  obtain ⟨c, hc⟩ := frameOf_eq head l
  have hlen : (BitVec.ofNat 8 l.length).toNat = l.length := by
    rw [BitVec.toNat_ofNat]
    omega
  rw [hc]
  unfold completeFrame?
  dsimp only
  rw [hlen, if_neg (by simp only [Config.payloadMax]; omega), if_pos (by simp), List.take_of_length_le (by simp)]

/-- A frame of a known kind and a right length is read by the row of its kind. -/
theorem judgeFrame_frameOf {k : Nat} {l : List Byte} {p : PortId} {lengths : List Nat}
    (hform : kindForm k = some (p, lengths)) (hl : lengths.contains l.length = true) (hlen : l.length ≤ 124)
    (hk : k < 256) : judgeFrame p (frameOf (BitVec.ofNat 8 k) l) = .inr (parseRequest k l) := by
  obtain ⟨c, hc⟩ := frameOf_eq (BitVec.ofNat 8 k) l
  have hn : (BitVec.ofNat 8 l.length).toNat = l.length := by
    rw [BitVec.toNat_ofNat]
    omega
  have hkind : (BitVec.ofNat 8 k).toNat = k := by
    rw [BitVec.toNat_ofNat]
    omega
  unfold judgeFrame
  dsimp only
  rw [byteSum_frameOf, hc]
  simp only [List.getD_cons_zero, List.getD_cons_succ, hn, hkind, hform, List.drop_succ_cons, List.drop_zero,
    List.take_left]
  rw [if_neg (by simp only [Config.payloadMax]; omega), if_neg (by simp), if_neg (by simp), if_pos hl]

/-- Settles O16: the payload of every request is read back, and its frame is complete, sums to nothing and is of a known
kind and a right length. -/
theorem requestFramesReadBack : Obligations.RequestFramesReadBack := by
  intro i p f hw hc hp hf
  obtain ⟨⟨k, l⟩, hr, rfl⟩ := Option.map_eq_some_iff.1 hf
  obtain ⟨q, lengths, hform, hl, hlen, hk⟩ := requestOf_form hr
  have hq : q = p := by
    unfold requestPort at hp
    rw [hr] at hp
    simpa [hform] using hp
  subst hq
  refine ⟨byteSum_frameOf _ _, ?_, ?_, completeFrame?_frameOf _ hlen, ?_⟩
  · rw [length_frameOf]
    exact Nat.le_add_left 3 _
  · rw [length_frameOf]
    exact Nat.add_le_add_right hlen 3
  · rw [judgeFrame_frameOf hform hl hlen hk, parseRequest_requestOf hw hc hr]

end Sys2Proof.Machine

/-! SUPPORT. The ports: writes to the request slot, the judging of frames, and reads; O17, O18 and O19. -/

namespace Sys2Proof.Machine

/-! ## The port slots -/

@[simp] theorem State.setPort_setPort (s : State) (p : PortId) (x y : PortState) :
    (s.setPort p x).setPort p y = s.setPort p y := by
  cases p <;> rfl

/-- A request that no read holds is taken from its slot. -/
theorem State.takeSlot_of_unheld {s : State} {p : PortId} (h : ∀ y, s.port.held = some y → y.port ≠ p) :
    s.takeSlot p = s.setPort p .idle ∧ s.heldAt p = none := by
  unfold State.takeSlot State.heldAt
  cases hh : s.port.held with
  | none =>
    refine ⟨?_, rfl⟩
    rw [Option.filter_none, ← hh]
  | some y =>
    have hy := h y hh
    rw [Option.filter_some, if_pos (by simpa using hy), Option.filter_some, if_neg (by simpa using hy), ← hh]
    exact ⟨rfl, rfl⟩

/-- A request that a read holds is taken with the read. -/
theorem State.takeSlot_of_held {s : State} {p : PortId} {n : Nat} (h : s.port.held = some ⟨p, n⟩) :
    s.takeSlot p = State.setPort { s with port := { s.port with held := none } } p .idle ∧
    s.heldAt p = some ⟨p, n⟩ := by
  unfold State.takeSlot State.heldAt
  rw [h, Option.filter_some, if_neg (by simp), Option.filter_some, if_pos (by simp)]
  exact ⟨rfl, rfl⟩

theorem State.not_processing_cases {s : State} {p : PortId} (h : (s.portState p).isProcessing = false) :
    s.portState p = .idle ∨ (∃ x, s.portState p = .receiving x) ∨ ∃ x, s.portState p = .ready x := by
  cases hs : s.portState p with
  | idle => exact .inl rfl
  | receiving x => exact .inr (.inl ⟨x, rfl⟩)
  | processing x =>
    rw [hs] at h
    cases h
  | ready x => exact .inr (.inr ⟨x, rfl⟩)

theorem State.reached?_eq_none {s : State} {a : Nat} (h : s.poller.lossRole = .offBus ∨ s.portAt? a = none) :
    s.reached? a = none := by
  unfold State.reached? State.offBus
  rcases h with h | h
  · rw [if_pos (decide_eq_true h)]
  · rw [h, ite_self]

theorem State.reached?_of_on_bus {s : State} {a : Nat} (h : s.poller.lossRole ≠ .offBus) :
    s.reached? a = s.portAt? a := by
  unfold State.reached? State.offBus
  rw [if_neg (by simpa using h)]

/-! ## Writes (R181) -/

theorem exec_writeTransaction {s : State} (ho : s.operating = true) {a : Nat} {p : PortId} (hp : s.reached? a = some p)
    (bytes : List Byte) : exec (.writeTransaction a bytes) s = .next (s.writeEnded p bytes) := by
  change Host.Outcome.next _ = _
  rw [if_pos ho, hp]

theorem State.writeEnded_of_processing {s : State} {p : PortId} (h : (s.portState p).isProcessing = true)
    (bytes : List Byte) : s.writeEnded p bytes = s.acks 0 := by
  unfold State.writeEnded
  cases hs : s.portState p with
  | processing x => rfl
  | idle => rw [hs] at h; cases h
  | receiving x => rw [hs] at h; cases h
  | ready x => rw [hs] at h; cases h

/-- A write without a complete frame to a port that is not PROCESSING is acknowledged. -/
theorem State.writeEnded_of_no_frame {s : State} {p : PortId} (h : (s.portState p).isProcessing = false)
    {bytes : List Byte} (hf : completeFrame? bytes = none) :
    s.writeEnded p bytes = s.acks (1 + ackedBytes bytes) := by
  unfold State.writeEnded
  rcases State.not_processing_cases h with hs | ⟨x, hs⟩ | ⟨x, hs⟩
  all_goals
    rw [hs]
    dsimp only
    rw [hf]

/-- A complete frame that reaches a port that is not PROCESSING is taken. -/
theorem State.writeEnded_of_frame {s : State} {p : PortId} (h : (s.portState p).isProcessing = false)
    {bytes f : List Byte} (hf : completeFrame? bytes = some f) :
    s.writeEnded p bytes = (s.acks (1 + ackedBytes bytes)).takeFrame p f := by
  unfold State.writeEnded
  rcases State.not_processing_cases h with hs | ⟨x, hs⟩ | ⟨x, hs⟩
  all_goals
    rw [hs]
    dsimp only
    rw [hf]

theorem State.takeFrame_inl {s : State} {p : PortId} {f : List Byte} {st : Status} (h : judgeFrame p f = .inl st) :
    s.takeFrame p f = (s.discardKept p).setPort p (.ready ⟨st, []⟩) := by
  unfold State.takeFrame
  rw [h]
  rfl

theorem State.takeFrame_inr {s : State} {p : PortId} {f : List Byte} {r : Request} (h : judgeFrame p f = .inr r) :
    s.takeFrame p f = (s.discardKept p).setPort p (.processing r) := by
  unfold State.takeFrame
  rw [h]

/-! ## Bytes acknowledged and frames complete -/

theorem ackedBytes_short {l : List Byte} (h : l.length < 2) : ackedBytes l = l.length ∧ completeFrame? l = none := by
  rcases l with _ | ⟨a, _ | ⟨b, l⟩⟩
  · exact ⟨rfl, rfl⟩
  · exact ⟨rfl, rfl⟩
  · simp at h

theorem ackedBytes_cons (kind len : Byte) (rest : List Byte) : ackedBytes (kind :: len :: rest) =
    min (rest.length + 2) (if 124 < len.toNat then 127 else len.toNat + 3) := rfl

theorem completeFrame?_cons (kind len : Byte) (rest : List Byte) : completeFrame? (kind :: len :: rest) =
    if 124 < len.toNat then some (kind :: len :: rest)
    else if len.toNat + 1 ≤ rest.length then some ((kind :: len :: rest).take (len.toNat + 3)) else none := rfl

/-! ## A command at a slot that holds a request -/

/-- A command is not served at a slot that holds another request. -/
theorem State.serve_of_other {s : State} {p : PortId} {c : Instr} {r : Request} (hs : s.portState p = .processing r)
    (hr : r ≠ .command c) (owner : State → State × Reply) : s.serve p c owner = s := by
  unfold State.serve
  split
  · rw [hs]
    exact if_neg hr
  · rfl

theorem State.serve_of_command {s : State} {p : PortId} {c : Instr} (ho : s.operating = true)
    (hs : s.portState p = .processing (.command c)) (owner : State → State × Reply) :
    s.serve p c owner = s.ownerTakes p owner := by
  unfold State.serve
  rw [if_pos ho, hs]
  exact if_pos rfl

/-- A request at its slot that no read holds is served as at a free port. -/
theorem State.serve_of_unheld {s : State} {p : PortId} {c : Instr} (ho : s.operating = true)
    (hs : s.portState p = .processing (.command c)) (hh : ∀ x, s.port.held = some x → x.port ≠ p)
    (hf : (s.setPort p .idle).free p = true) (owner : State → State × Reply) :
    s.serve p c owner = (s.setPort p .idle).serve p c owner := by
  obtain ⟨htake, hheld⟩ := State.takeSlot_of_unheld hh
  rw [State.serve_of_command ho hs, State.ownerTakes, htake, hheld, State.serve_of_free hf rfl]
  rfl

/-- Settles O17: a write is acknowledged and judged by the state of its port, and a command is served from its slot. -/
theorem writesReachTheRequestSlot : Obligations.WritesReachTheRequestSlot := by
  refine ⟨fun s a bytes ho => ⟨fun hn => ?unreached, fun p hr hp => ?reached⟩, fun bytes => ⟨ackedBytes_short,
    fun kind len rest hb => ?bytes⟩, fun s c r p hc ho hs => ⟨fun hr => ?other, fun hr hh hf => ?served⟩⟩
  case unreached =>
    change Host.Outcome.next _ = _
    rw [if_pos ho, State.reached?_eq_none hn]
    rfl
  case reached =>
    have hreached := (State.reached?_of_on_bus hr).trans hp
    refine ⟨fun hbusy => ?_, fun u hopen hu => ⟨fun hnone => ?_, fun f v hf hv => ?_⟩⟩
    · rw [exec_writeTransaction ho hreached, State.writeEnded_of_processing hbusy]
      rfl
    · rw [exec_writeTransaction ho hreached, State.writeEnded_of_no_frame hopen hnone, hu]
      rfl
    · have htaken : exec (.writeTransaction a bytes) s = .next (State.takeFrame u p f) := by
        rw [exec_writeTransaction ho hreached, State.writeEnded_of_frame hopen hf, hu]
        rfl
      have hkept : u.discardKept p = v := by
        rw [hv, hu]
        rfl
      refine ⟨fun st hst => ?_, fun r hj => ?_⟩
      · rw [htaken, State.takeFrame_inl hst, hkept]
      · rw [htaken, State.takeFrame_inr hj, hkept]
  case bytes =>
    subst hb
    rw [ackedBytes_cons, completeFrame?_cons, List.length_cons, List.length_cons]
    refine ⟨fun h => ?_, fun h => ?_, fun h h' => ?_, fun h h' => ?_⟩
    · rw [if_neg (Nat.not_lt.2 h)]
    · rw [if_pos h, if_pos h]
      exact ⟨rfl, rfl⟩
    · rw [if_neg (Nat.not_lt.2 h), if_pos (by omega)]
    · rw [if_neg (Nat.not_lt.2 h), if_neg (by omega)]
  case other =>
    obtain ⟨owner, howner⟩ := exec_of_request hc
    rw [howner, State.serve_of_other hs hr]
  case served =>
    obtain ⟨owner, howner⟩ := exec_of_request hc
    rw [howner, howner, State.serve_of_unheld ho (hr ▸ hs) hh hf]

/-! ## Frames (R182, R183) -/

/-- A field of one byte. -/
theorem field_one (l : List Byte) (o : Nat) : field l o 1 = (l.getD o 0#8).toNat := by
  rw [field, List.take_one, List.head?_drop, List.getD_eq_getElem?_getD]
  cases l[o]? with
  | none => rfl
  | some b => exact Nat.zero_add _

/-- The judgement of a frame, in the order of its tests. -/
theorem judgeFrame_cons (p : PortId) (kind len : Byte) (rest : List Byte) : judgeFrame p (kind :: len :: rest) =
    if 124 < len.toNat then .inl .badFrame
    else if byteSum (kind :: len :: rest) ≠ 0#8 then .inl .badFrame
    else match kindForm kind.toNat with
      | none => .inl .badKind
      | some (home, lengths) =>
        if home ≠ p then .inl .badKind
        else if lengths.contains len.toNat then .inr (parseRequest kind.toNat (rest.take len.toNat))
        else .inl .badFrame := rfl

theorem parseRequest_badAmend {l : List Byte}
    (h : ∀ e ∈ [(0, 4), (1, 5), (2, 8), (3, 8), (4, 5), (5, 5), (6, 6)], e ≠ ((l.getD 2 0#8).toNat, l.length)) :
    parseRequest 0x06 l = .badAmend (field l 0 2) := by
  have hno : ∀ a b : Nat, (a, b) ∈ [(0, 4), (1, 5), (2, 8), (3, 8), (4, 5), (5, 5), (6, 6)] →
      ¬(field l 2 1 = a ∧ l.length = b) := fun a b hm hab => h _ hm (by rw [← field_one, hab.1, hab.2])
  change parseAmend l = _
  unfold parseAmend
  dsimp only
  rw [if_neg (hno 0 4 (by decide)), if_neg (hno 1 5 (by decide)), if_neg (hno 2 8 (by decide)),
    if_neg (hno 3 8 (by decide)), if_neg (hno 4 5 (by decide)), if_neg (hno 5 5 (by decide)),
    if_neg (hno 6 6 (by decide))]

theorem parseRequest_badOutcome {l : List Byte} (h : 4 < (l.getD 2 0#8).toNat) :
    parseRequest 0x43 l = .badOutcome (l.getD 0 0#8).toNat := by
  rw [← field_one] at h
  change parseVisitEnd l = _
  unfold parseVisitEnd
  dsimp only
  rw [if_neg (by omega), if_neg (by omega), if_neg (by omega), if_neg (by omega), if_neg (by omega), field_one]

theorem parseRequest_badResolve {l : List Byte} (h : 2 < (l.getD 3 0#8).toNat) : parseRequest 0x20 l = .badForm := by
  rw [← field_one] at h
  change parseResolve l = _
  unfold parseResolve
  dsimp only
  rw [if_neg (by omega), if_neg (by omega), if_neg (by omega)]

theorem parseRequest_badReadDiscrepancy {l : List Byte} (hl : l.length = 2) (h : l.getD 0 0#8 ≠ 0xFF#8) :
    parseRequest 0x1F l = .badForm := by
  change parseReadDiscrepancy l = _
  unfold parseReadDiscrepancy
  rw [if_neg (by omega), if_neg fun he => ?_]
  rw [field_one] at he
  exact h (BitVec.eq_of_toNat_eq he)

theorem State.takeMalformed_of_bad {s : State} {p : PortId} {x : Request} {st : Status}
    (hs : s.portState p = .processing x) (hst : s.malformedStatus? x = some st)
    (hh : ∀ y, s.port.held = some y → y.port ≠ p) : s.takeMalformed p = s.setPort p (.ready ⟨st, []⟩) := by
  obtain ⟨htake, hheld⟩ := State.takeSlot_of_unheld hh
  unfold State.takeMalformed
  rw [hs]
  dsimp only
  rw [hst]
  dsimp only
  rw [State.ownerTakes, htake, hheld]
  exact State.setPort_setPort ..

/-- Settles O18: a frame is judged by its length, its sum, its kind, its port and its payload's length in that order,
and what no row spells is refused when its owner takes it. -/
theorem framesAreJudgedInOrder : Obligations.FramesAreJudgedInOrder := by
  refine ⟨fun p kind len rest => ?judged, fun l => ⟨fun _ => parseRequest_badAmend, fun _ => parseRequest_badOutcome,
    fun _ => parseRequest_badResolve, parseRequest_badReadDiscrepancy⟩, fun s h n => ?malformed, fun s p =>
    ⟨rfl, fun hp => ?unbusy, fun c hc => ?command, fun x st => State.takeMalformed_of_bad⟩⟩
  case judged =>
    rw [judgeFrame_cons]
    refine ⟨fun h => if_pos h, fun h hsum => ?_, fun h hsum hk => ?_, fun home lengths h hsum hk hhome => ?_,
      fun lengths h hsum hk => ?_⟩
    · rw [if_neg (Nat.not_lt.2 h), if_pos hsum]
    · rw [if_neg (Nat.not_lt.2 h), if_neg (not_not.2 hsum), hk]
    · rw [if_neg (Nat.not_lt.2 h), if_neg (not_not.2 hsum), hk]
      exact if_pos hhome
    · rw [if_neg (Nat.not_lt.2 h), if_neg (not_not.2 hsum), hk]
      dsimp only
      rw [if_neg (not_not.2 rfl)]
      exact ⟨fun hc => if_neg (by rw [hc]; exact Bool.false_ne_true), fun hc => if_pos hc⟩
  case malformed =>
    refine ⟨?_, ?_, rfl, fun _ => rfl⟩
    · cases hn : s.named? h <;> simp [State.malformedStatus?, hn]
    · cases hn : s.order? n <;> simp [State.malformedStatus?, hn]
  case unbusy =>
    unfold State.takeMalformed
    rcases State.not_processing_cases hp with hs | ⟨x, hs⟩ | ⟨x, hs⟩ <;> rw [hs]
  case command =>
    unfold State.takeMalformed
    rw [hc]
    rfl

/-! ## Reads (R184, R185) -/

theorem exec_replyRead {s : State} (ho : s.operating = true) (a : Nat) (k : Reader) :
    exec (.replyRead a k) s = .next ((s.strapped k.addr1 k.addr0).readAt a k.clocked) := by
  change Host.Outcome.next _ = _
  rw [if_pos ho]

theorem State.readAt_of_reached {s : State} {a : Nat} {p : PortId} (h : s.reached? a = some p) (n : Nat) :
    s.readAt a n = (s.acks 1).readBegun ⟨p, n⟩ := by
  unfold State.readAt
  rw [h]

/-- A reply read to its end leaves the slot idle, where it does not begin a start. -/
theorem State.sendReply_whole {s : State} {r : Reply} {p : PortId} {n : Nat} (hn : r.frame.length ≤ n)
    (hs : ¬(p = .registry ∧ s.port.restart = some true)) : s.sendReply r ⟨p, n⟩ =
      State.setPort { s with port := { s.port with sent := clockedBytes r.frame n } } p .idle := by
  unfold State.sendReply
  dsimp only
  rw [if_pos hn]
  exact if_neg hs

theorem clockedBytes_of_short {l : List Byte} {n : Nat} (h : n ≤ l.length) : clockedBytes l n = l.take n := by
  rw [clockedBytes, Nat.sub_eq_zero_of_le h, List.replicate_zero, List.append_nil]

/-- A reply that is not read to its end stays. -/
theorem State.sendReply_part {s : State} {r : Reply} {p : PortId} {n : Nat} (hn : n < r.frame.length) :
    s.sendReply r ⟨p, n⟩ =
      State.setPort { s with port := { s.port with sent := r.frame.take n } } p (.ready r) := by
  unfold State.sendReply
  dsimp only
  rw [if_neg (Nat.not_le.2 hn), clockedBytes_of_short (Nat.le_of_lt hn)]

/-- The reading of a port turns on its slot. -/
theorem State.readBegun_of_reply {s : State} {p : PortId} {r : Reply} (n : Nat)
    (h : s.portState p = .ready r ∨ s.portState p = .receiving (some r)) :
    s.readBegun ⟨p, n⟩ = s.sendReply r ⟨p, n⟩ := by
  unfold State.readBegun
  rcases h with h | h <;> rw [h]

/-- A read of a port that is PROCESSING waits. -/
theorem State.readBegun_of_processing {s : State} {p : PortId} {x : Request} (n : Nat)
    (h : s.portState p = .processing x) :
    s.readBegun ⟨p, n⟩ = { s with port := { s.port with held := some ⟨p, n⟩ } } := by
  unfold State.readBegun
  rw [h]

theorem exec_clockHoldTimeout {s : State} (ho : s.operating = true) :
    exec .clockHoldTimeout s = .next s.holdEnded := congrArg _ (if_pos ho)

theorem State.portState_acks (s : State) (n : Nat) (p : PortId) : (s.acks n).portState p = s.portState p := by
  cases p <;> rfl

theorem State.portState_strapped (s : State) (a b : Bool) (p : PortId) :
    (s.strapped a b).portState p = s.portState p := by
  cases p <;> rfl

/-- The state with the bytes sent on its last read. -/
def State.withSent (s : State) (l : List Byte) : State := { s with port := { s.port with sent := l } }

/-- Bytes sent are written beside the slots. -/
theorem State.setPort_withSent (s : State) (p : PortId) (x : PortState) (l : List Byte) :
    (s.withSent l).setPort p x = (s.setPort p x).withSent l := by
  cases p <;> rfl

/-- States that agree but for the slot of a port. -/
theorem State.setPort_congr {s t : State} {p : PortId} {x : PortState} (h : s.setPort p x = t.setPort p x)
    (y : PortState) (l : List Byte) : (s.withSent l).setPort p y = (t.withSent l).setPort p y := by
  have hy : s.setPort p y = t.setPort p y := by
    rw [← State.setPort_setPort s p x y, h, State.setPort_setPort]
  rw [State.setPort_withSent, State.setPort_withSent, hy]

/-- A request whose reply a read holds is answered on the held read. -/
theorem State.serve_of_held {s u t : State} {c : Instr} {p : PortId} {n : Nat} {r : Reply}
    (ho : s.operating = true) (hs : s.portState p = .processing (.command c)) (hh : s.port.held = some ⟨p, n⟩)
    (hu : u = State.setPort { s with port := { s.port with held := none } } p .idle) (hf : u.free p = true)
    {owner : State → State × Reply} (howner : ∀ s, exec c s = .next (s.serve p c owner)) (hr : u.Replies c p t r) :
    exec c s = .next ((owner u).1.sendReply r ⟨p, n⟩) ∧ (owner u).1.setPort p (.ready r) = t.setPort p (.ready r) := by
  obtain ⟨htake, hheld⟩ := State.takeSlot_of_held hh
  have hserved := Host.Outcome.next.inj ((howner u).symm.trans hr)
  rw [State.serve_of_free hf rfl] at hserved
  have hreply : (owner u).2 = r := by
    have hslot := congrArg (fun s : State => s.portState p) hserved
    simpa using hslot
  refine ⟨?_, hreply ▸ hserved⟩
  rw [howner, State.serve_of_command ho hs, State.ownerTakes, htake, hheld, ← hu, hreply]
  rfl

/-- Settles O19: a read is answered by the slot of its port, and a read that waits is answered by the owner. -/
theorem readsAreAnsweredByThePortState : Obligations.ReadsAreAnsweredByThePortState := by
  refine ⟨fun s u a k ho hu => ⟨fun hn => ?unreached, fun p hr hp => ?reached⟩,
    fun s u t c p n r hc ho hs hh hu hf hr hstart => ?held⟩
  case unreached =>
    have hnone : (s.strapped k.addr1 k.addr0).reached? a = none := State.reached?_eq_none (s := s) hn
    rw [exec_replyRead ho, State.readAt, hnone, hu]
    rfl
  case reached =>
    have hreached : (s.strapped k.addr1 k.addr0).reached? a = some p := (State.reached?_of_on_bus hr).trans hp
    have hport : ((s.strapped k.addr1 k.addr0).acks 1).portState p = s.portState p := by
      rw [State.portState_acks, State.portState_strapped]
    rw [exec_replyRead ho, State.readAt_of_reached hreached, hu]
    refine ⟨fun hidle => ?_, fun r hready => ⟨fun hlen hstart => ?_, fun hlen => ?_⟩, fun x hx => ⟨_, rfl, ?_, ?_⟩⟩
    · rw [← hport] at hidle
      unfold State.readBegun
      rcases hidle with h | h <;> rw [h] <;> rfl
    · rw [State.readBegun_of_reply _ (hport ▸ hready), State.sendReply_whole
        (s := (s.strapped k.addr1 k.addr0).acks 1) hlen hstart]
      rfl
    · rw [State.readBegun_of_reply _ (hport ▸ hready), State.sendReply_part hlen]
      rfl
    · rw [State.readBegun_of_processing _ (hport.trans hx)]
      rfl
    · rw [State.readBegun_of_processing _ (hport.trans hx)]
      exact exec_clockHoldTimeout ho
  case held =>
    obtain ⟨owner, howner⟩ := exec_of_request hc
    obtain ⟨hexec, hsame⟩ := State.serve_of_held ho hs hh hu hf howner hr
    have hrestart : (owner u).1.port.restart = t.port.restart := by
      have h := congrArg (fun s : State => s.port.restart) hsame
      cases p <;> exact h
    rw [hexec]
    refine ⟨fun hlen => ?_, fun hlen => ?_⟩
    · rw [State.sendReply_whole hlen (by rwa [hrestart])]
      exact congrArg _ (State.setPort_congr hsame _ _)
    · rw [State.sendReply_part hlen]
      exact congrArg _ (State.setPort_congr hsame _ _)

end Sys2Proof.Machine

/-! SUPPORT. Records amended, moved and removed; O25, O26 and O28. -/

namespace Sys2Proof.Machine

/-! ## Amendments of a field (R014, R015) -/

/-- A record written over a live one. -/
theorem State.recordBecomes_setRecord (s : State) (i : Nat) (r : WheelRecord) :
    RecordBecomes s (s.setRecord i r) i r :=
  RecordBecomes.of_reads (fun j => State.record?_setRecord s i j r) rfl rfl rfl

/-- An owner that amends the record its handle names. -/
theorem State.amend_replies {s : State} {c : Instr} {h i : Nat} {r r' : WheelRecord}
    {owner : State → Nat → WheelRecord → State × Reply}
    (hc : exec c s = s.host c fun s => s.withHandle h (owner s)) (hf : s.free .registry = true)
    (hn : s.named? h = some i) (hr : s.record? i = some r) (ho : owner s i r = s.amended i r') :
    ∃ t, s.Replies c .registry t ⟨.ok, []⟩ ∧ t = { s with registry := t.registry } ∧ RecordBecomes s t i r' :=
  ⟨s.setRecord i r', State.replies_of_named hc hf hn hr ho, rfl, s.recordBecomes_setRecord i r'⟩

theorem timeValue?_minute (m : Nat) : timeValue? ⟨1, m⟩ = some (.minute m) := rfl

theorem timeValue?_of_bad {f m : Nat} (h : 2 < f ∨ f ≠ 1 ∧ m ≠ 0) : timeValue? ⟨f, m⟩ = none := by
  unfold timeValue?
  dsimp only
  split
  · omega
  · split
    · rfl
    · rw [if_neg (by omega), if_neg (by omega)]

theorem State.withTime_none {s : State} {time : TimeField} (h : timeValue? time = none)
    (f : TimeValue → State × Reply) : s.withTime time f = s.refuse .badField := by
  unfold State.withTime
  rw [h]

theorem State.withTime_unsupplied {s : State} {time : TimeField} (h : timeValue? time = some .unsupplied)
    (f : TimeValue → State × Reply) : s.withTime time f = s.refuse .badField := by
  unfold State.withTime
  rw [h]

/-- A supplied time is used where the clock is set. -/
theorem State.withTime_supplied {s : State} {time : TimeField} {v : TimeValue} (h : timeValue? time = some v)
    (hv : v ≠ .unsupplied) (f : TimeValue → State × Reply) :
    s.withTime time f = if s.clock.isSet then f v else s.refuse .clockUnset := by
  unfold State.withTime
  rw [h]
  cases v with
  | unsupplied => exact absurd rfl hv
  | minute m => rfl
  | never => rfl

/-- Settles O25: each amendment writes its one field, and the time fields are judged by their form and the clock. -/
theorem amendWritesItsField : Obligations.AmendWritesItsField := by
  constructor
  · intro s h i r hf hn hr
    refine ⟨fun c hc => ?_, fun c hc => ?_, fun d => ?_, fun m hset => ?_, fun m hset => ?_, fun hset => ?_,
      fun w => ?_, fun w => ?_⟩
    · exact State.amend_replies rfl hf hn hr (if_pos (Nat.lt_succ_of_le hc))
    · exact State.replies_of_named rfl hf hn hr (if_neg (Nat.not_lt.2 hc))
    · exact State.amend_replies rfl hf hn hr rfl
    · exact State.amend_replies rfl hf hn hr
        ((State.withTime_supplied (timeValue?_minute m) TimeValue.noConfusion _).trans (if_pos hset))
    · exact State.amend_replies rfl hf hn hr
        ((State.withTime_supplied (timeValue?_minute m) TimeValue.noConfusion _).trans (if_pos hset))
    · exact State.amend_replies rfl hf hn hr
        ((State.withTime_supplied (v := .never) rfl TimeValue.noConfusion _).trans (if_pos hset))
    · exact State.amend_replies rfl hf hn hr rfl
    · exact State.amend_replies rfl hf hn hr rfl
  · intro s h i r hf hn hr
    have hunset : ∀ {time : TimeField} {v : TimeValue}, timeValue? time = some v → v ≠ .unsupplied →
        s.clock.isSet = false → ∀ f, s.withTime time f = s.refuse .clockUnset := fun hv hne hset f =>
      (State.withTime_supplied hv hne f).trans (if_neg (by rw [hset]; exact Bool.false_ne_true))
    refine ⟨?_, ?_, fun hset => ?_, fun m hset => ⟨?_, ?_⟩, fun hset => ⟨?_, ?_⟩, fun f m hbad => ⟨?_, ?_⟩⟩
    · exact State.replies_of_named rfl hf hn hr (State.withTime_unsupplied rfl _)
    · exact State.replies_of_named rfl hf hn hr (State.withTime_unsupplied rfl _)
    · exact State.replies_of_named rfl hf hn hr
        ((State.withTime_supplied (v := .never) rfl TimeValue.noConfusion _).trans (if_pos hset))
    · exact State.replies_of_named rfl hf hn hr (hunset (timeValue?_minute m) TimeValue.noConfusion hset _)
    · exact State.replies_of_named rfl hf hn hr (hunset (timeValue?_minute m) TimeValue.noConfusion hset _)
    · exact State.replies_of_named rfl hf hn hr (hunset (v := .never) rfl TimeValue.noConfusion hset _)
    · exact State.replies_of_named rfl hf hn hr (hunset (v := .never) rfl TimeValue.noConfusion hset _)
    · exact State.replies_of_named rfl hf hn hr (State.withTime_none (timeValue?_of_bad hbad) _)
    · exact State.replies_of_named rfl hf hn hr (State.withTime_none (timeValue?_of_bad hbad) _)

/-! ## The location (R016) -/

/-- A move changes its record, the occupants of two slots and the Candidate List. -/
theorem State.moveRecord_frame (s : State) (i : Nat) (p : Option Nat) : s.moveRecord i p = { s with
    registry := (s.moveRecord i p).registry, shelf := (s.moveRecord i p).shelf
    candidates := s.candidates.filter fun c => decide (handleIndex c.handle ≠ i) } := by
  apply State.ext <;> simp [State.moveRecord, State.dropCandidate]

/-- Settles O26: an accepted AMEND of the location is `moveRecord` and the release of two holds. -/
theorem amendLocationMovesTheWheel : Obligations.AmendLocationMovesTheWheel := by
  intro s h i r l hf hn hr
  refine ⟨fun hc => ?claimed, fun st hc hst => ?refused, fun hc hpass => ⟨((s.moveRecord i (s.place? l)).removeHold i
    .missing).removeHold i .blockedSlot, ?reply, ?frame, ?record, ?candidates, ?shelf, fun p => ?slots⟩⟩
  case claimed => exact State.replies_of_named rfl hf hn hr (if_pos hc)
  case refused =>
    refine State.replies_of_named rfl hf hn hr ((if_neg (not_not.2 hc)).trans ?_)
    rw [hst]
    rfl
  case reply =>
    refine State.replies_of_named rfl hf hn hr ((if_neg (not_not.2 hc)).trans ?_)
    rw [hpass]
    rfl
  case frame => apply State.ext <;> simp
  case record =>
    refine RecordBecomes.of_reads (fun j => ?_) (by simp) (by simp) (by simp)
    simp only [State.record?_removeHold, State.record?_moveRecord, hr, State.place?_eq]
    split
    · rfl
    · rfl
  case candidates =>
    simp only [State.removeHold_fields]
    rw [State.moveRecord_frame]
  case shelf => exact ShelfMap.eq_of_slots (by simp) (by simp)
  case slots =>
    simp only [State.removeHold_views, State.slot_moveRecord, State.place?_eq, hr, Option.bind_some]
    by_cases hl : l.rack = 0 <;> simp [hl]

/-! ## RETIRE and ERASE_REGISTRY (R018, R023) -/

/-- What a retired record leaves behind, table by table. -/
theorem State.retireRecord_views {s : State} {i : Nat} {r : WheelRecord} (hr : s.record? i = some r)
    (hi : handleIndex (s.handleOf i) = i) :
    (∀ j, (s.retireRecord i r).record? j = if j = i then none else s.record? j) ∧
    (∀ j, (s.retireRecord i r).generation j = if j = i then (s.generation i + 1) % 16 else s.generation j) ∧
    (∀ g, (s.retireRecord i r).registry.tagIndex.read? g =
      if g = r.tag then none else s.registry.tagIndex.read? g) ∧
    (s.retireRecord i r).registry.overdueCount =
      (if r.overdue = true then s.registry.overdueCount - 1 else s.registry.overdueCount) ∧
    ∀ k, (s.retireRecord i r).discrepancies.read? k =
      (s.discrepancies.read? k).map fun e => e.forget (s.handleOf i) := by
  have hlive : ∃ x, ((s.moveRecord i none).endRelocation (s.handleOf i)).record? i = some x ∧ x.overdue = r.overdue := by
    rw [State.record?_endRelocation, State.record?_moveRecord, if_pos rfl, hr]
    split <;> exact ⟨_, rfl, rfl⟩
  obtain ⟨x, hx, hover⟩ := hlive
  rw [State.retireRecord_eq]
  refine ⟨fun j => ?records, fun j => ?generations, fun g => ?tags, ?overdue, fun k => ?entries⟩
  case records =>
    refine (Table.read?_clear _ i j).trans ?_
    split
    · rfl
    · rename_i hj
      change (((s.moveRecord i none).endRelocation (s.handleOf i)).setOverdue i false).record? j = _
      rw [State.record?_setOverdue, if_neg hj, State.record?_endRelocation, State.record?_moveRecord, if_neg hj]
      split
      · rename_i hh
        exact absurd (hh.1.trans hi) hj
      · rfl
  case generations =>
    refine (Table.readD_writeD _ 0 _ i j).trans ?_
    split
    · rfl
    · change (((s.moveRecord i none).endRelocation (s.handleOf i)).setOverdue i false).generation j = _
      simp
  case tags =>
    refine (Table.read?_clear _ r.tag g).trans ?_
    simp
  case overdue =>
    refine (State.overdueCount_setOverdue hx false).trans ?_
    rw [hover]
    simp
  case entries =>
    rw [State.forgetRecord]
    dsimp only
    rw [Table.read?_mapValues]
    simp

/-- An overdue mark that is cleared latches nothing. -/
theorem State.attention_setOverdue_false (s : State) (i : Nat) : (s.setOverdue i false).attention = s.attention := by
  unfold State.setOverdue
  split
  · rfl
  · rename_i r hr
    cases r.overdue <;> rfl

theorem State.retire_replies {s : State} {h i : Nat} {r : WheelRecord} (hf : s.free .registry = true)
    (hn : s.named? h = some i) (hr : s.record? i = some r) (hc : r.claim = .none) :
    s.Replies (.retire h) .registry (s.retireRecord i r) ⟨.ok, []⟩ :=
  State.replies_of_named rfl hf hn hr (if_neg (not_not.2 hc))

theorem State.erase_slot {s : State} (h : s.tablesCanonical = true) (p : Nat) :
    s.erase.slot p = (s.slot p).erased :=
  Table.readD_mapD s.shelf.slots (fun _ => SlotRecord.cold) _ p (State.slots_ordered h) rfl

/-- Settles O28: RETIRE is `retireRecord`, table by table, and ERASE_REGISTRY is `erase`. -/
theorem retireAndEraseRemoveEveryTrace : Obligations.RetireAndEraseRemoveEveryTrace := by
  refine ⟨fun s h i r hf hn hr => ⟨fun hc => ?claimed, fun hc => ?retired⟩, fun s hf hT => ⟨fun hbusy => ?busy,
    fun hpaused hempty => ⟨s.erase, ?erased, rfl, fun p => s.erase_slot hT p⟩⟩⟩
  case claimed => exact State.replies_of_named rfl hf hn hr (if_pos hc)
  case retired =>
    have hh : s.handleOf i = h := State.handleOf_named hn
    have hi : handleIndex (s.handleOf i) = i := by
      obtain ⟨-, hidx⟩ := State.names_of_named hn hr
      rw [hh, hidx]
    obtain ⟨hrecords, hgenerations, htags, hover, hentries⟩ := State.retireRecord_views hr hi
    rw [hh] at hentries
    refine ⟨s.retireRecord i r, State.retire_replies hf hn hr hc, ?_, ?_, fun j hj => ?_, ?_, fun j hj => ?_, htags,
      hover, ?_, ?_, ShelfMap.eq_of_slots ?_ ?_, fun p => ?_, hentries⟩
    · apply State.ext <;> simp [State.retireRecord, State.attention_setOverdue_false]
    · rw [hrecords, if_pos rfl]
    · rw [hrecords, if_neg hj]
    · rw [hgenerations, if_pos rfl]
    · rw [hgenerations, if_neg hj]
    · rw [State.retireRecord_eq]
      simp [State.forgetRecord, State.moveRecord, State.dropCandidate]
    · rw [State.retireRecord_eq]
      simp [State.forgetRecord, hh]
    · rw [State.retireRecord_eq]
      simp [State.forgetRecord]
    · rw [State.retireRecord_eq]
      simp [State.forgetRecord]
    · rw [State.retireRecord_eq]
      change (((s.moveRecord i none).endRelocation (s.handleOf i)).setOverdue i false).slot p = _
      have hof : (s.moveRecord i none).relocationOf? h = s.relocationOf? h := by simp [State.relocationOf?]
      rw [hh]
      simp only [State.setOverdue_views, State.slot_endRelocation, hof, State.slot_moveRecord, hr, Option.bind_some]
      split <;> rfl
  case busy =>
    refine State.replies_of_owner rfl hf (if_neg ?_)
    rintro ⟨hpaused, hempty⟩
    rcases hbusy with h | h
    · rw [hpaused] at h
      cases h
    · exact h hempty
  case erased => exact State.replies_of_owner rfl hf (if_pos ⟨hpaused, hempty⟩)

end Sys2Proof.Machine

/-! SUPPORT. The map: racks stored, slots reported and returned to use; O29 and O30. -/

namespace Sys2Proof.Machine

/-! ## MAP_RACK (R034, R035) -/

theorem logicalField?_eq (n : Nat) : logicalField? n =
    if n = 255 then some none else if 1 ≤ n ∧ n ≤ 16 then some (some n) else none := rfl

theorem State.numberTaken_iff (s : State) (p n : Nat) : s.numberTaken p (some n) = true ↔
    ∃ q, q ≤ 15 ∧ q ≠ p ∧ (s.rackRecord q).logical = some n := by
  change ((List.range 16).any fun q => decide (q ≠ p) && decide ((s.rackRecord q).logical = some n)) = true ↔ _
  simp only [List.any_eq_true, List.mem_range, Bool.and_eq_true, decide_eq_true_eq]
  exact exists_congr fun q => and_congr_left fun _ => Nat.lt_succ_iff

/-- A rack record that unmaps a slot in use is refused. -/
theorem State.removesInUse_iff (s : State) (p : Nat) (new : RackRecord) : s.removesInUse p new = true ↔
    ∃ q, slotRack q = p ∧ s.onMap q = true ∧ new.maps q = false ∧ s.slotInUse q = true := by
  change ((List.range 256).any fun k => s.onMap (p * 256 + k) && !new.maps (p * 256 + k) &&
    s.slotInUse (p * 256 + k)) = true ↔ _
  simp only [List.any_eq_true, List.mem_range, Bool.and_eq_true, Bool.not_eq_true', and_assoc]
  constructor
  · rintro ⟨k, hk, h⟩
    exact ⟨p * 256 + k, by unfold slotRack; omega, h⟩
  · rintro ⟨q, hq, h⟩
    have hsplit : p * 256 + q % 256 = q := by
      unfold slotRack at hq
      omega
    exact ⟨q % 256, Nat.mod_lt _ (by decide), hsplit.symm ▸ h⟩

/-- The tests of a MAP_RACK whose number field is good, in their order. -/
theorem State.mapRack_replies {s : State} {p n c l : Nat} {m : Option Nat} (hf : s.free .registry = true)
    (hm : logicalField? n = some m) {x : State × Reply}
    (hx : (if 16 ≤ p ∨ c < 1 ∨ 32 < c ∨ l < 1 ∨ 8 < l then s.refuse .badField
      else if s.numberTaken p m = true then s.refuse .duplicate
      else if s.removesInUse p ⟨m, c, l⟩ = true then s.refuse .rackInUse
      else (s.mapRack p ⟨m, c, l⟩, Reply.ok (encodeRack ⟨m, c, l⟩))) = x) :
    s.Replies (.mapRack p n c l) .registry x.1 x.2 := by
  refine State.replies_of_owner rfl hf ?_
  rw [hm]
  exact hx

theorem State.mapRack_refused_of_number {s : State} {p n c l : Nat} (hf : s.free .registry = true)
    (hm : logicalField? n = none) : s.Replies (.mapRack p n c l) .registry s ⟨.badField, []⟩ := by
  refine State.replies_of_owner rfl hf ?_
  rw [hm]
  rfl

/-- Settles O29: MAP_RACK is refused by its fields, its number and the slots in use in that order, or stores its
record. -/
theorem mapRackStoresTheRack : Obligations.MapRackStoresTheRack := by
  have hpass : ∀ {p c l : Nat}, p ≤ 15 → 1 ≤ c → c ≤ 32 → 1 ≤ l → l ≤ 8 →
      ¬(16 ≤ p ∨ c < 1 ∨ 32 < c ∨ l < 1 ∨ 8 < l) := by omega
  refine ⟨fun s p n c l hf => ⟨fun hbad => ?fields, fun hp hn hn' hc hc' hl hl' htaken => ?number,
    fun m q hp hm hc hc' hl hl' hfree hq hon hoff huse => ?use⟩,
    fun s p n c l m hf hT hp hm hc hc' hl hl' hfree huse => ⟨s.mapRack p ⟨m, c, l⟩, ?stored, rfl, rfl,
    ?rack, fun q hq => ?others, fun q => ?slots⟩⟩
  case fields =>
    cases hm : logicalField? n with
    | none => exact State.mapRack_refused_of_number hf hm
    | some m =>
      refine State.mapRack_replies hf hm (x := (s, ⟨.badField, []⟩)) (if_pos ?_)
      rw [logicalField?_eq] at hm
      split at hm
      · omega
      · split at hm
        · omega
        · cases hm
  case number =>
    have hm : logicalField? n = some (some n) := by
      rw [logicalField?_eq, if_neg (by omega), if_pos ⟨hn, hn'⟩]
    refine State.mapRack_replies hf hm (x := (s, ⟨.duplicate, []⟩)) ?_
    rw [if_neg (hpass hp hc hc' hl hl'), if_pos ((s.numberTaken_iff p n).2 htaken)]
    rfl
  case use =>
    refine State.mapRack_replies hf hm (x := (s, ⟨.rackInUse, []⟩)) ?_
    rw [if_neg (hpass hp hc hc' hl hl'), if_neg (by rw [hfree]; exact Bool.false_ne_true),
      if_pos ((s.removesInUse_iff p _).2 ⟨q, hq, hon, hoff, huse⟩)]
    rfl
  case stored =>
    refine State.mapRack_replies hf hm (x := (_, ⟨.ok, _⟩)) ?_
    rw [if_neg (hpass hp hc hc' hl hl'), if_neg (by rw [hfree]; exact Bool.false_ne_true), if_neg fun hin => ?_]
    · rfl
    · obtain ⟨q, hq, hon, hoff, hused⟩ := (s.removesInUse_iff p _).1 hin
      rw [huse q hq hon hoff] at hused
      cases hused
  case rack => rw [State.rackRecord_mapRack, if_pos rfl]
  case others => rw [State.rackRecord_mapRack, if_neg hq]
  case slots =>
    rw [State.slot_mapRack hT]
    simp only [RackRecord.holds, Bool.and_eq_false_iff, decide_eq_false_iff_not, not_and_or, SlotRecord.left]

/-! ## Slots reported (R036, R042) -/

/-- A number names one rack of a legal map. -/
theorem State.rackNumbered?_eq_some {s : State} (h : s.settingsLegal) {n p : Nat} : s.rackNumbered? n = some p ↔
    p < 16 ∧ (s.rackRecord p).logical = some n := by
  obtain ⟨-, -, -, -, -, -, hunique, -⟩ := h
  constructor
  · intro hp
    exact ⟨List.mem_range.1 (List.mem_of_find?_eq_some hp), of_decide_eq_true (List.find?_some hp :)⟩
  · rintro ⟨hp, hn⟩
    cases hq : s.rackNumbered? n with
    | none => exact absurd hn (by simpa using List.find?_eq_none.1 hq p (List.mem_range.2 hp))
    | some q =>
      have hq16 : q < 16 := List.mem_range.1 (List.mem_of_find?_eq_some hq)
      have hqn : (s.rackRecord q).logical = some n := of_decide_eq_true (List.find?_some hq :)
      rw [hunique q p n hq16 hp hqn hn]

theorem State.physical?_eq_some {s : State} {l : LSlot} {p : Nat} : s.physical? l = some p ↔
    ∃ q, s.rackNumbered? l.rack = some q ∧ l.column < (s.rackRecord q).columns ∧ l.level < (s.rackRecord q).levels ∧
      p = slotAt q l.column l.level := by
  unfold State.physical?
  cases hq : s.rackNumbered? l.rack with
  | none => simp
  | some q =>
    by_cases hin : l.column < (s.rackRecord q).columns ∧ l.level < (s.rackRecord q).levels
    · simp [hin, eq_comm]
    · simp only [hin, if_false, reduceCtorEq, Option.some.injEq, exists_eq_left', false_iff]
      exact fun h => hin ⟨h.1, h.2.1⟩

/-- The rack, column and level of a slot of a map of legal size. -/
theorem slotAt_coordinates {q c l : Nat} (hc : c < 32) (hl : l < 8) :
    slotRack (slotAt q c l) = q ∧ slotColumn (slotAt q c l) = c ∧ slotLevel (slotAt q c l) = l := by
  unfold slotRack slotColumn slotLevel slotAt
  omega

theorem slotAt_of_coordinates (p : Nat) : slotAt (slotRack p) (slotColumn p) (slotLevel p) = p := by
  unfold slotRack slotColumn slotLevel slotAt
  omega

/-- A logical slot and the physical one it names. -/
theorem State.logical_of_physical {s : State} (h : s.settingsLegal) {l : LSlot} {p : Nat}
    (hp : s.physical? l = some p) :
    s.logical p = l ∧ s.onMap p = true ∧ p < 4096 ∧ slotColumn p = l.column ∧ slotLevel p = l.level := by
  obtain ⟨q, hq, hcol, hlev, rfl⟩ := State.physical?_eq_some.1 hp
  obtain ⟨hq16, hn⟩ := (State.rackNumbered?_eq_some h).1 hq
  obtain ⟨-, -, -, -, -, hsizes, -⟩ := h
  obtain ⟨-, hc32, -, hl8, -⟩ := hsizes q hq16
  obtain ⟨h1, h2, h3⟩ := slotAt_coordinates (q := q) (hcol.trans_le hc32) (hlev.trans_le hl8)
  refine ⟨?_, ?_, ?_, h2, h3⟩
  · rw [State.logical, h1, h2, h3, hn]
    rfl
  · rw [State.onMap, RackRecord.maps, RackRecord.holds, h1, h2, h3, hn]
    simp [hcol, hlev]
  · unfold slotAt
    omega

/-- A slot on the map is named by its logical slot. -/
theorem State.physical_of_logical {s : State} (h : s.settingsLegal) {p : Nat} (hp : p < 4096)
    (hon : s.onMap p = true) : s.physical? (s.logical p) = some p ∧
      (s.rackRecord (slotRack p)).logical = some (s.logical p).rack ∧ 1 ≤ (s.logical p).rack ∧
      (s.logical p).rack ≤ 16 := by
  have hrack : slotRack p < 16 := by
    unfold slotRack
    omega
  simp only [State.onMap, RackRecord.maps, RackRecord.holds, Bool.and_eq_true, decide_eq_true_eq] at hon
  obtain ⟨hsome, hcol, hlev⟩ := hon
  obtain ⟨n, hn⟩ := Option.isSome_iff_exists.1 hsome
  have hlog : (s.logical p).rack = n := by rw [State.logical, hn]; rfl
  have hnumber := (State.rackNumbered?_eq_some h).2 ⟨hrack, hn⟩
  obtain ⟨-, -, -, -, -, hsizes, -⟩ := h
  obtain ⟨-, -, -, -, hrange⟩ := hsizes _ hrack
  rw [hlog]
  refine ⟨State.physical?_eq_some.2 ⟨slotRack p, hlog.symm ▸ hnumber, hcol, hlev, ?_⟩, hn, hrange n hn⟩
  exact (slotAt_of_coordinates p).symm

/-- The answer of a request for a slot turns on what its field names. -/
theorem State.withSlot_of_physical {s : State} {l : LSlot} {p : Nat} (hl : l.rack ≠ 0) (hp : s.physical? l = some p)
    (f : Nat → State × Reply) : s.withSlot l f = f p := by
  unfold State.withSlot
  rw [if_neg (by simpa [isNone] using hl), hp]

theorem State.withSlot_of_none {s : State} {l : LSlot} (hl : l.rack = 0) (f : Nat → State × Reply) :
    s.withSlot l f = s.refuse .badField := by
  unfold State.withSlot
  rw [if_pos ((isNone_iff l).2 hl)]

theorem State.withSlot_of_off_map {s : State} {l : LSlot} (hl : l.rack ≠ 0) (hp : s.physical? l = none)
    (f : Nat → State × Reply) : s.withSlot l f = s.refuse .slotUnusable := by
  unfold State.withSlot
  rw [if_neg (by simpa [isNone] using hl), hp]

/-! ## UNBLOCK (R038) -/

/-- A slot returned to use: its condition and its count, and the hold of the wheel in it. -/
theorem State.unblockSlot_effect (s : State) (p : Nat) :
    s.unblockSlot p = { s with registry := (s.unblockSlot p).registry, shelf := (s.unblockSlot p).shelf } ∧
    SlotBecomes s (s.unblockSlot p) p { s.slot p with condition := .opened, count := 0 } ∧
    ((s.slot p).occupant = none → (s.unblockSlot p).registry = s.registry) ∧
    ∀ i r, (s.slot p).occupant = some i → s.record? i = some r →
      RecordBecomes s (s.unblockSlot p) i { r with holds := { r.holds with blockedSlot := false } } := by
  unfold State.unblockSlot
  dsimp only
  split
  · rename_i hempty
    refine ⟨by apply State.ext <;> simp, ⟨by simp, fun q hq => by simp [hq], ShelfMap.eq_of_slots (by simp) (by simp)⟩,
      fun _ => by simp, fun i r hi => absurd (hempty.symm.trans hi) nofun⟩
  · rename_i j hj
    refine ⟨by apply State.ext <;> simp, ⟨by simp, fun q hq => by simp [hq], ShelfMap.eq_of_slots (by simp) (by simp)⟩,
      fun hn => absurd (hn.symm.trans hj) nofun, fun i r hi hr => ?_⟩
    obtain rfl := Option.some.inj (hi.symm.trans hj)
    exact State.recordBecomes_removeHold (s := s.updSlot p fun v => { v with condition := .opened, count := 0 }) hr _

/-- Settles O30: the readers answer what the map holds, UNBLOCK is `unblockSlot`, and on a legal map logical and
physical slots name each other. -/
theorem slotsAreReportedAndReturned : Obligations.SlotsAreReportedAndReturned := by
  refine ⟨fun s l p hf => ⟨fun hl => ?noneGiven, fun hl hp => ?offMap, fun hl hp => ⟨s.unblockSlot p, ?unblocked,
    s.unblockSlot_effect p⟩⟩, fun s hf => ⟨fun p hp => ?rack, fun p hp => ?noRack, fun l hl => ?noSlot,
    fun l hl hp => ?noPlace, fun l p hl hp => ?slot, fun n hn => ?window, fun n hn => ?noWindow⟩,
    fun s l p h hp => State.logical_of_physical h hp, fun s p h hp hon => State.physical_of_logical h hp hon⟩
  case noneGiven => exact State.replies_of_owner rfl hf (State.withSlot_of_none hl _)
  case offMap => exact State.replies_of_owner rfl hf (State.withSlot_of_off_map hl hp _)
  case unblocked => exact State.replies_of_owner rfl hf (State.withSlot_of_physical hl hp _)
  case rack => exact State.replies_of_owner rfl hf (if_pos (Nat.lt_succ_of_le hp))
  case noRack => exact State.replies_of_owner rfl hf (if_neg (Nat.not_lt.2 hp))
  case noSlot => exact State.replies_of_owner rfl hf (State.withSlot_of_none hl _)
  case noPlace => exact State.replies_of_owner rfl hf (State.withSlot_of_off_map hl hp _)
  case slot => exact State.replies_of_owner rfl hf (State.withSlot_of_physical hl hp _)
  case window => exact State.replies_of_owner rfl hf (if_pos (Nat.lt_succ_of_le hn))
  case noWindow => exact State.replies_of_owner rfl hf (if_neg (Nat.not_lt.2 hn))

end Sys2Proof.Machine

/-! SUPPORT. The computation of intervals, lateness and scores, and the sweep; O33, O34 and O35. -/

namespace Sys2Proof.Machine

/-! ## Intervals and lateness (R049 to R056) -/

theorem lateness_range (now last interval : Nat) :
    -10080 ≤ lateness now last interval ∧ lateness now last interval ≤ 10080 := by
  unfold lateness
  omega

theorem ageDays_eq (now day : Nat) : ageDays now day = if day ≤ now / 1440 then now / 1440 - day else 0 := by
  unfold ageDays
  split
  · rfl
  · omega

theorem ClassRecord.turnMultiplier_eq (c : ClassRecord) (band : Option Band) : c.turnMultiplier band =
    if band = some .low then c.turnLow else if band = some .high then c.turnHigh else 100 := by
  rcases band with _ | ⟨⟨⟩⟩ <;> rfl

theorem ClassRecord.brushMultiplier_eq (c : ClassRecord) (band : Option Band) : c.brushMultiplier band =
    if band = some .high then c.brushHigh else 100 := by
  rcases band with _ | ⟨⟨⟩⟩ <;> rfl

theorem ClassRecord.turnInterval_range (c : ClassRecord) (age : Nat) (band : Option Band) :
    60 ≤ c.turnInterval age band ∧ c.turnInterval age band ≤ 20160 := by
  unfold ClassRecord.turnInterval clampInterval clampTo
  omega

theorem ClassRecord.brushInterval_eq (c : ClassRecord) (band : Option Band) : c.brushInterval band =
    if c.brushBase = 0 then none else some (max 60 (min 20160
      (c.brushBase * (if band = some .high then c.brushHigh else 100) / 100))) := by
  rw [← c.brushMultiplier_eq]
  rfl

theorem State.brushLateness_range (s : State) (r : WheelRecord) (p : Nat) {x : Int}
    (h : s.brushLateness r p = some x) : -10080 ≤ x ∧ x ≤ 10080 := by
  obtain ⟨n, -, rfl⟩ := Option.map_eq_some_iff.1 h
  exact lateness_range _ _ n

/-- The largest lateness of any set of actions lies within the same bounds. -/
theorem State.largestLateness_range (s : State) (r : WheelRecord) (p : Nat) (a : ActionSet) :
    -10080 ≤ s.largestLateness r p a ∧ s.largestLateness r p a ≤ 10080 := by
  obtain ⟨hturn, hturn'⟩ := lateness_range s.clock.minutes (r.turnedAt s.clock.minutes)
    ((s.classRecord r.cls).turnInterval (ageDays s.clock.minutes r.makeDay) (s.bandInput p))
  change -10080 ≤ s.turnLateness r p at hturn
  change s.turnLateness r p ≤ 10080 at hturn'
  have hbrush : -10080 ≤ (s.brushLateness r p).getD (-10080) ∧ (s.brushLateness r p).getD (-10080) ≤ 10080 := by
    cases hb : s.brushLateness r p with
    | none => exact ⟨by decide, by decide⟩
    | some x => exact s.brushLateness_range r p hb
  unfold State.largestLateness
  split
  · omega
  · split
    · exact ⟨hturn, hturn'⟩
    · exact hbrush

/-- The score of a class and a bonus in range. -/
theorem State.score_range {s : State} (h : s.settingsLegal) (r : WheelRecord) (p : Nat) (a : ActionSet) :
    -80640 ≤ s.score r p a ∧ s.score r p a ≤ 84735 := by
  obtain ⟨hclass, hdispatch, -⟩ := h
  have hweight : 1 ≤ (s.classRecord r.cls).weight ∧ (s.classRecord r.cls).weight ≤ 8 := by
    rw [← hclass r.cls]
    simp only [ClassRecord.clamped, clampTo]
    omega
  have hbonus : s.dispatcher.settings.aisleBonus ≤ 4095 := by
    rw [← hdispatch]
    simp only [DispatchSettings.clamped, clampTo]
    omega
  obtain ⟨hlow, hhigh⟩ := s.largestLateness_range r p a
  obtain ⟨hw1, hw8⟩ := hweight
  have hproduct : -80640 ≤ ((s.classRecord r.cls).weight : Int) * s.largestLateness r p a ∧
      ((s.classRecord r.cls).weight : Int) * s.largestLateness r p a ≤ 80640 := by
    constructor <;> nlinarith
  unfold State.score
  split <;> omega

/-- Settles O33: the intervals, the lateness and the score, stage by stage, and their ranges. -/
theorem intervalsAndScoresStayInRange : Obligations.IntervalsAndScoresStayInRange := by
  refine ⟨fun c now day age band => ⟨ageDays_eq now day, rfl, c.turnMultiplier_eq band, rfl, c.brushInterval_eq band,
    c.turnInterval_range age band⟩, fun s r p c band hc hband => ?stages, fun s r p a h => ?ranges⟩
  case stages =>
    subst hc hband
    refine ⟨rfl, fun hbase => ?_, fun n hn => ?_, fun a l b hb => ⟨fun ht hbr => ?_, fun hl => ⟨fun ht hbr => ?_,
      fun ht hbr => ?_⟩⟩⟩
    · rw [State.brushLateness, ClassRecord.brushInterval, if_pos hbase]
      rfl
    · have hn' : (s.classRecord r.cls).brushInterval (s.bandInput p) = some n := hn
      rw [State.brushLateness, hn']
      rfl
    · rw [hb, State.score, State.largestLateness]
      simp [ht, hbr]
    · rw [hb, State.score, State.largestLateness]
      simp [ht, hbr, hl]
    · rw [hb, State.score, State.largestLateness]
      simp [ht, hbr, hl]
  case ranges =>
    obtain ⟨hlow, hhigh⟩ := lateness_range s.clock.minutes (r.turnedAt s.clock.minutes)
      ((s.classRecord r.cls).turnInterval (ageDays s.clock.minutes r.makeDay) (s.bandInput p))
    exact ⟨hlow, hhigh, fun x hx => s.brushLateness_range r p hx, s.score_range h r p a⟩

/-! ## The result of a computation (R055, R057, R058) -/

theorem State.eligible_brush_iff (s : State) (r : WheelRecord) (p : Nat) : (s.eligible r p).brush = true ↔
    (s.classRecord r.cls).brushBase ≠ 0 ∧
    (∃ x, s.brushLateness r p = some x ∧ -((s.classRecord r.cls).brushLead : Int) ≤ x) ∧
    s.brushSuspended (s.zoneOf p) = false := by
  have hbase : ∀ x, s.brushLateness r p = some x → (s.classRecord r.cls).brushBase ≠ 0 := by
    intro x hx hz
    rw [State.brushLateness, ClassRecord.brushInterval, if_pos hz] at hx
    cases hx
  unfold State.eligible
  dsimp only
  cases hl : s.brushLateness r p with
  | none => simp
  | some x => simp [hbase x hl]

theorem ActionSet.isEmpty_eligible (s : State) (r : WheelRecord) (p : Nat) : (s.eligible r p).isEmpty = false ↔
    (s.eligible r p).turn = true ∨ (s.eligible r p).brush = true := by
  have hscan : (s.eligible r p).scan = false ∧ (s.eligible r p).move = false := ⟨rfl, rfl⟩
  simp only [ActionSet.isEmpty, hscan]
  cases (s.eligible r p).turn <;> simp

theorem State.interval_of_location {s : State} {i : Nat} {r : WheelRecord} {p : Nat} (hset : s.clock.isSet = true)
    (hp : r.location = some p) : s.interval i r = some {
      candidate := if s.dispatchable i r && !(s.eligible r p).isEmpty
        then some ⟨s.handleOf i, s.eligible r p, s.score r p (s.eligible r p), slotAisle p⟩ else none
      overdue := s.overdueNow i r p } := by
  unfold State.interval
  rw [if_pos hset, hp]

/-- With the clock set every record has a result. -/
theorem State.interval_of_set {s : State} (hset : s.clock.isSet = true) (i : Nat) (r : WheelRecord) :
    ∃ v, s.interval i r = some v := by
  unfold State.interval
  rw [if_pos hset]
  split <;> exact ⟨_, rfl⟩

/-- Settles O34: a record is eligible by its lateness and its leads, and its result is a candidate where it can be
dispatched for some of them. -/
theorem theComputationAnswersOneResult : Obligations.TheComputationAnswersOneResult := by
  refine ⟨fun s r p => ⟨decide_eq_true_iff, s.eligible_brush_iff r p, rfl, rfl⟩, fun s i r => ⟨fun hset => ?unset,
    fun hset hl => ?unlocated, fun p v hset hp hv => ?located⟩⟩
  case unset => exact if_neg (by rw [hset]; exact Bool.false_ne_true)
  case unlocated =>
    unfold State.interval
    rw [if_pos hset, hl]
  case located =>
    refine ⟨fun c hc => ?_, fun hc => ?_, ?_⟩
    · obtain ⟨hd, hh⟩ := State.interval_candidate hv hc
      obtain ⟨q, hq, rfl, hwork⟩ := State.interval_candidate_fields hv hc
      obtain rfl := Option.some.inj (hp.symm.trans hq)
      exact ⟨hd, rfl, rfl, (ActionSet.isEmpty_eligible s r p).1 hwork, rfl, rfl⟩
    · rw [State.interval_of_location hset hp] at hv
      rw [← Option.some.inj hv] at hc
      dsimp only at hc
      split at hc
      · cases hc
      · rename_i hno
        cases hd : s.dispatchable i r with
        | false => exact .inl rfl
        | true =>
          refine .inr ?_
          simpa [ActionSet.isEmpty, hd, State.eligible] using hno
    · rw [State.interval_of_location hset hp] at hv
      rw [← Option.some.inj hv]
      simp only [State.overdueNow, Bool.and_eq_true, Bool.or_eq_true, decide_eq_true_eq]

/-! ## The sweep (R061 to R065) -/

/-- A sweep visit of a live record, by the result of its computation. -/
theorem State.sweepVisit_of_candidate {s : State} {i : Nat} {r : WheelRecord} {v : IntervalResult} {c : Candidate}
    (hr : s.record? i = some r)
    (hv : (s.setRecord i (r.clampTimes s.clock.minutes)).interval i (r.clampTimes s.clock.minutes) = some v)
    (hc : v.candidate = some c) : s.sweepVisit i =
      ((s.setRecord i (r.clampTimes s.clock.minutes)).setOverdue i v.overdue).offer c := by
  unfold State.sweepVisit
  rw [hr]
  dsimp only
  rw [hv]
  dsimp only
  rw [hc]

theorem State.sweepVisit_of_no_candidate {s : State} {i : Nat} {r : WheelRecord} {v : IntervalResult}
    (hr : s.record? i = some r)
    (hv : (s.setRecord i (r.clampTimes s.clock.minutes)).interval i (r.clampTimes s.clock.minutes) = some v)
    (hc : v.candidate = none) : s.sweepVisit i =
      ((s.setRecord i (r.clampTimes s.clock.minutes)).setOverdue i v.overdue).dropCandidate i := by
  unfold State.sweepVisit
  rw [hr]
  dsimp only
  rw [hv]
  dsimp only
  rw [hc]

/-- A sweep visit ends in the judged state, but for the Candidate List. -/
theorem State.sweepVisit_eq {s : State} {i : Nat} {r : WheelRecord} {v : IntervalResult} (hr : s.record? i = some r)
    (hv : (s.setRecord i (r.clampTimes s.clock.minutes)).interval i (r.clampTimes s.clock.minutes) = some v) :
    s.sweepVisit i = { (s.setRecord i (r.clampTimes s.clock.minutes)).setOverdue i v.overdue with
      candidates := (s.sweepVisit i).candidates } := by
  cases hc : v.candidate with
  | none =>
    rw [State.sweepVisit_of_no_candidate hr hv hc]
    rfl
  | some c =>
    rw [State.sweepVisit_of_candidate hr hv hc]
    rfl

/-- A visit of an index that is free, or while the clock is unset, changes nothing. -/
theorem State.sweepVisit_of_free {s : State} {i : Nat} (h : s.record? i = none) : s.sweepVisit i = s := by
  unfold State.sweepVisit
  rw [h]

theorem State.sweepVisit_of_unset {s : State} (h : s.clock.isSet = false) (i : Nat) : s.sweepVisit i = s := by
  have hnone : ∀ (u : State) (r : WheelRecord), u.clock = s.clock → u.interval i r = none := fun u r hu =>
    if_neg (by rw [hu, h]; exact Bool.false_ne_true)
  unfold State.sweepVisit
  split
  · rfl
  · dsimp only
    rw [hnone _ _ (by simp)]

/-- What a sweep visit can do to a record. -/
structure SweptRecord (r t : WheelRecord) : Prop where
  eq : t = { r with lastTurn := t.lastTurn, lastBrush := t.lastBrush, overdue := t.overdue }

theorem SweptRecord.refl (r : WheelRecord) : SweptRecord r r := ⟨rfl⟩

theorem SweptRecord.trans {a b c : WheelRecord} (h : SweptRecord a b) (k : SweptRecord b c) : SweptRecord a c := by
  refine ⟨k.eq.trans ?_⟩
  rw [h.eq]

theorem State.record?_sweepVisit (s : State) (i j : Nat) :
    (s.record? j = none → (s.sweepVisit i).record? j = none) ∧
    (j ≠ i → (s.sweepVisit i).record? j = s.record? j) ∧
    ∀ r, s.record? j = some r → ∃ t, (s.sweepVisit i).record? j = some t ∧ SweptRecord r t := by
  cases hset : s.clock.isSet with
  | false =>
    rw [State.sweepVisit_of_unset hset]
    exact ⟨id, fun _ => rfl, fun r hr => ⟨r, hr, .refl r⟩⟩
  | true =>
    cases hi : s.record? i with
    | none =>
      rw [State.sweepVisit_of_free hi]
      exact ⟨id, fun _ => rfl, fun r hr => ⟨r, hr, .refl r⟩⟩
    | some x =>
      obtain ⟨v, hv⟩ := State.interval_of_set (s := s.setRecord i (x.clampTimes s.clock.minutes)) (by simpa using hset) i
        (x.clampTimes s.clock.minutes)
      have hrec : ∀ j, (s.sweepVisit i).record? j =
          if j = i then some { x.clampTimes s.clock.minutes with overdue := v.overdue } else s.record? j := by
        intro j
        rw [State.sweepVisit_eq hi hv]
        change ((s.setRecord i (x.clampTimes s.clock.minutes)).setOverdue i v.overdue).record? j = _
        rw [State.record?_setOverdue, State.record?_setRecord, State.record?_setRecord, if_pos rfl]
        split <;> rfl
      rw [hrec]
      split
      · rename_i hj
        rw [hj, hi]
        exact ⟨nofun, fun h => absurd rfl h, fun r hr => ⟨_, rfl, by rw [← Option.some.inj hr]; exact ⟨rfl⟩⟩⟩
      · exact ⟨id, fun _ => rfl, fun r hr => ⟨r, hr, .refl r⟩⟩

/-- The visits of a step, from its first cursor. -/
def State.swept (s : State) (n : Nat) : State := (List.range n).foldl (fun u k => u.sweepVisit (s.sweep.cursor + k)) s

theorem State.swept_succ (s : State) (n : Nat) : s.swept (n + 1) = (s.swept n).sweepVisit (s.sweep.cursor + n) := by
  unfold State.swept
  rw [List.range_succ, List.foldl_append]
  rfl

/-- The visits leave the cursor where it is. -/
theorem State.sweepStep_eq (s : State) : s.sweepStep =
    { s.swept 16 with sweep := ⟨(s.sweep.cursor + 16) % 4096, s.sweep.turnerAisle⟩ } := by
  have hfold : ∀ (l : List Nat) (u : State), u.sweep = s.sweep →
      l.foldl (fun u k => u.sweepVisit (u.sweep.cursor + k)) u =
        l.foldl (fun u k => u.sweepVisit (s.sweep.cursor + k)) u ∧
      (l.foldl (fun u k => u.sweepVisit (s.sweep.cursor + k)) u).sweep = s.sweep := by
    intro l
    induction l with
    | nil => exact fun u hu => ⟨rfl, hu⟩
    | cons k l ih =>
      intro u hu
      rw [List.foldl_cons, List.foldl_cons, hu]
      exact ih _ (by simpa using hu)
  obtain ⟨hsame, hsweep⟩ := hfold (List.range 16) s rfl
  unfold State.sweepStep
  dsimp only [Config.sweepWidth]
  rw [hsame, hsweep]
  rfl

theorem State.swept_frame (s : State) (n : Nat) : s.swept n = { s with
    registry := (s.swept n).registry, candidates := (s.swept n).candidates, attention := (s.swept n).attention } := by
  induction n with
  | zero => rfl
  | succ n ih =>
    have hfields := State.sweepVisit_fields (s.swept n) (s.sweep.cursor + n)
    rw [← State.swept_succ, ih] at hfields
    apply State.ext <;> simp [hfields]

theorem State.record?_swept (s : State) (n i : Nat) :
    (s.record? i = none → (s.swept n).record? i = none) ∧
    (i < s.sweep.cursor ∨ s.sweep.cursor + n ≤ i → (s.swept n).record? i = s.record? i) ∧
    ∀ r, s.record? i = some r → ∃ t, (s.swept n).record? i = some t ∧ SweptRecord r t := by
  induction n with
  | zero => exact ⟨id, fun _ => rfl, fun r hr => ⟨r, hr, .refl r⟩⟩
  | succ n ih =>
    obtain ⟨hnone, hout, hlive⟩ := ih
    obtain ⟨vnone, vout, vlive⟩ := State.record?_sweepVisit (s.swept n) (s.sweep.cursor + n) i
    rw [State.swept_succ]
    refine ⟨fun h => vnone (hnone h), fun h => (vout (by omega)).trans (hout (by omega)), fun r hr => ?_⟩
    obtain ⟨x, hx, hrx⟩ := hlive r hr
    obtain ⟨t, ht, hxt⟩ := vlive x hx
    exact ⟨t, ht, hrx.trans hxt⟩

theorem State.swept_of_unset {s : State} (h : s.clock.isSet = false) (n : Nat) : s.swept n = s := by
  induction n with
  | zero => rfl
  | succ n ih => rw [State.swept_succ, ih, State.sweepVisit_of_unset h]

theorem State.record?_sweepStep (s : State) (i : Nat) : s.sweepStep.record? i = (s.swept 16).record? i := by
  rw [State.sweepStep_eq]
  generalize s.swept 16 = t
  rfl

/-- A step writes the registry, the Candidate List, the attention set and the cursor alone. -/
theorem State.sweepStep_frame (s : State) : s.sweepStep = { s with
    registry := s.sweepStep.registry, candidates := s.sweepStep.candidates, attention := s.sweepStep.attention
    sweep := s.sweepStep.sweep } := by
  have hswept := s.swept_frame 16
  rw [State.sweepStep_eq]
  generalize s.swept 16 = t at hswept ⊢
  rw [hswept]

theorem exec_sweepStep {s : State} (ho : s.operating = true) : exec .sweepStep s = .next s.sweepStep := by
  have hguarded : exec .sweepStep s = .next (if s.operating then s.sweepStep else s) := rfl
  rw [hguarded, if_pos ho]

/-- Settles O35: a sweep step is sixteen visits and the cursor's advance, and a visit judges its record. -/
theorem aSweepStepJudgesSixteenIndexes : Obligations.ASweepStepJudgesSixteenIndexes := by
  refine ⟨fun s ho => ⟨s.sweepStep, exec_sweepStep ho, ?frame, ?cursor, ?visits, fun i => ?free, fun i => ?outside,
    fun i r => ?inside⟩, fun s ho hset => ?unset, fun s i r r1 hset hr hr1 => ?visit⟩
  case frame => exact s.sweepStep_frame
  case cursor => rw [State.sweepStep_eq]
  case visits =>
    have hvisits : (List.range 16).foldl (fun u k => u.sweepVisit (s.sweep.cursor + k)) s = s.swept 16 := rfl
    rw [hvisits, State.sweepStep_eq]
  case free =>
    rw [State.record?_sweepStep]
    exact (s.record?_swept 16 i).1
  case outside =>
    rw [State.record?_sweepStep]
    exact (s.record?_swept 16 i).2.1
  case inside =>
    rw [State.record?_sweepStep]
    intro hr
    obtain ⟨-, -, hlive⟩ := s.record?_swept 16 i
    obtain ⟨t, ht, hrt⟩ := hlive r hr
    exact ⟨t, ht, hrt.eq⟩
  case unset => rw [exec_sweepStep ho, State.sweepStep_eq, State.swept_of_unset hset]
  case visit =>
    obtain rfl : r1 = r.clampTimes s.clock.minutes := hr1
    obtain ⟨v, hv⟩ := State.interval_of_set (s := s.setRecord i (r.clampTimes s.clock.minutes)) (by simpa using hset) i
      (r.clampTimes s.clock.minutes)
    have hlive : (s.setRecord i (r.clampTimes s.clock.minutes)).record? i = some (r.clampTimes s.clock.minutes) := by
      simp
    have hshape := State.sweepVisit_eq hr hv
    have hcount := (congrArg (fun u : State => u.registry.overdueCount) hshape).trans
      (State.overdueCount_setOverdue hlive v.overdue)
    have hattention := (congrArg (fun u : State => u.attention) hshape).trans
      (State.attention_setOverdue hlive v.overdue)
    have hover : (r.clampTimes s.clock.minutes).overdue = r.overdue := rfl
    rw [hover] at hcount hattention
    refine ⟨v, s.sweepVisit i, hv, rfl, ?_, ?_, fun j hj => ?_, fun h1 h2 => ⟨?_, ?_⟩, fun h1 h2 => ⟨?_, ?_⟩,
      fun h => ⟨?_, ?_⟩, fun hc => ?_, fun c hc => ?_⟩
    · apply State.ext <;> simp
    · rw [hshape]
      change ((s.setRecord i (r.clampTimes s.clock.minutes)).setOverdue i v.overdue).record? i = _
      rw [State.record?_setOverdue, if_pos rfl, hlive]
      rfl
    · exact (State.record?_sweepVisit s i j).2.1 hj
    · rw [hcount, if_pos ⟨h1, h2⟩]
      rfl
    · rw [hattention, if_pos ⟨h1, h2⟩]
      rfl
    · rw [hcount, if_neg (by rw [h1]; exact fun h => nomatch h.1), if_pos ⟨h1, h2⟩]
      rfl
    · rw [hattention, if_neg (by rw [h1]; exact fun h => nomatch h.1)]
      rfl
    · rw [hcount, ← h]
      cases r.overdue <;> rfl
    · rw [hattention, ← h]
      cases r.overdue <;> rfl
    · rw [State.sweepVisit_of_no_candidate hr hv hc]
      simp [State.dropCandidate]
    · rw [State.sweepVisit_of_candidate hr hv hc]
      simp [State.offer]

end Sys2Proof.Machine

/-! SUPPORT. The sources of work and the issue of an order; O38, O39 and O40. -/

namespace Sys2Proof.Machine

/-! ## The fetch (R067, R084 to R089) -/

theorem State.fetch_replies {s t : State} {a : Nat} {x : Reply} (hf : s.free .turner = true)
    (h : State.ownFetch a s = (t, x)) : s.Replies (.fetch a) .turner t x :=
  State.replies_of_robot rfl hf h

/-- The state with the aisle of a fetch as its turner aisle. -/
def State.atAisle (s : State) (a : Nat) : State := { s with sweep := ⟨s.sweep.cursor, a⟩ }

/-- A fetch with room in the window builds from the state at its aisle. -/
theorem State.ownFetch_of_room {s : State} {a : Nat} (ha : a < 8 ∨ a = 15) (hrun : s.dispatcher.state = .running)
    (hroom : s.dispatcher.window.length < 4) : State.ownFetch a s = (s.atAisle a).fetchWork := by
  unfold State.ownFetch
  dsimp only
  rw [if_pos ha, if_neg (by rw [hrun]; exact DispatchState.noConfusion), if_neg (Nat.not_le.2 hroom)]
  rfl

theorem State.fetchWork_of_relocation {s : State} {v : Visit} (h : s.relocationWork? = some v) :
    s.fetchWork = s.issue .move (slotAisle v.source) [v] := by
  unfold State.fetchWork
  rw [h]

theorem State.fetchWork_of_none {s : State} (h : s.relocationWork? = none) : s.fetchWork = s.fetchCandidates := by
  unfold State.fetchWork
  rw [h]

theorem State.fetchCandidates_cons {s : State} (hset : s.clock.isSet = true) {v : Visit} {rest : List Visit}
    (h : s.candidateWork = v :: rest) :
    s.fetchCandidates = s.pruneCandidates.issue .batch (slotAisle v.source) (v :: rest) := by
  unfold State.fetchCandidates
  rw [if_pos hset, h]

/-- The state whose census a fetch without candidates looks at. -/
def State.prunedIfSet (s : State) : State := if s.clock.isSet = true then s.pruneCandidates else s

theorem State.prunedIfSet_clock (s : State) : s.prunedIfSet.clock = s.clock := by
  unfold State.prunedIfSet
  split <;> rfl

theorem State.prunedIfSet_dispatcher (s : State) : s.prunedIfSet.dispatcher = s.dispatcher := by
  unfold State.prunedIfSet
  split <;> rfl

theorem State.fetchCandidates_nil {s : State} (h : s.clock.isSet = true → s.candidateWork = []) :
    s.fetchCandidates = s.prunedIfSet.fetchCensus := by
  unfold State.fetchCandidates State.prunedIfSet
  split
  · rename_i hset
    rw [h hset]
  · rfl

theorem State.noneDue_eq (s : State) :
    s.noneDue = (s, ⟨.noWork, [if s.clock.isSet = true then 0x03#8 else 0x02#8]⟩) := by
  unfold State.noneDue State.noWork
  split <;> rfl

theorem State.fetchCensus_cons {s : State} (hc : s.dispatcher.settings.census = true) {p : Nat} {rest : List Nat}
    {c : Census} (h : s.censusTake = (p :: rest, c)) : s.fetchCensus =
      State.issue { s with census := c } .batch (slotAisle p) (sortVisits ((p :: rest).map s.scanVisit)) := by
  unfold State.fetchCensus
  rw [if_pos hc, h]

theorem State.fetchCensus_nil {s : State} (hc : s.dispatcher.settings.census = true) {c : Census}
    (h : s.censusTake = ([], c)) : s.fetchCensus = State.noneDue { s with census := c } := by
  unfold State.fetchCensus
  rw [if_pos hc, h]

theorem State.fetchCensus_off {s : State} (hc : s.dispatcher.settings.census = false) : s.fetchCensus = s.noneDue :=
  if_neg (by rw [hc]; exact Bool.false_ne_true)

theorem State.workAsserted_iff (s : State) : s.workAsserted = true ↔
    s.operating = true ∧ s.dispatcher.state = .running ∧ s.dispatcher.window.length < 4 ∧
    (s.candidates ≠ [] ∨ s.relocationWork?.isSome = true ∨
      (s.dispatcher.settings.census = true ∧ s.censusTried = true)) := by
  simp only [State.workAsserted, State.workStands, Config.windowMax, Bool.and_eq_true, Bool.or_eq_true,
    decide_eq_true_eq, and_assoc, or_assoc]

/-- Settles O38: a fetch is refused, answers that there is no work, or issues the order of the first source that
yields. -/
theorem fetchTakesTheFirstSourceThatYields : Obligations.FetchTakesTheFirstSourceThatYields := by
  refine ⟨fun s a hf => ⟨fun h8 h15 => ?aisle, fun ha hpaused => ?paused, fun ha hrun hfull => ?full⟩,
    fun s u w a hf ha hrun hroom hu hw => ?sources, State.workAsserted_iff⟩
  case aisle => exact State.fetch_replies hf (if_neg fun h => h.elim (Nat.not_lt.2 h8) h15)
  case paused =>
    refine State.fetch_replies hf ((if_pos ha).trans ?_)
    dsimp only
    rw [if_pos hpaused]
    rfl
  case full =>
    refine State.fetch_replies hf ((if_pos ha).trans ?_)
    dsimp only
    rw [if_neg (by rw [hrun]; exact DispatchState.noConfusion), if_pos (show Config.windowMax ≤ _ from hfull)]
    rfl
  case sources =>
    have haisle : u = s.atAisle a := hu
    have hbuilt : ∀ {x : State × Reply}, u.fetchWork = x → s.Replies (.fetch a) .turner x.1 x.2 := fun hx =>
      State.fetch_replies hf ((State.ownFetch_of_room ha hrun hroom).trans (haisle ▸ hx))
    have hclock : u.clock = s.clock := by rw [hu]
    have hw' : w = u.prunedIfSet := by
      rw [hw, ← hclock]
      rfl
    have hsettings : w.dispatcher.settings = s.dispatcher.settings := by
      rw [hw', State.prunedIfSet_dispatcher, hu]
    have hset : w.clock.isSet = s.clock.isSet := by rw [hw', State.prunedIfSet_clock, hclock]
    refine ⟨fun v x hv hx => ?_, fun v rest x hn hs hv hx => ?_, fun hn hv => ⟨fun hc =>
      ⟨fun p rest c x hp hx => ?_, fun c hp => ?_⟩, fun hc => ?_⟩⟩
    · rw [hx]
      exact hbuilt (State.fetchWork_of_relocation hv)
    · rw [hx, hw', State.prunedIfSet, if_pos (hclock ▸ hs)]
      exact hbuilt ((State.fetchWork_of_none hn).trans (State.fetchCandidates_cons (hclock ▸ hs) hv))
    all_goals
      have hcensus : u.fetchWork = w.fetchCensus := by
        rw [State.fetchWork_of_none hn, State.fetchCandidates_nil (hclock ▸ hv), hw']
    · rw [hx]
      exact hbuilt (hcensus.trans (State.fetchCensus_cons (hsettings ▸ hc) hp))
    · rw [← hset]
      exact hbuilt (hcensus.trans ((State.fetchCensus_nil (hsettings ▸ hc) hp).trans (State.noneDue_eq _)))
    · rw [← hset]
      exact hbuilt (hcensus.trans ((State.fetchCensus_off (hsettings ▸ hc)).trans (State.noneDue_eq _)))

/-! ## What the sources yield (R077, R078, R120) -/

theorem State.relocationWork?_of_ready {s : State} {q : Relocation} {i p : Nat} {r : WheelRecord}
    (hq : s.relocations.find? s.relocationReady = some q) (hn : s.named? q.wheel = some i) (hr : s.record? i = some r)
    (hp : r.location = some p) : s.relocationWork? =
      some ⟨1, p, ActionSet.moveOnly, some q.wheel, some q.wheel, r.tag, some q.dest, none, .waiting⟩ := by
  unfold State.relocationWork? State.nextRelocation?
  rw [hq, Option.bind_some, State.moveVisit?_of_named hn hr hp]

theorem State.recompute_of_interval {s : State} {c : Candidate} {r : WheelRecord} {v : IntervalResult}
    (hr : s.record? (handleIndex c.handle) = some r) (hv : s.interval (handleIndex c.handle) r = some v) :
    s.recompute c = v.candidate := by
  unfold State.recompute
  rw [hr]
  dsimp only
  rw [hv, Option.bind_some]

theorem Table.mem_of_read? {α : Type} {t : Table α} {i : Nat} {v : α} (h : t.read? i = some v) : (i, v) ∈ t := by
  induction t with
  | nil => cases h
  | cons e rest ih =>
    obtain ⟨k, x⟩ := e
    rw [Table.read?_cons] at h
    split at h
    · rename_i hk
      rw [hk, Option.some.inj h]
      exact List.mem_cons_self
    · exact List.mem_cons_of_mem _ (ih h)

/-- In a registry within capacity the survivors stand for different wheels, and are ranked. -/
theorem State.survivors_ranked {s : State} (hranked : s.candidatesRanked) (hcap : s.withinCapacity = true) :
    s.survivors.Pairwise fun a b => a.ranksAhead b = true := by
  obtain ⟨hindexes, -⟩ := s.withinCapacity_iff.1 hcap
  have hindex : ∀ c d, s.recompute c = some d → handleIndex d.handle = handleIndex c.handle := by
    intro c d hd
    obtain ⟨r, v, hr, hv, hc⟩ := State.recompute_some hd
    obtain ⟨-, hof⟩ := State.interval_candidate hv hc
    rw [hof, State.handleIndex_handleOf s (hindexes _ (Table.mem_of_read? hr))]
  refine (foldr_rankInsert _).2 ?_
  rw [List.Nodup, List.pairwise_map, List.pairwise_filterMap]
  refine (List.pairwise_map.1 hranked.2).imp fun {a b} hab x hx y hy => ?_
  rw [hindex a x hx, hindex b y hy]
  exact hab

theorem State.chosen_of_survivors {s : State} {lead : Candidate} {rest : List Candidate}
    (h : s.survivors = lead :: rest) :
    s.chosen = (lead :: rest.filter fun c => decide (c.aisle = lead.aisle)).take 8 := by
  unfold State.chosen
  rw [h]

theorem State.candidateWork_of_no_survivors {s : State} (h : s.survivors = []) : s.candidateWork = [] := by
  unfold State.candidateWork State.chosen
  rw [h]
  rfl

theorem State.scanVisit_of_empty {s : State} {p : Nat} (h : (s.slot p).occupant = none) :
    s.scanVisit p = ⟨0, p, ActionSet.scanOnly, none, none, 0, none, none, .waiting⟩ := by
  simp [State.scanVisit, State.occupantRecord?, newVisit, h]

theorem State.scanVisit_of_occupied {s : State} {p i : Nat} {r : WheelRecord} (h : (s.slot p).occupant = some i)
    (hr : s.record? i = some r) :
    s.scanVisit p = ⟨0, p, ActionSet.scanOnly, none, some (s.handleOf i), r.tag, none, none, .waiting⟩ := by
  simp [State.scanVisit, State.occupantRecord?, newVisit, h, hr]

/-- Settles O39: the visits of each source, and their order. -/
theorem theSourcesYieldTheirVisits : Obligations.TheSourcesYieldTheirVisits := by
  refine ⟨fun s => ⟨fun q i r p => State.relocationWork?_of_ready, fun hn => ?noneReady, s.relocationReady_iff,
    s.dispatchable_iff⟩, fun s => ⟨fun c r v => State.recompute_of_interval, s.survivors_perm,
    State.survivors_ranked, State.candidateWork_of_no_survivors, fun lead rest => State.chosen_of_survivors, rfl,
    fun c r p hr hp => ?work⟩, fun s p => ⟨State.scanVisit_of_empty, fun i r => State.scanVisit_of_occupied⟩,
    fun l => ⟨sortVisits_sorted l, sortVisits_numbers l, length_sortVisits l, fun v => mem_sortVisits⟩⟩
  case noneReady =>
    unfold State.relocationWork? State.nextRelocation?
    rw [hn]
    rfl
  case work =>
    unfold State.workVisit?
    rw [hr]
    dsimp only
    rw [hp]
    rfl

/-! ## The issue of an order (R081, R082) -/

theorem State.candidates_engageVisit (s : State) (v : Visit) : (s.engageVisit v).candidates =
    s.candidates.filter fun c => decide (v.wheel.map handleIndex ≠ some (handleIndex c.handle)) := by
  unfold State.engageVisit
  cases v.wheel <;> cases v.dest <;> simp [State.dropCandidate, eq_comm]

/-- What engaging the visits of a list writes: claims, engagements, candidates and the queue. -/
theorem State.foldl_engageVisit_views (vs : List Visit) (s : State) :
    (∀ i, (vs.foldl State.engageVisit s).record? i = if (∃ v ∈ vs, v.wheel.map handleIndex = some i)
      then (s.record? i).map fun r => { r with claim := .claimed } else s.record? i) ∧
    (∀ p, (vs.foldl State.engageVisit s).slot p =
      if (∃ v ∈ vs, p ∈ v.slots) then { s.slot p with engaged := true } else s.slot p) ∧
    (vs.foldl State.engageVisit s).candidates = (s.candidates.filter fun c =>
      decide (∀ v ∈ vs, v.wheel.map handleIndex ≠ some (handleIndex c.handle))) ∧
    (vs.foldl State.engageVisit s).relocations = (s.relocations.map fun q =>
      if ∃ v ∈ vs, v.wheel = some q.wheel ∧ v.dest ≠ none then { q with state := .issued } else q) := by
  induction vs generalizing s with
  | nil => simp
  | cons u rest ih =>
    obtain ⟨hrec, hslot, hcand, hqueue⟩ := ih (s.engageVisit u)
    rw [List.foldl_cons]
    refine ⟨fun i => ?_, fun p => ?_, ?_, ?_⟩
    · rw [hrec, State.record?_engageVisit]
      simp only [List.mem_cons, exists_eq_or_imp]
      by_cases h2 : ∃ v ∈ rest, v.wheel.map handleIndex = some i
      · rw [if_pos h2, if_pos (Or.inr h2)]
        split
        · rw [Option.map_map]
          rfl
        · rfl
      · rw [if_neg h2]
        simp only [h2, or_false]
    · rw [hslot, State.slot_engageVisit]
      simp only [List.mem_cons, exists_eq_or_imp, ← Visit.mem_slots]
      by_cases h2 : ∃ v ∈ rest, p ∈ v.slots
      · rw [if_pos h2, if_pos (Or.inr h2)]
        split <;> rfl
      · rw [if_neg h2]
        simp only [h2, or_false]
    · rw [hcand, State.candidates_engageVisit, List.filter_filter]
      refine List.filter_congr fun c _ => ?_
      simp only [List.forall_mem_cons, Bool.decide_and, Bool.and_comm]
    · rw [hqueue, State.relocations_engageVisit, List.map_map]
      refine List.map_congr_left fun q _ => ?_
      simp only [List.mem_cons, exists_eq_or_imp, Function.comp]
      by_cases h1 : u.wheel = some q.wheel ∧ u.dest ≠ none
      · rw [if_pos h1, if_pos (Or.inl h1)]
        split <;> rfl
      · rw [if_neg h1]
        simp only [h1, false_or]

theorem State.foldl_engageVisit_tables (vs : List Visit) (s : State) :
    (vs.foldl State.engageVisit s).registry.generations = s.registry.generations ∧
    (vs.foldl State.engageVisit s).registry.tagIndex = s.registry.tagIndex ∧
    (vs.foldl State.engageVisit s).registry.overdueCount = s.registry.overdueCount ∧
    (vs.foldl State.engageVisit s).shelf.racks = s.shelf.racks ∧
    (vs.foldl State.engageVisit s).shelf.windows = s.shelf.windows := by
  induction vs generalizing s with
  | nil => simp
  | cons u rest ih => simpa using ih (s.engageVisit u)

/-- The first number is taken where it is free. -/
theorem State.nextNumber_of_free {s : State} (h : ∀ o ∈ s.dispatcher.window,
    o.number ≠ orderAfter s.dispatcher.lastNumber) : s.nextNumber = orderAfter s.dispatcher.lastNumber := by
  unfold State.nextNumber
  rw [freeNumber, if_neg]
  simpa using h

/-- Settles O40: an issue appends its order under a fresh number and engages its visits. -/
theorem issuingAnOrderClaimsAndEngages : Obligations.IssuingAnOrderClaimsAndEngages := by
  refine ⟨fun s t k a vs o ht ho => ?issued, fun s h => ?number⟩
  case issued =>
    have hfields := State.foldl_engageVisit_fields (s.withNewOrder k a vs) vs
    obtain ⟨hrec, hslot, hcand, hqueue⟩ := State.foldl_engageVisit_views vs (s.withNewOrder k a vs)
    obtain ⟨hgen, htags, hover, hracks, hwindows⟩ := State.foldl_engageVisit_tables vs (s.withNewOrder k a vs)
    rw [← State.issue_eq, ← ht] at hfields hrec hslot hcand hqueue hgen htags hover hracks hwindows
    subst ho
    refine ⟨rfl, ?_, hrec, Registry.eq_of_records hgen htags hover, hslot, ShelfMap.eq_of_slots hracks hwindows, hcand,
      hqueue⟩
    apply State.ext <;> simp [hfields, State.withNewOrder]
  case number =>
    obtain ⟨hlow, hhigh, hfresh⟩ := State.nextNumber_fresh h
    refine ⟨hlow, hhigh, hfresh, fun m hm hfree => ?_⟩
    obtain rfl : m = orderAfter s.dispatcher.lastNumber := hm
    exact State.nextNumber_of_free hfree

end Sys2Proof.Machine

/-! SUPPORT. Orders accepted, read, closed and cancelled; O41, O42 and O43. -/

namespace Sys2Proof.Machine

/-! ## ACCEPT and the readers (R090, R104) -/

theorem State.withOrder_of_some {s : State} {n : Nat} {o : Order} (h : s.order? n = some o)
    (f : Order → State × Reply) : s.withOrder n f = f o := by
  unfold State.withOrder
  rw [h]

theorem State.withOrder_of_none {s : State} {n : Nat} (h : s.order? n = none) (f : Order → State × Reply) :
    s.withOrder n f = s.refuse .unknownOrder := by
  unfold State.withOrder
  rw [h]

/-- The state in which an order was accepted. -/
def State.accepted (s : State) (n : Nat) : State :=
  (s.updOrder n fun o => { o with state := .accepted }).loadTimer n s.dispatcher.settings.orderAllowance

theorem State.order?_accepted (s : State) (n m : Nat) : (s.accepted n).order? m = if m = n
    then (s.order? n).map fun o => { o with state := .accepted, timer := s.dispatcher.settings.orderAllowance }
    else s.order? m := by
  have hupd := fun m => State.order?_updOrder s n m (fun o => { o with state := .accepted }) fun _ => rfl
  rw [State.accepted, State.order?_loadTimer, hupd, hupd, if_pos rfl]
  split
  · rw [Option.map_map]
    rfl
  · rfl

/-- Settles O41: ACCEPT moves an issued order and loads its timer; the readers answer the window and its orders. -/
theorem ordersAreAcceptedAndRead : Obligations.OrdersAreAcceptedAndRead := by
  refine ⟨fun s n hf => ⟨fun hn => ?unknown, fun o ho hst => ?sequence, fun o ho hst => ⟨s.accepted n, ?accepted, rfl,
    ?order, fun m hm => ?others⟩⟩, fun s n hn => ⟨fun hf => ⟨?briefs, fun o ho => ?turnerOrder, fun ho => ?turnerNone⟩,
    fun hf => ⟨?summaries, fun o ho => ?hostOrder, fun ho => ?hostNone⟩⟩⟩
  case unknown => exact State.replies_of_robot rfl hf (State.withOrder_of_none hn _)
  case sequence => exact State.replies_of_robot rfl hf ((State.withOrder_of_some ho _).trans (if_neg hst))
  case accepted => exact State.replies_of_robot rfl hf ((State.withOrder_of_some ho _).trans (if_pos hst))
  case order => rw [State.order?_accepted, if_pos rfl, ho, Option.map_some]
  case others => rw [State.order?_accepted, if_neg hm]
  case briefs => exact State.replies_of_robot rfl hf (if_pos rfl)
  case turnerOrder => exact State.replies_of_robot rfl hf ((if_neg hn).trans (State.withOrder_of_some ho _))
  case turnerNone => exact State.replies_of_robot rfl hf ((if_neg hn).trans (State.withOrder_of_none ho _))
  case summaries => exact State.replies_of_owner rfl hf (if_pos rfl)
  case hostOrder => exact State.replies_of_owner rfl hf ((if_neg hn).trans (State.withOrder_of_some ho _))
  case hostNone => exact State.replies_of_owner rfl hf ((if_neg hn).trans (State.withOrder_of_none ho _))

/-! ## Orders closed (R096, R099, R105) -/

/-- What a release writes: the claim of its wheel, the engagement of its slots and the state of its relocation. -/
theorem State.releaseVisit_effect (s : State) (v : Visit) :
    s.releaseVisit v = { s with
      registry := (s.releaseVisit v).registry, shelf := (s.releaseVisit v).shelf
      relocations := (s.releaseVisit v).relocations } ∧
    (∀ i, (s.releaseVisit v).record? i = if v.wheel.map handleIndex = some i
      then (s.record? i).map fun r => { r with claim := .none } else s.record? i) ∧
    (s.releaseVisit v).registry = { s.registry with records := (s.releaseVisit v).registry.records } ∧
    (∀ p, (s.releaseVisit v).slot p = if p ∈ v.slots then { s.slot p with engaged := false } else s.slot p) ∧
    (s.releaseVisit v).shelf = { s.shelf with slots := (s.releaseVisit v).shelf.slots } ∧
    (s.releaseVisit v).relocations = (s.relocations.map fun q =>
      if v.wheel = some q.wheel ∧ v.dest ≠ none then { q with state := .queued } else q) := by
  refine ⟨by apply State.ext <;> simp, fun i => State.record?_releaseVisit s v i, Registry.eq_of_records (by simp)
    (by simp) (by simp), fun p => ?_, ShelfMap.eq_of_slots (by simp) (by simp), State.relocations_releaseVisit s v⟩
  rw [State.slot_releaseVisit]
  simp only [Visit.mem_slots]

/-- A wheel in hand is doubted when its visit is closed. -/
theorem State.doubtVisit_effect {s : State} {v : Visit} {h : Nat} {r : WheelRecord} (hw : v.wheel = some h)
    (hr : s.record? (handleIndex h) = some r) :
    RecordBecomes s (s.doubtVisit v) (handleIndex h) { r with holds := { r.holds with unconfirmed := true } } ∧
    (s.doubtVisit v).shelf = s.shelf ∧ (s.doubtVisit v).relocations = s.relocations ∧
    (s.doubtVisit v).attention = ⟨s.attention.pending ||| 0x80#8, s.attention.mask⟩ := by
  have hshape : s.doubtVisit v = (s.addHold (handleIndex h) .unconfirmed).latch .unconfirmed := by
    unfold State.doubtVisit
    rw [hw]
  rw [hshape]
  refine ⟨State.recordBecomes_addHold hr .unconfirmed, by simp, by simp, ?_⟩
  simp only [State.latch, State.addHold_fields]
  rfl

theorem RecordBecomes.trans {s t u : State} {i : Nat} {r x : WheelRecord} (h : RecordBecomes s t i r)
    (k : RecordBecomes t u i x) : RecordBecomes s u i x := by
  obtain ⟨-, hother, hreg⟩ := h
  obtain ⟨hrec, kother, kreg⟩ := k
  refine ⟨hrec, fun j hj => (kother j hj).trans (hother j hj), ?_⟩
  rw [kreg, hreg]

theorem State.recordBecomes_releaseVisit {s : State} {v : Visit} {h : Nat} {r : WheelRecord} (hw : v.wheel = some h)
    (hr : s.record? (handleIndex h) = some r) :
    RecordBecomes s (s.releaseVisit v) (handleIndex h) { r with claim := .none } := by
  refine RecordBecomes.of_reads (fun j => ?_) (by simp) (by simp) (by simp)
  rw [State.record?_releaseVisit, hw, Option.map_some]
  by_cases hj : j = handleIndex h
  · rw [hj, if_pos rfl, if_pos rfl, hr, Option.map_some]
  · rw [if_neg fun he => hj (Option.some.inj he).symm, if_neg hj]

theorem State.closeVisit_of_started {s : State} {v : Visit} (h : v.state = .started) :
    s.closeVisit v = (s.releaseVisit v).doubtVisit v := by
  unfold State.closeVisit
  rw [h]

/-- Closing an order drops it after its visits. -/
theorem State.closeOrder_frame {s : State} {n : Nat} {o : Order} (ho : s.order? n = some o) :
    s.closeOrder o = { s with
      registry := (s.closeOrder o).registry, shelf := (s.closeOrder o).shelf
      relocations := (s.closeOrder o).relocations, candidates := (s.closeOrder o).candidates
      attention := (s.closeOrder o).attention, dispatcher := (s.closeOrder o).dispatcher } ∧
    (s.closeOrder o).dispatcher = { s.dispatcher with
      window := s.dispatcher.window.filter fun u => decide (u.number ≠ n) } := by
  have hn := State.number_of_order? ho
  refine ⟨by apply State.ext <;> simp, ?_⟩
  rw [State.closeOrder, State.dropOrder, State.window_closeVisits, hn]

theorem exec_orderExpiry (s : State) (n : Nat) :
    exec (.orderExpiry n) s = .next (if s.operating then s.expireOrder n else s) := rfl

theorem State.expireOrder_of_some {s : State} {n : Nat} {o : Order} (h : s.order? n = some o) :
    s.expireOrder n = if o.timer = 0 then (s.closeOrder o).latch .orderExpired else s := by
  unfold State.expireOrder
  rw [h]

theorem State.expireOrder_of_none {s : State} {n : Nat} (h : s.order? n = none) : s.expireOrder n = s := by
  unfold State.expireOrder
  rw [h]

/-- Settles O42: a release, the closing of a visit, and the closing of an order on request and on expiry. -/
theorem aClosedOrderEndsItsVisits : Obligations.AClosedOrderEndsItsVisits := by
  refine ⟨fun s t v ht => ?release, fun s v => ⟨fun hst => ?waiting, fun hst => ?ended, fun hst hw => ?scan,
    fun h r t hst hw hr ht => ?started⟩, fun s n o ho => ⟨fun hf => ?closed, fun hop htimer => ?expired,
    fun htimer => ?running, s.closeOrder o, rfl, ?frame⟩, fun s n hn => ⟨fun hf => ?unknown, ?gone⟩⟩
  case release =>
    rw [ht]
    exact s.releaseVisit_effect v
  case waiting =>
    unfold State.closeVisit
    rw [hst]
  case ended =>
    unfold State.closeVisit
    split
    · next hs => exact absurd (hs ▸ hst) nofun
    · next hs => exact absurd (hs ▸ hst) nofun
    · rfl
  case scan =>
    rw [State.closeVisit_of_started hst, State.doubtVisit, hw]
  case started =>
    have hreleased := State.recordBecomes_releaseVisit hw hr
    obtain ⟨hrecord, hshelf, hqueue, hattention⟩ := State.doubtVisit_effect hw hreleased.1
    rw [ht, State.closeVisit_of_started hst]
    refine ⟨hreleased.trans hrecord, hshelf, hqueue, ?_⟩
    rw [hattention, (State.releaseVisit_fields s v).2.2.2.2.2.2.2.2.2.1]
  case closed => exact State.replies_of_robot rfl hf (State.withOrder_of_some ho _)
  case expired => rw [exec_orderExpiry, if_pos hop, State.expireOrder_of_some ho, if_pos htimer]
  case running => rw [exec_orderExpiry, State.expireOrder_of_some ho, if_neg htimer, ite_self]
  case frame =>
    obtain ⟨hframe, hdispatcher⟩ := State.closeOrder_frame ho
    have hn := State.number_of_order? ho
    refine ⟨hframe, hdispatcher, ?_, by rw [State.closeOrder, hn]⟩
    rw [State.closeOrder, hn, State.order?_dropOrder, if_pos rfl]
  case unknown => exact State.replies_of_robot rfl hf (State.withOrder_of_none hn _)
  case gone => rw [exec_orderExpiry, State.expireOrder_of_none hn, ite_self]

/-! ## CANCEL_ORDERS (R106) -/

theorem Order.covered_iff (o : Order) (a : Nat) : o.covered a = true ↔ a = 255 ∨ o.aisle = a := by
  simp [Order.covered, Config.byteAll]

theorem Order.cancelled_eq (o : Order) (a : Nat) :
    o.cancelled a = decide ((a = 255 ∨ o.aisle = a) ∧ o.state = .issued) := by
  rw [Order.cancelled, Bool.decide_and]
  congr 1
  rw [Bool.eq_iff_iff, Order.covered_iff, decide_eq_true_iff]

theorem Order.cancel_eq (o : Order) (a : Nat) : o.cancel a =
    if (a = 255 ∨ o.aisle = a) ∧ o.state = .accepted then { o with state := .cancelling } else o := by
  unfold Order.cancel
  simp only [Order.covered_iff]

/-- The covered orders are the removed ones and the rest. -/
theorem length_covered (w : List Order) (a : Nat) : (w.filter fun o => o.covered a).length -
    (w.filter fun o => decide ((a = 255 ∨ o.aisle = a) ∧ o.state = .issued)).length =
    (w.filter fun o => decide ((a = 255 ∨ o.aisle = a) ∧ o.state ≠ .issued)).length := by
  have hsum : (w.filter fun o => o.covered a).length =
      (w.filter fun o => decide ((a = 255 ∨ o.aisle = a) ∧ o.state = .issued)).length +
      (w.filter fun o => decide ((a = 255 ∨ o.aisle = a) ∧ o.state ≠ .issued)).length := by
    induction w with
    | nil => rfl
    | cons o rest ih =>
      simp only [List.filter_cons, Order.covered_iff, decide_eq_true_eq] at ih ⊢
      by_cases hc : a = 255 ∨ o.aisle = a <;> by_cases hs : o.state = .issued <;> simp [hc, hs, ih] <;> omega
  omega

theorem State.dispatcher_withdrawOrders (l : List Order) (s : State) :
    (l.foldl State.withdrawVisits s).dispatcher = s.dispatcher :=
  foldl_unchanged (fun u : State => u.dispatcher) State.withdrawVisits (fun u o => by simp) l s

/-- Settles O43: the orders of the aisle that nobody accepted leave with their visits; the accepted ones are
cancelling. -/
theorem cancelOrdersCoversAnAisle : Obligations.CancelOrdersCoversAnAisle := by
  refine ⟨State.withdrawVisits_eq, fun s u a hf hu => ⟨fun h8 h255 => ?aisle, fun ha => ?cancelled⟩⟩
  case aisle => exact State.replies_of_owner rfl hf (if_neg fun h => h.elim (Nat.not_lt.2 h8) h255)
  case cancelled =>
    have hremoved : (fun o : Order => o.cancelled a) =
        fun o => decide ((a = 255 ∨ o.aisle = a) ∧ o.state = .issued) := funext fun o => o.cancelled_eq a
    have hkept : (fun o : Order => !o.cancelled a) =
        fun o => decide (¬((a = 255 ∨ o.aisle = a) ∧ o.state = .issued)) := funext fun o => by
      rw [o.cancelled_eq a, decide_not]
    have hcancel : (fun o : Order => o.cancel a) = fun o => if (a = 255 ∨ o.aisle = a) ∧ o.state = .accepted
        then { o with state := .cancelling } else o := funext fun o => o.cancel_eq a
    refine State.replies_of_owner rfl hf ((if_pos ha).trans ?_)
    dsimp only
    rw [State.cancelOrders, hremoved, hkept, hcancel, ← hu, length_covered]
    have hdispatcher : u.dispatcher = s.dispatcher := by rw [hu, State.dispatcher_withdrawOrders]
    dsimp only
    rw [hdispatcher]
    rfl

end Sys2Proof.Machine

/-! SUPPORT. The start of a visit: refused, cancelled, stopped or gone on with; O44. -/

namespace Sys2Proof.Machine

/-! ## What a comparison does to slots (R128, R131) -/

/-- What confirming a slot does to slots. -/
theorem State.slot_confirm (s : State) (p q : Nat) : (s.confirm p).slot q =
    if q = p then { s.slot p with verified := some s.clock.minutes } else s.slot q := by
  have hentry : ∀ x, (s.dismissEntry p).slot x = s.slot x := fun x => by
    rw [State.slot, State.slot, (State.dismissEntry_fields s p).1]
  unfold State.confirm
  dsimp only
  split <;> simp [hentry]

/-- What a finding does to slots: the review mark stands in its own slot only when the table is full. -/
theorem State.slot_enterFinding (s : State) (p q : Nat) (f : Finding) : (s.enterFinding p f).slot q =
    if q = p ∧ s.entryAt? p = none ∧ s.freePosition? = none then { s.slot p with review := true }
    else s.slot q := by
  unfold State.enterFinding
  split
  · next k old hat => rw [(State.writeEntry_effect _ _ _ _).2.2, hat, if_neg (by simp)]
  · next hat =>
    split
    · next k hfree => rw [(State.writeEntry_effect _ _ _ _).2.2, hfree, if_neg (by simp)]
    · next hfree =>
      rw [State.tableFull]
      by_cases h : q = p <;> simp [hat, hfree, h]

/-- A comparison counts no failed reach. -/
theorem State.count_compare (s : State) (p q : Nat) (rep : TagReport) :
    ((s.compare p rep).1.slot q).count = (s.slot q).count := by
  unfold State.compare
  dsimp only
  split
  · by_cases h : q = p <;> simp [State.slot_confirm, h]
  · dsimp only
    rw [State.slot_enterFinding]
    by_cases h : q = p
    · subst h
      split <;> simp
    · simp [h]

/-! ## A visit withdrawn (R092) -/

/-- The window, as a visit reaches the state given and its order's timer is loaded. -/
theorem State.order?_visitMoved {s t : State} {n v : Nat} {o : Order} {f : Visit → Visit}
    (ho : s.order? n = some o) (k : Nat)
    (ht : t.dispatcher = (s.updOrder n fun o => o.updVisit v f).dispatcher) :
    (t.loadTimer n k).order? n = some { o with
      visits := o.visits.map fun w => if w.number = v then f w else w
      timer := k } := by
  have hupd : t.order? n = some (o.updVisit v f) := by
    rw [State.order?, ht]
    show (s.updOrder n fun o => o.updVisit v f).order? n = _
    rw [State.order?_updOrder s n n (fun o => o.updVisit v f) fun _ => rfl, if_pos rfl, ho, Option.map_some]
  rw [State.order?_loadTimer, if_pos rfl, hupd]
  rfl

/-- A visit withdrawn is released, and its order's timer loaded. -/
theorem State.withdraw_effect {s : State} {n : Nat} {o : Order} {u : Visit} (ho : s.order? n = some o)
    (st : Status) :
    ∃ t, s.withdraw n u st = (t, ⟨st, []⟩) ∧
      t = { s with registry := t.registry, shelf := t.shelf, relocations := t.relocations, dispatcher := t.dispatcher } ∧
      t.order? n = some { o with
        visits := o.visits.map fun w => if w.number = u.number then { w with state := .withdrawn } else w
        timer := s.dispatcher.settings.visitAllowance } ∧
      t.registry = (s.releaseVisit u).registry ∧ t.shelf = (s.releaseVisit u).shelf ∧
      t.relocations = (s.releaseVisit u).relocations := by
  have hreleased : (s.setVisitState n u.number .withdrawn).releaseVisit u =
      { s.releaseVisit u with dispatcher := (s.setVisitState n u.number .withdrawn).dispatcher } :=
    State.releaseVisit_dispatcher s (s.setVisitState n u.number .withdrawn).dispatcher u
  refine ⟨(s.withdraw n u st).1, rfl, by apply State.ext <;> simp,
    ?_, ?_, ?_, ?_⟩
  · have horder := State.order?_visitMoved (v := u.number) (f := fun w => { w with state := .withdrawn }) ho
      s.dispatcher.settings.visitAllowance (State.releaseVisit_fields (s.setVisitState n u.number .withdrawn) u).2.2.2.1
    rw [← horder, State.withdraw]
    simp [State.setVisitState, State.updOrder]
  · show ((s.setVisitState n u.number .withdrawn).releaseVisit u).registry = _
    rw [hreleased]
  · show ((s.setVisitState n u.number .withdrawn).releaseVisit u).shelf = _
    rw [hreleased]
  · show ((s.setVisitState n u.number .withdrawn).releaseVisit u).relocations = _
    rw [hreleased]

/-! ## A visit gone on with (R093) -/

/-- What a visit gone on with writes. -/
theorem State.proceed_effect {s : State} {n : Nat} {o : Order} {u : Visit} (ho : s.order? n = some o)
    (a : ActionSet) :
    ∃ t, s.proceed n u a = (t, ⟨.proceed, [BitVec.ofNat 8 a.number]⟩) ∧
      t = { s with registry := t.registry, shelf := t.shelf, dispatcher := t.dispatcher } ∧
      t.order? n = some { o with
        visits := o.visits.map fun w =>
          if w.number = u.number then { w with state := .started, proceeded := some a } else w
        timer := s.dispatcher.settings.visitAllowance } ∧
      SlotBecomes s t u.source { s.slot u.source with count := 0 } ∧
      (∀ h r, u.wheel = some h → s.record? (handleIndex h) = some r →
        RecordBecomes s t (handleIndex h) { r with claim := .inHand }) := by
  refine ⟨(s.proceed n u a).1, ?reply, by apply State.ext <;> simp, ?order, ⟨?slot, fun q hq => ?others, ?shelf⟩,
    fun h r hw hr => ?record⟩
  case reply =>
    rw [← be_one]
    rfl
  case order =>
    rw [State.proceed]
    cases u.wheel <;> refine (State.order?_visitMoved (v := u.number)
      (f := fun w => { w with state := .started, proceeded := some a }) ho _ ?_).trans ?_ <;> simp [State.updOrder]
  case slot =>
    simp only [State.proceed]
    cases u.wheel <;> simp
  case others =>
    simp only [State.proceed]
    cases u.wheel <;> simp [hq]
  case shelf =>
    simp only [State.proceed]
    cases u.wheel <;> exact ShelfMap.eq_of_slots (by simp) (by simp)
  case record =>
    simp only [State.proceed, hw]
    refine RecordBecomes.of_reads (fun j => ?_) (by simp) (by simp) (by simp)
    by_cases hj : j = handleIndex h
    · subst hj
      simp [hr]
    · simp [hj]

/-! ## VISIT_START (R091, R092) -/

theorem State.ownVisitStart_refused {s : State} {n v tag : Nat} {o : Order} {st : Status} (ho : s.order? n = some o)
    (h : startRefusal o (o.visit? v) tag = some st) : State.ownVisitStart n v tag s = s.refuse st := by
  rw [State.ownVisitStart, State.withOrder_of_some ho, h]

theorem State.ownVisitStart_passed {s : State} {n v tag : Nat} {o : Order} {u : Visit} (ho : s.order? n = some o)
    (hu : o.visit? v = some u) (h : startRefusal o (some u) tag = none) : State.ownVisitStart n v tag s =
      if o.state = .cancelling then s.withdraw n u .cancelled else s.checkStart n u tag := by
  rw [State.ownVisitStart, State.withOrder_of_some ho, hu, h]

/-- A start of no visit of the order, or with the tag field all ones, is a field out of range. -/
theorem startRefusal_badField {o : Order} {v? : Option Visit} {tag : Nat} (h : v? = none ∨ tag = Config.tagAllOnes) :
    startRefusal o v? tag = some .badField := by
  unfold startRefusal
  split
  · rfl
  · exact if_pos (h.resolve_left nofun)

/-- A start out of sequence. -/
theorem startRefusal_sequence {o : Order} {u : Visit} {tag : Nat} (htag : tag ≠ Config.tagAllOnes)
    (h : o.state = .issued ∨ u.state ≠ .waiting ∨ (∃ w ∈ o.visits, w.state = .started) ∨ u.actions.scan = true) :
    startRefusal o (some u) tag = some .sequence := by
  have hstarted : (o.visits.any fun w => decide (w.state = .started)) = true ↔ ∃ w ∈ o.visits, w.state = .started := by
    simp
  unfold startRefusal
  dsimp only
  rw [if_neg htag]
  split_ifs with h1 h2 h3 h4
  · rfl
  · rfl
  · rfl
  · rfl
  · exact absurd h (not_or.2 ⟨h1, not_or.2 ⟨h2, not_or.2 ⟨mt hstarted.2 h3, h4⟩⟩⟩)

/-- A visit whose comparison stops it is withdrawn. -/
theorem State.checkStart_stopped {s s1 : State} {n tag : Nat} {u : Visit} {ans : Comparison}
    (hc : s.compare u.source (.tag tag) = (s1, ans))
    (h : ans = .mismatch ∨ s1.wheelHeld u = true ∨ (s1.strikeBrush u).isEmpty = true) :
    s.checkStart n u tag = s1.withdraw n u .stop := by
  unfold State.checkStart
  dsimp only
  rw [hc]
  split_ifs with h1 h2 h3
  · rfl
  · rfl
  · rfl
  · exact absurd h (not_or.2 ⟨h1, not_or.2 ⟨h2, h3⟩⟩)

theorem State.checkStart_passed {s s1 : State} {n tag : Nat} {u : Visit} {ans : Comparison}
    (hc : s.compare u.source (.tag tag) = (s1, ans)) (hans : ans ≠ .mismatch) (hheld : s1.wheelHeld u = false)
    (hsome : (s1.strikeBrush u).isEmpty = false) : s.checkStart n u tag = s1.proceed n u (s1.strikeBrush u) := by
  unfold State.checkStart
  dsimp only
  rw [hc, if_neg hans, if_neg (by simp [hheld]), if_neg (by simp [hsome])]

/-- Settles O44: the refusals of a start in order, a cancelled start, a stopped one and one that goes on. -/
theorem visitStartIsRefusedCancelledOrChecked : Obligations.VisitStartIsRefusedCancelledOrChecked := by
  refine ⟨fun s n v tag hf => ⟨fun hn => ?unknown, fun o ho => ⟨fun h => ?badField, fun u hu htag h => ?sequence⟩⟩,
    fun s n v tag o u hf ho hu hpass hst => ?cancelled,
    fun s s1 n v tag o u ans hf ho hu hpass hst hc hstop => ?stopped,
    fun s s1 n v tag o u ans a hf ho hu hpass hst hc hans hheld ha hsome => ?passed⟩
  case unknown => exact State.replies_of_robot rfl hf (State.withOrder_of_none hn _)
  case badField => exact State.replies_of_robot rfl hf (State.ownVisitStart_refused ho (startRefusal_badField h))
  case sequence =>
    exact State.replies_of_robot rfl hf (State.ownVisitStart_refused ho (by rw [hu]; exact startRefusal_sequence htag h))
  case cancelled =>
    obtain ⟨t, ht, hframe, horder, hreg, hshelf, hqueue⟩ := State.withdraw_effect (u := u) ho .cancelled
    rw [Order.number_of_visit? hu] at horder
    exact ⟨t, State.replies_of_robot rfl hf ((State.ownVisitStart_passed ho hu hpass).trans ((if_pos hst).trans ht)),
      hframe, horder, hreg, hshelf, hqueue⟩
  case stopped =>
    have hcompared : s1 = (s.compare u.source (.tag tag)).1 := by rw [hc]
    have hdispatcher : s1.dispatcher = s.dispatcher := by rw [hcompared]; simp
    have ho1 : s1.order? n = some o := by rw [State.order?, hdispatcher]; exact ho
    obtain ⟨t, ht, hframe, horder, hreg, hshelf, hqueue⟩ := State.withdraw_effect (u := u) ho1 .stop
    rw [Order.number_of_visit? hu, hdispatcher] at horder
    refine ⟨t, State.replies_of_robot rfl hf ((State.ownVisitStart_passed ho hu hpass).trans ((if_neg ?_).trans
      ((State.checkStart_stopped hc hstop).trans ht))), hframe, horder, hreg, hshelf, hqueue, ?_⟩
    · rw [hst]
      exact nofun
    · rw [State.slot, hshelf]
      show ((s1.releaseVisit u).slot u.source).count = _
      rw [State.slot_releaseVisit, if_pos (.inl rfl), hcompared]
      exact State.count_compare s _ _ _
  case passed =>
    have hdispatcher : s1.dispatcher = s.dispatcher := by
      rw [show s1 = (s.compare u.source (.tag tag)).1 by rw [hc]]
      simp
    have ho1 : s1.order? n = some o := by rw [State.order?, hdispatcher]; exact ho
    obtain ⟨t, ht, hframe, horder, hslot, hrecord⟩ := State.proceed_effect (u := u) ho1 a
    rw [Order.number_of_visit? hu, hdispatcher] at horder
    subst ha
    refine ⟨t, State.replies_of_robot rfl hf ((State.ownVisitStart_passed ho hu hpass).trans ((if_neg ?_).trans
      ((State.checkStart_passed hc hans hheld hsome).trans ht))), hframe, horder, hslot, hrecord⟩
    rw [hst]
    exact nofun

end Sys2Proof.Machine

/-! SUPPORT. The end of a visit: refused, or recorded with its visit released; O45. -/

namespace Sys2Proof.Machine

/-! ## The commands that end a visit -/

/-- Each end of a visit is served by the owner of its outcome. -/
theorem exec_visitEnd {n v a w tag : Nat} {e : VisitOutcome} {c : Instr}
    (h : (e, c) ∈ [(.done, .visitEndDone n v a w tag), (.aborted, .visitEndAborted n v a w tag),
      (.destUnreachable, .visitEndDestUnreachable n v a w tag), (.unreachable, .visitEndUnreachable n v a w tag),
      (.absent, .visitEndAbsent n v a w tag)]) (s : State) :
    exec c s = s.robot c (State.ownVisitEnd e n v a w tag) := by
  simp only [List.mem_cons, Prod.mk.injEq, List.not_mem_nil, or_false] at h
  rcases h with ⟨rfl, rfl⟩ | ⟨rfl, rfl⟩ | ⟨rfl, rfl⟩ | ⟨rfl, rfl⟩ | ⟨rfl, rfl⟩
  all_goals rfl

theorem State.ownVisitEnd_refused {s : State} {e : VisitOutcome} {n v a w tag : Nat} {o : Order} {st : Status}
    (ho : s.order? n = some o) (h : endRefusal o (o.visit? v) e a tag = some st) :
    State.ownVisitEnd e n v a w tag s = s.refuse st := by
  rw [State.ownVisitEnd, State.withOrder_of_some ho, h]

theorem State.ownVisitEnd_passed {s : State} {e : VisitOutcome} {n v a w tag : Nat} {o : Order} {u : Visit}
    {x : ActionSet} (ho : s.order? n = some o) (hu : o.visit? v = some u)
    (h : endRefusal o (some u) e a tag = none) (hx : actionSet? a = some x) :
    State.ownVisitEnd e n v a w tag s = (s.endVisit n u e x (weightValue w) tag).done := by
  rw [State.ownVisitEnd, State.withOrder_of_some ho, hu, h, hx]
  rfl

/-! ## Ends refused (R094, R095, R097) -/

theorem actionSet?_eq_none (n : Nat) : actionSet? n = none ↔ 16 ≤ n := by
  unfold actionSet?
  split <;> simp <;> omega

theorem actionSet?_of_lt {n : Nat} (h : n < 16) : ∃ a, actionSet? n = some a :=
  Option.ne_none_iff_exists'.1 fun hn => absurd ((actionSet?_eq_none n).1 hn) (Nat.not_le.2 h)

theorem endRefusal_absent {o : Order} {v? : Option Visit} {e : VisitOutcome} {a tag : Nat}
    (h : v? = none ∨ 16 ≤ a) : endRefusal o v? e a tag = some .badField := by
  unfold endRefusal
  split
  · rfl
  · rfl
  · next v x hx => exact absurd ((actionSet?_eq_none a).2 (h.resolve_left nofun)) (by rw [hx]; exact nofun)

/-- The checks of the end of a visit of the order with an action set, in order. -/
theorem endRefusal_eq {o : Order} {u : Visit} {e : VisitOutcome} {a tag : Nat} {x : ActionSet}
    (hx : actionSet? a = some x) : endRefusal o (some u) e a tag =
      if e = .done ∧ u.actions.scan = true ∧ tag = 2 ^ 48 - 1 then some .badField
      else if o.state = .issued then some .sequence
      else if u.allows e = false then some .sequence
      else if u.rejectsActions e x = true then some .badField
      else none := by
  unfold endRefusal
  split
  · next hv => cases hv
  · next hn _ => cases hx.symm.trans hn
  · next v y hv hy =>
    obtain rfl := Option.some.inj hv
    obtain rfl := Option.some.inj (hx.symm.trans hy)
    rfl

theorem endRefusal_untagged {o : Order} {u : Visit} {e : VisitOutcome} {a tag : Nat}
    (h : e = .done ∧ u.actions.scan = true ∧ tag = 2 ^ 48 - 1) :
    endRefusal o (some u) e a tag = some .badField := by
  rcases Nat.lt_or_ge a 16 with ha | ha
  · obtain ⟨x, hx⟩ := actionSet?_of_lt ha
    rw [endRefusal_eq hx, if_pos h]
  · exact endRefusal_absent (.inr ha)

/-- The outcomes a visit can end in, by its state. -/
theorem Visit.allows_iff (u : Visit) (e : VisitOutcome) : u.allows e = true ↔
    (u.state = .waiting ∧ (e = .unreachable ∨ e = .absent ∨ (e = .done ∧ u.actions.scan = true))) ∨
    (u.state = .started ∧ (e = .done ∨ e = .aborted ∨ (e = .destUnreachable ∧ u.actions.move = true))) := by
  unfold Visit.allows
  cases u.state <;> cases e <;> simp

/-! ## Ends recorded (R094, R098) -/

theorem VisitOutcome.endState_eq (e : VisitOutcome) : e.endState = if e = .done then .done else .skipped := by
  cases e <;> rfl

/-- A visit that ends is released after its outcome is recorded, and its order's timer loaded. -/
theorem State.endVisit_effect {s : State} {n : Nat} {o : Order} {u : Visit} {e : VisitOutcome} {x : ActionSet}
    {w : Option Nat} {tag : Nat} (ho : s.order? n = some o) :
    ∃ t, s.endVisit n u e x w tag = t ∧
      t = { (s.visitOutcome u e x w tag).releaseVisit u with
        dispatcher := { s.dispatcher with window := t.dispatcher.window } } ∧
      t.order? n = some { o with
        visits := o.visits.map fun q => if q.number = u.number then { q with state := e.endState } else q
        timer := s.dispatcher.settings.visitAllowance } ∧
      (∀ m, m ≠ n → t.order? m = s.order? m) := by
  have hdispatcher : ((s.visitOutcome u e x w tag).releaseVisit u).dispatcher = s.dispatcher := by simp
  have hkept : ∀ m, ((s.visitOutcome u e x w tag).releaseVisit u).order? m = s.order? m := fun m => by
    rw [State.order?, hdispatcher]
    rfl
  generalize hz : (s.visitOutcome u e x w tag).releaseVisit u = z at hdispatcher hkept
  refine ⟨_, rfl, ?_, ?_, fun m hm => ?_⟩
  · rw [State.endVisit, hz, ← hdispatcher]
    rfl
  · have horder := State.order?_visitMoved (v := u.number) (f := fun q => { q with state := e.endState })
      ((hkept n).trans ho) s.dispatcher.settings.visitAllowance (t := z.setVisitState n u.number e.endState) rfl
    rw [← horder, State.endVisit, hz, ← hdispatcher]
    rfl
  · rw [State.endVisit, hz, State.order?_loadTimer, if_neg hm, State.order?_setVisitState, if_neg hm, hkept]

theorem State.engaged_releaseVisit {s : State} {u : Visit} {p : Nat} (hp : p ∈ u.slots) :
    ((s.releaseVisit u).slot p).engaged = false := by
  rw [State.slot_releaseVisit, if_pos ((u.mem_slots p).1 hp)]

theorem State.claim_releaseVisit {s : State} {u : Visit} {h : Nat} {r : WheelRecord} (hw : u.wheel = some h)
    (hr : (s.releaseVisit u).record? (handleIndex h) = some r) : r.claim = .none := by
  rw [State.record?_releaseVisit, hw, Option.map_some, if_pos rfl, Option.map_eq_some_iff] at hr
  obtain ⟨r0, -, rfl⟩ := hr
  rfl

/-- Settles O45: the refusals of an end in order, and what every recorded end releases. -/
theorem everyAcceptedVisitEndReleases : Obligations.EveryAcceptedVisitEndReleases := by
  refine ⟨fun s n v a w tag e c hf hc => ⟨fun hn => ?unknown, fun o ho => ⟨fun h => ?badField, fun u hu =>
    ⟨fun he hscan htag => ?untagged, fun ha htagged => ⟨fun hst => ?issued, fun hst hn => ?outOfState,
      fun x hst hstarted he hx hbad => ?actions⟩⟩⟩⟩,
    fun s y z n v a w tag o u e x c hf ho hu hpass hc hx hy hz => ?recorded,
    fun o u e a tag h => ?passed⟩
  case unknown => exact State.replies_of_robot (exec_visitEnd hc s) hf (State.withOrder_of_none hn _)
  case badField =>
    exact State.replies_of_robot (exec_visitEnd hc s) hf (State.ownVisitEnd_refused ho (endRefusal_absent h))
  case untagged =>
    refine State.replies_of_robot (exec_visitEnd hc s) hf (State.ownVisitEnd_refused ho ?_)
    rw [hu, endRefusal_untagged ⟨he, hscan, htag⟩]
  case issued =>
    refine State.replies_of_robot (exec_visitEnd hc s) hf (State.ownVisitEnd_refused ho ?_)
    obtain ⟨x, hx⟩ := actionSet?_of_lt ha
    rw [hu, endRefusal_eq hx, if_neg htagged, if_pos hst]
  case outOfState =>
    refine State.replies_of_robot (exec_visitEnd hc s) hf (State.ownVisitEnd_refused ho ?_)
    obtain ⟨x, hx⟩ := actionSet?_of_lt ha
    rw [hu, endRefusal_eq hx, if_neg htagged, if_neg hst,
      if_pos (Bool.eq_false_iff.2 fun hallows => hn ((u.allows_iff e).1 hallows))]
  case actions =>
    refine State.replies_of_robot (exec_visitEnd hc s) hf (State.ownVisitEnd_refused ho ?_)
    have hallows : u.allows e = true := (u.allows_iff e).2 (.inr ⟨hstarted, .inl he⟩)
    have hrejects : u.rejectsActions e x = true := by simpa [Visit.rejectsActions, hstarted, he] using hbad
    rw [hu, endRefusal_eq hx, if_neg htagged, if_neg hst, if_neg (by simp [hallows]), if_pos hrejects]
  case recorded =>
    subst hy hz
    obtain ⟨t, ht, hframe, horder, hothers⟩ := State.endVisit_effect (u := u) (e := e) (x := x)
      (w := weightValue w) (tag := tag) ho
    rw [Order.number_of_visit? hu, VisitOutcome.endState_eq] at horder
    refine ⟨t, State.replies_of_robot (exec_visitEnd hc s) hf ((State.ownVisitEnd_passed ho hu hpass hx).trans ?_),
      hframe, horder, hothers, fun p hp => ?_, fun h r hw hr => ?_, ?_⟩
    · rw [ht]
      rfl
    · rw [hframe]
      exact State.engaged_releaseVisit hp
    · rw [hframe] at hr
      exact State.claim_releaseVisit hw hr
    · rw [← ht]
      simp
  case passed =>
    obtain ⟨hactions, hissued, -, hended⟩ := endRefusal_none h
    exact ⟨hactions, hissued, hended⟩

end Sys2Proof.Machine

/-! SUPPORT. Work and moves recorded, and the wheel of an aborted visit doubted; O46. -/

namespace Sys2Proof.Machine

/-- A recorded end replies OK in the state in which its outcome is recorded and its visit released. -/
theorem State.replies_visitEnd {s : State} {n v a w tag : Nat} {o : Order} {u : Visit} {e : VisitOutcome}
    {x : ActionSet} {c : Instr} (hf : s.free .turner = true) (ho : s.order? n = some o) (hu : o.visit? v = some u)
    (hpass : endRefusal o (some u) e a tag = none)
    (hc : (e, c) ∈ [(.done, .visitEndDone n v a w tag), (.aborted, .visitEndAborted n v a w tag),
      (.destUnreachable, .visitEndDestUnreachable n v a w tag), (.unreachable, .visitEndUnreachable n v a w tag),
      (.absent, .visitEndAbsent n v a w tag)])
    (hx : actionSet? a = some x) :
    ∃ t, s.Replies c .turner t ⟨.ok, []⟩ ∧ t = { (s.visitOutcome u e x (weightValue w) tag).releaseVisit u with
      dispatcher := t.dispatcher } := by
  refine ⟨s.endVisit n u e x (weightValue w) tag, State.replies_of_robot (exec_visitEnd hc s) hf
    ((State.ownVisitEnd_passed ho hu hpass hx).trans rfl), ?_⟩
  apply State.ext <;> simp [State.endVisit]

theorem actionSet?_of_passed {o : Order} {u : Visit} {e : VisitOutcome} {a tag : Nat}
    (h : endRefusal o (some u) e a tag = none) : ∃ x, actionSet? a = some x :=
  Option.ne_none_iff_exists'.1 (endRefusal_none h).1

/-! ## Work (R094) -/

theorem WheelRecord.weighed_weightValue (r : WheelRecord) (w : Nat) : r.weighed (weightValue w) = { r with
    lastWeight := if w = 65535 then r.lastWeight else some w
    intakeWeight := if w = 65535 ∨ r.intakeWeight ≠ none then r.intakeWeight else some w } := by
  by_cases hw : w = 65535
  · subst hw
    rfl
  · rw [weightValue, if_neg hw, WheelRecord.weighed, if_neg hw]
    cases hi : r.intakeWeight <;> simp [hw]

/-- A visit that is no move leaves the queue as it is. -/
theorem State.relocations_releaseVisit_of_stay (s : State) {u : Visit} (h : u.dest = none) :
    (s.releaseVisit u).relocations = s.relocations := by
  rw [State.relocations_releaseVisit]
  refine (List.map_congr_left fun q _ => if_neg fun hq => hq.2 h).trans (List.map_id _)

theorem State.record?_clearOverdueOn (s : State) (i j : Nat) (a : ActionSet) :
    (s.clearOverdueOn i a).record? j = if j = i
      then (s.record? i).map fun r => { r with overdue := if a.turn = true then false else r.overdue }
      else s.record? j := by
  unfold State.clearOverdueOn
  split
  · rw [State.record?_setOverdue]
  · split
    · next hj => rw [hj]; exact Option.map_id'.symm
    · rfl

theorem State.attention_workDone (s : State) (i : Nat) (a : ActionSet) (w : Option Nat) :
    (s.workDone i a w).attention = s.attention := by
  rw [State.workDone, (State.updRecord_fields _ _ _).2.2.2.2.2.2.2.2.2.2.2.1, State.clearOverdueOn]
  split
  · exact State.attention_setOverdue_false s i
  · rfl

theorem State.overdueCount_workDone {s : State} {i : Nat} {r : WheelRecord} (hr : s.record? i = some r) (a : ActionSet)
    (w : Option Nat) : (s.workDone i a w).registry.overdueCount =
      if a.turn = true ∧ r.overdue = true then s.registry.overdueCount - 1 else s.registry.overdueCount := by
  rw [State.workDone, (State.updRecord_tables _ _ _).2.2, State.clearOverdueOn]
  by_cases hturn : a.turn = true
  · rw [if_pos hturn, State.overdueCount_setOverdue hr]
    simp [hturn]
  · simp [hturn]

theorem State.record?_workDone {s : State} {i : Nat} {r : WheelRecord} (hr : s.record? i = some r) (a : ActionSet)
    (w : Option Nat) (j : Nat) : (s.workDone i a w).record? j = if j = i
      then some ((WheelRecord.worked { r with overdue := if a.turn = true then false else r.overdue }
        s.clock.minutes a).weighed w)
      else s.record? j := by
  rw [State.workDone, State.record?_updRecord, State.record?_clearOverdueOn, State.record?_clearOverdueOn]
  split
  · rw [if_pos rfl, hr]
    rfl
  · rfl

/-! ## Moves (R096, R098) -/

theorem State.relocationOf?_congr {s t : State} (h : t.relocations = s.relocations) (g : Nat) :
    t.relocationOf? g = s.relocationOf? g := by
  rw [State.relocationOf?, h]
  rfl

/-- The queue lists the wheel's relocation as before until the move is ended. -/
theorem State.relocationOf?_moved (s : State) (i p h : Nat) :
    (((s.moveRecord i (some p)).reach p).removeHold i .blockedSlot).relocationOf? h = s.relocationOf? h :=
  State.relocationOf?_congr (by simp) h

theorem State.record?_moveDone {s : State} {h d : Nat} {r : WheelRecord} {q : Relocation}
    (hr : s.record? (handleIndex h) = some r) (hq : s.relocationOf? h = some q) (w : Option Nat) (j : Nat) :
    (s.moveDone h d w).record? j = if j = handleIndex h
      then some (WheelRecord.weighed { r with
        location := some d, relocationPending := false, holds := { r.holds with blockedSlot := false } } w)
      else s.record? j := by
  simp only [State.moveDone, State.record?_updRecord, State.record?_endRelocation, State.relocationOf?_moved, hq]
  by_cases hj : j = handleIndex h
  · simp [hj, hr, Holds.put]
  · simp [hj]

theorem State.slot_moveDone {s : State} {h d p0 : Nat} {r : WheelRecord} {q : Relocation}
    (hr : s.record? (handleIndex h) = some r) (hloc : r.location = some p0) (hq : s.relocationOf? h = some q)
    (hqd : q.dest = d) (hne : p0 ≠ d) (w : Option Nat) (p : Nat) :
    (s.moveDone h d w).slot p =
      if p = d then { s.slot d with occupant := some (handleIndex h), reserved := false, count := 0 }
      else if p = p0 then { s.slot p0 with occupant := none }
      else s.slot p := by
  simp only [State.moveDone, State.updRecord_views, State.slot_endRelocation, State.relocationOf?_moved, hq,
    State.removeHold_views, State.slot_reach, State.slot_moveRecord, hr, Option.map_some, Option.bind_some, hloc, hqd,
    Option.some.injEq]
  by_cases hd : p = d
  · subst hd
    simp
  · by_cases h0 : p = p0
    · subst h0
      simp [hd, Ne.symm hd]
    · simp [hd, h0, Ne.symm hd, Ne.symm h0]

theorem State.relocations_moveDone (s : State) (h p : Nat) (w : Option Nat) :
    (s.moveDone h p w).relocations = s.relocations.filter fun q => decide (q.wheel ≠ h) := by
  simp [State.moveDone]

/-- A queue without the visit's wheel stays as it is when the visit is released. -/
theorem State.relocations_releaseVisit_of_gone {s : State} {u : Visit} {h : Nat} (hw : u.wheel = some h)
    (hgone : ∀ q ∈ s.relocations, q.wheel ≠ h) : (s.releaseVisit u).relocations = s.relocations := by
  rw [State.relocations_releaseVisit]
  refine (List.map_congr_left fun q hq => if_neg fun hrel => hgone q hq ?_).trans (List.map_id _)
  exact (Option.some.inj (hw.symm.trans hrel.1)).symm

/-- Settles O46: work written to the record, a move written to the record and its slots, and a wheel in hand doubted. -/
theorem workAndMovesAreRecorded : Obligations.WorkAndMovesAreRecorded := by
  refine ⟨fun s n v a w tag o u h r x hf ho hu hpass hx hw hd hr => ?worked,
    fun s n v a w tag o u h d r q hf ho hu hpass hw hd hr hloc hne hq hqd => ?moved,
    fun s n v a w tag o u h r hf ho hu hpass hw hr => ?aborted⟩
  case worked =>
    obtain ⟨t, hreply, hframe⟩ := State.replies_visitEnd (w := w) (c := .visitEndDone n v a w tag) hf ho hu hpass
      (by simp) hx
    have houtcome : s.visitOutcome u .done x (weightValue w) tag = s.workDone (handleIndex h) x (weightValue w) := by
      rw [State.visitOutcome, State.visitDone, hw, hd]
    rw [houtcome] at hframe
    have hrecord : ∀ j, t.record? j = ((s.workDone (handleIndex h) x (weightValue w)).releaseVisit u).record? j :=
      fun j => by rw [hframe]; rfl
    simp only [State.record?_releaseVisit, State.record?_workDone hr, hw, Option.map_some, Option.some.injEq] at hrecord
    refine ⟨t, _, hreply, ?_, (hrecord _).trans ((if_pos rfl).trans (by rw [if_pos rfl, Option.map_some])),
      fun j hj => (hrecord j).trans (by rw [if_neg (Ne.symm hj), if_neg hj]), ?_, ?_⟩
    · rw [hframe]
      apply State.ext
      case relocations => exact (State.relocations_releaseVisit_of_stay _ hd).trans (by simp)
      all_goals simp [State.attention_workDone]
    · rw [WheelRecord.weighed_weightValue]
      rfl
    · rw [hframe]
      exact (State.releaseVisit_tables _ u).2.2.1.trans (State.overdueCount_workDone hr x _)
  case moved =>
    obtain ⟨x, hx⟩ := actionSet?_of_passed hpass
    obtain ⟨t, hreply, hframe⟩ := State.replies_visitEnd (w := w) (c := .visitEndDone n v a w tag) hf ho hu hpass
      (by simp) hx
    have houtcome : s.visitOutcome u .done x (weightValue w) tag = s.moveDone h d (weightValue w) := by
      rw [State.visitOutcome, State.visitDone, hw, hd]
    rw [houtcome] at hframe
    have hrecord : ∀ j, t.record? j = ((s.moveDone h d (weightValue w)).releaseVisit u).record? j :=
      fun j => by rw [hframe]; rfl
    have hslot : ∀ p, t.slot p = ((s.moveDone h d (weightValue w)).releaseVisit u).slot p :=
      fun p => by rw [hframe]; rfl
    simp only [State.record?_releaseVisit, State.record?_moveDone hr hq, hw, Option.map_some, Option.some.injEq] at hrecord
    simp only [State.slot_releaseVisit, State.slot_moveDone hr hloc hq hqd hne, hd, Option.some.injEq] at hslot
    refine ⟨t, hreply, ?_, ?_, ?_, fun p hp hp' => ?_,
      fun j hj => (hrecord j).trans (by rw [if_neg (Ne.symm hj), if_neg hj]), ?_⟩
    · rw [hrecord, if_pos rfl, if_pos rfl, Option.map_some, WheelRecord.weighed_weightValue]
    · rw [hslot, if_pos (.inl rfl), if_neg hne, if_pos rfl]
    · rw [hslot, if_pos (.inr rfl), if_pos rfl]
    · rw [hslot, if_neg (not_or.2 ⟨hp, Ne.symm hp'⟩), if_neg hp', if_neg hp]
    · rw [hframe]
      have hended := s.relocations_moveDone h d (weightValue w)
      refine (State.relocations_releaseVisit_of_gone hw fun y hy => ?_).trans hended
      rw [hended] at hy
      exact of_decide_eq_true (List.mem_filter.1 hy).2
  case aborted =>
    obtain ⟨x, hx⟩ := actionSet?_of_passed hpass
    obtain ⟨t, hreply, hframe⟩ := State.replies_visitEnd (w := w) (c := .visitEndAborted n v a w tag) hf ho hu hpass
      (by simp) hx
    rw [show s.visitOutcome u .aborted x (weightValue w) tag = s.doubtVisit u from rfl] at hframe
    obtain ⟨hdoubted, -, hqueue, hattention⟩ := State.doubtVisit_effect hw hr
    have hreleased := hdoubted.trans (State.recordBecomes_releaseVisit hw hdoubted.1)
    obtain ⟨hrec, hothers, hreg⟩ := hreleased
    refine ⟨t, hreply, ?_, ⟨?_, fun j hj => ?_, ?_⟩, ?_, ?_⟩
    · rw [hframe]
      apply State.ext <;> simp
    · rw [hframe]
      exact hrec
    · rw [hframe]
      exact hothers j hj
    · rw [hframe]
      exact hreg
    · rw [hframe]
      show ((s.doubtVisit u).releaseVisit u).relocations = _
      rw [State.relocations_releaseVisit, hqueue, hw]
      simp only [Option.some.injEq, eq_comm]
    · rw [hframe]
      show ((s.doubtVisit u).releaseVisit u).attention = _
      rw [(State.releaseVisit_fields _ u).2.2.2.2.2.2.2.2.2.1, hattention]

end Sys2Proof.Machine

/-! SUPPORT. Outcomes at their slots, and the relocation queue; O47 and O48. -/

namespace Sys2Proof.Machine

/-! ## Failed reaches (R097) -/

theorem State.unreachable_of_lt {s : State} {p : Nat} (h : (s.slot p).count < 2) :
    s.unreachable p = s.updSlot p fun v => { v with count := v.count + 1 } := by
  unfold State.unreachable State.updSlot
  exact if_pos (Nat.succ_lt_succ h)

/-- The slot blocked by its third failed reach, before its wheel is held. -/
def State.blocked (s : State) (p : Nat) : State :=
  s.updSlot p fun v => { v with count := 3, condition := .blocked }

theorem State.unreachable_of_ge {s : State} {p : Nat} (h : 2 ≤ (s.slot p).count) : s.unreachable p =
    State.latch (((s.slot p).occupant.map fun i => (s.blocked p).addHold i .blockedSlot).getD (s.blocked p))
      .slotBlocked := by
  have hshape : s.unreachable p = State.latch (match ((s.blocked p).slot p).occupant with
      | none => s.blocked p
      | some i => (s.blocked p).addHold i .blockedSlot) .slotBlocked :=
    if_neg (Nat.not_lt.2 (Nat.succ_le_succ h))
  have hoccupant : ((s.blocked p).slot p).occupant = (s.slot p).occupant := by simp [State.blocked]
  rw [hshape, hoccupant]
  cases (s.slot p).occupant <;> rfl

theorem State.slot_blocked (s : State) (p q : Nat) : (s.blocked p).slot q =
    if q = p then { s.slot p with count := 3, condition := .blocked } else s.slot q := by
  simp [State.blocked]

/-- Settles O47: the failed reaches of a slot, and the outcome each end of a visit records. -/
theorem outcomesReachTheirSlot : Obligations.OutcomesReachTheirSlot := by
  refine ⟨fun s p => ⟨State.unreachable_of_lt, fun h => ⟨_, rfl, ?_⟩⟩, fun s v a w tag =>
    ⟨rfl, fun d hd => ?destination, rfl, fun hw => ⟨_, rfl, ?count, ?scan⟩⟩⟩
  · rw [State.unreachable_of_ge h]
    refine ⟨⟨?slot, fun q hq => ?others, ?shelf⟩, ?attention, fun hnone => ?empty, fun i r hi hr hfree => ?held⟩
    case slot => cases (s.slot p).occupant <;> simp [State.slot_blocked]
    case others => cases (s.slot p).occupant <;> simp [State.slot_blocked, hq]
    case shelf => cases (s.slot p).occupant <;> exact ShelfMap.eq_of_slots (by simp [State.blocked]) (by simp [State.blocked])
    case attention =>
      cases (s.slot p).occupant
      · rfl
      · simp [State.latch, State.blocked, AttentionKind.bit]
    case empty =>
      rw [hnone]
      exact ⟨rfl, rfl⟩
    case held =>
      rw [hi]
      have hblocked : (s.blocked p).record? i = some r := hr
      refine ⟨RecordBecomes.of_reads (fun j => ?_) (by simp [State.blocked]) (by simp [State.blocked])
        (by simp [State.blocked]), ?_⟩
      · by_cases hj : j = i <;> simp [hj, hr, Holds.put, State.blocked]
      · exact (State.candidates_addHold hblocked .blockedSlot).trans (if_neg (by simp [Holds.has, hfree]))
  case destination =>
    rw [State.visitOutcome, hd]
  case count =>
    simp [State.visitOutcome, State.visitDone, hw]
  case scan =>
    rw [State.visitOutcome, State.visitDone, hw]
    rfl

/-! ## RELOCATE and UNRELOCATE (R110, R114) -/

theorem State.relocateRefusal_of_rack_zero {s : State} {i : Nat} {r : WheelRecord} {l : LSlot} (hl : l.rack = 0) :
    s.relocateRefusal i r l = some .badField := if_pos (decide_eq_true hl)

/-- The checks of a relocation to a named slot, in order. -/
theorem State.relocateRefusal_eq {s : State} {i : Nat} {r : WheelRecord} {l : LSlot} (hl : l.rack ≠ 0) :
    s.relocateRefusal i r l =
      if s.held i r = true then some .busy
      else if r.relocationPending = true then some .duplicate
      else if 8 ≤ s.relocations.length then some .full
      else s.placeRefusal none l :=
  if_neg (by rw [isNone_of_rack_ne hl]; exact Bool.false_ne_true)

theorem State.relocate_refused {s : State} {h i : Nat} {r : WheelRecord} {l : LSlot} {st : Status}
    (hf : s.free .registry = true) (hn : s.named? h = some i) (hr : s.record? i = some r)
    (hst : s.relocateRefusal i r l = some st) : s.Replies (.relocate h l) .registry s ⟨st, []⟩ :=
  State.replies_of_named rfl hf hn hr (by simp [hst, State.refuse, Reply.bare])

/-- A destination that takes the wheel is not refused before its slot is looked at. -/
theorem State.relocateRefusal_of_room {s : State} {i : Nat} {r : WheelRecord} {l : LSlot} (hl : l.rack ≠ 0)
    (hheld : s.held i r = false) (hpending : r.relocationPending = false) (hroom : s.relocations.length < 8) :
    s.relocateRefusal i r l = s.placeRefusal none l := by
  rw [State.relocateRefusal_eq hl, if_neg (by simp [hheld]), if_neg (by simp [hpending]), if_neg (Nat.not_le.2 hroom)]

/-- A relocation queued reserves its destination and marks its record. -/
theorem State.queueRelocation_effect {s : State} {i p : Nat} {r : WheelRecord} (hr : s.record? i = some r) :
    s.queueRelocation i p = { s with
      registry := (s.queueRelocation i p).registry, shelf := (s.queueRelocation i p).shelf
      relocations := s.relocations ++ [⟨s.handleOf i, p, .queued⟩] } ∧
    SlotBecomes s (s.queueRelocation i p) p { s.slot p with reserved := true } ∧
    RecordBecomes s (s.queueRelocation i p) i { r with relocationPending := true } := by
  have hrecords : ∀ j, (s.queueRelocation i p).record? j =
      if j = i then (s.record? i).map fun r => { r with relocationPending := true } else s.record? j := fun j =>
    State.record?_updRecord _ i j _
  have hslots : ∀ q, (s.queueRelocation i p).slot q =
      if q = p then { s.slot p with reserved := true } else s.slot q := fun q => by
    rw [State.queueRelocation, (State.updRecord_views _ _ _ _).2.2.2.2.1, State.slot_updSlot]
    rfl
  refine ⟨?_, ⟨by rw [hslots, if_pos rfl], fun q hq => by rw [hslots, if_neg hq], ?_⟩,
    RecordBecomes.of_reads (fun j => by rw [hrecords, hr]; rfl) ?_ ?_ ?_⟩
  · apply State.ext <;> simp [State.queueRelocation]
  · exact ShelfMap.eq_of_slots (by simp [State.queueRelocation]) (by simp [State.queueRelocation])
  all_goals simp [State.queueRelocation]

/-- A relocation ended frees its destination and its record. -/
theorem State.endRelocation_effect {s : State} {h : Nat} {r : WheelRecord} {q : Relocation}
    (hr : s.record? (handleIndex h) = some r) (hq : s.relocationOf? h = some q) :
    s.endRelocation h = { s with
      registry := (s.endRelocation h).registry, shelf := (s.endRelocation h).shelf
      relocations := s.relocations.filter fun x => decide (x.wheel ≠ h) } ∧
    SlotBecomes s (s.endRelocation h) q.dest { s.slot q.dest with reserved := false } ∧
    RecordBecomes s (s.endRelocation h) (handleIndex h) { r with relocationPending := false } := by
  have hrecords := fun j => State.record?_endRelocation s h j
  have hslots := fun p => State.slot_endRelocation s h p
  simp only [hq, ne_eq, reduceCtorEq, not_false_eq_true, and_true, Option.map_some, Option.some.injEq] at hrecords hslots
  refine ⟨?_, ⟨by rw [hslots, if_pos rfl], fun p hp => by rw [hslots, if_neg (Ne.symm hp)], ?_⟩,
    RecordBecomes.of_reads (fun j => ?_) (by simp) (by simp) (by simp)⟩
  · apply State.ext <;> simp
  · exact ShelfMap.eq_of_slots (by simp) (by simp)
  · by_cases hj : j = handleIndex h
    · rw [hrecords, if_pos hj, if_pos hj, hj, hr, Option.map_some]
    · rw [hrecords, if_neg hj, if_neg hj]

/-! ## READ_RELOCATIONS (R116) -/

theorem State.length_encodeRelocation (s : State) (k : Nat) (q : Relocation) :
    (s.encodeRelocation k q).length = 7 := by
  simp [State.encodeRelocation, beLSlot]

/-- Items of one length stand in their reply one behind the other. -/
theorem drop_take_flatMap {α β : Type} {g : α → List β} {c : Nat} (l : List α) (hc : ∀ x ∈ l, (g x).length = c)
    (k : Nat) {x : α} (hx : l[k]? = some x) : ((l.flatMap g).drop (c * k)).take c = g x := by
  induction l generalizing k with
  | nil => cases hx
  | cons y rest ih =>
    have hy : (g y).length = c := hc y List.mem_cons_self
    cases k with
    | zero =>
      obtain rfl : y = x := Option.some.inj hx
      rw [List.flatMap_cons, Nat.mul_zero, List.drop_zero, ← hy, List.take_left']
      rfl
    | succ k =>
      rw [List.flatMap_cons, Nat.mul_succ, Nat.add_comm, ← List.drop_drop, List.drop_left' hy]
      exact ih (fun z hz => hc z (List.mem_cons_of_mem y hz)) k hx

/-- Settles O48: a relocation queued, ended and read, and what refuses it, in order. -/
theorem relocationsJoinAndLeaveTheQueue : Obligations.RelocationsJoinAndLeaveTheQueue := by
  refine ⟨fun s h i r l hf hn hr => ⟨fun hl => ?nowhere, fun hl hheld => ?held, fun hl hheld hpend => ?pending,
    fun hl hheld hpend => ⟨fun hfull => ?full, fun hroom => ⟨fun hp => ?offMap, fun p hp =>
      ⟨fun hb => ?blocked, fun ho => ⟨fun ht => ?taken, fun hempty hres heng => ?engaged⟩⟩⟩⟩⟩,
    fun s h i p r l hf hn hr hpass hp => ?queued,
    fun s h i r hf hn hr => ⟨fun hq => ?none, fun q hq hst => ?issued, fun q hq hst => ?ended⟩,
    fun s hf => ⟨_, State.replies_of_owner rfl hf rfl, ?count, ?length, fun k q hq => ?entry⟩⟩
  case nowhere => exact State.relocate_refused hf hn hr (State.relocateRefusal_of_rack_zero hl)
  case held => exact State.relocate_refused hf hn hr ((State.relocateRefusal_eq hl).trans (if_pos hheld))
  case pending =>
    refine State.relocate_refused hf hn hr ((State.relocateRefusal_eq hl).trans ?_)
    rw [if_neg (by simp [hheld]), if_pos hpend]
  case full =>
    refine State.relocate_refused hf hn hr ((State.relocateRefusal_eq hl).trans ?_)
    rw [if_neg (by simp [hheld]), if_neg (by simp [hpend]), if_pos hfull]
  case offMap =>
    exact State.relocate_refused hf hn hr ((State.relocateRefusal_of_room hl hheld hpend hroom).trans
      (State.placeRefusal_of_off_map hl hp))
  case blocked =>
    exact State.relocate_refused hf hn hr ((State.relocateRefusal_of_room hl hheld hpend hroom).trans
      ((State.placeRefusal_of_physical hl hp).trans (if_pos hb)))
  case taken =>
    refine State.relocate_refused hf hn hr ((State.relocateRefusal_of_room hl hheld hpend hroom).trans
      ((State.placeRefusal_of_physical hl hp).trans ?_))
    rw [if_neg (by rw [ho]; exact nofun), if_pos ht]
  case engaged =>
    refine State.relocate_refused hf hn hr ((State.relocateRefusal_of_room hl hheld hpend hroom).trans
      ((State.placeRefusal_of_physical hl hp).trans ?_))
    rw [if_neg (by rw [ho]; exact nofun), if_neg (by simp [hempty, hres]), if_pos heng]
  case queued =>
    obtain ⟨hframe, hslot, hrecord⟩ := State.queueRelocation_effect (p := p) hr
    have hqueue := congrArg State.relocations hframe
    refine ⟨s.queueRelocation i p, State.replies_of_named rfl hf hn hr ?_, ?_, ?_, hslot, hrecord⟩
    · rw [hpass, hp, ← be_one]
      rfl
    · rw [hqueue]
      exact hframe
    · rw [hqueue, State.handleOf_named hn]
  case none => exact State.replies_of_named rfl hf hn hr (by simp [hq, State.refuse, Reply.bare])
  case issued => exact State.replies_of_named rfl hf hn hr (by simp [hq, hst, State.refuse, Reply.bare])
  case ended =>
    obtain ⟨hi, -⟩ := State.named?_eq_some.1 hn
    subst hi
    obtain ⟨hframe, hslot, hrecord⟩ := State.endRelocation_effect hr hq
    refine ⟨s.endRelocation h, State.replies_of_named rfl hf hn hr (by simp [hq, hst, State.done, Reply.ok]), ?_,
      s.relocations_endRelocation h, hslot, hrecord⟩
    rw [s.relocations_endRelocation h]
    exact hframe
  case count =>
    rw [be_one]
    rfl
  case length =>
    rw [List.length_append, length_be, List.length_flatMap]
    simp [State.length_encodeRelocation, Nat.mul_comm]
  case entry =>
    have hentry : s.relocations.zipIdx[k]? = some (q, k) := by simp [hq]
    rw [← List.drop_drop, List.drop_left' (length_be 1 _)]
    exact drop_take_flatMap _ (fun x _ => s.length_encodeRelocation _ _) k hentry

end Sys2Proof.Machine

/-! SUPPORT. The census batch, the directed racks and the census as it is read; O49. -/

namespace Sys2Proof.Machine

/-! ## A batch is of one rack (R120 to R123) -/

/-- The review batch, whatever the table of slots: eligible slots of one rack. -/
theorem State.reviewBatch_oneRack (s : State) : s.reviewBatch.length ≤ 8 ∧
    (∀ p ∈ s.reviewBatch, s.scanEligible p = true) ∧
    ∀ p ∈ s.reviewBatch, ∀ q ∈ s.reviewBatch, slotRack p = slotRack q := by
  cases hl : s.flaggedSlots.filter s.scanEligible with
  | nil =>
    rw [State.reviewBatch_nil hl]
    exact ⟨Nat.zero_le 8, nofun, nofun⟩
  | cons p rest =>
    rw [State.reviewBatch_cons hl, ← hl]
    have hrack : ∀ q ∈ (((s.flaggedSlots.filter s.scanEligible).filter fun q => decide (slotRack q = slotRack p)).take 8),
        slotRack q = slotRack p := fun q hq => of_decide_eq_true (List.mem_filter.1 (List.mem_of_mem_take hq)).2
    refine ⟨List.length_take_le _ _, fun q hq => ?_, fun q hq x hx => (hrack q hq).trans (hrack x hx).symm⟩
    exact (List.mem_filter.1 (List.mem_filter.1 (List.mem_of_mem_take hq)).1).2

theorem State.censusTake_oneRack (s : State) : s.censusTake.1.length ≤ 8 ∧
    (∀ p ∈ s.censusTake.1, s.scanEligible p = true) ∧
    ∀ p ∈ s.censusTake.1, ∀ q ∈ s.censusTake.1, slotRack p = slotRack q := by
  have hofBatch : ∀ {l}, s.CensusBatch l → l.length ≤ 8 ∧ (∀ p ∈ l, s.scanEligible p = true) ∧
      ∀ p ∈ l, ∀ q ∈ l, slotRack p = slotRack q := fun h => ⟨h.few, h.eligible, h.rack⟩
  unfold State.censusTake
  split
  · exact s.reviewBatch_oneRack
  · dsimp only
    split
    · exact hofBatch (s.censusBatch_directedTake _)
    · split
      · exact hofBatch s.censusBatch_cursor
      · exact hofBatch (CensusBatch.nil s)

theorem State.scanEligible_iff (s : State) (p : Nat) : s.scanEligible p = true ↔
    s.onMap p = true ∧ (s.slot p).condition = .opened ∧ (s.slot p).engaged = false := by
  simp [State.scanEligible, State.usable, and_assoc]

/-- The directed step yields nothing when no entry's walk collects a slot. -/
theorem State.directedTake_eq_nil (s : State) (l : List DirectedRack) : (s.directedTake l).1 = [] ↔
    ∀ d ∈ l, s.directedBatch d = [] := by
  induction l with
  | nil => simp [State.directedTake]
  | cons d rest ih =>
    rw [State.directedTake]
    by_cases hd : s.directedBatch d = []
    · rw [if_pos hd, ih]
      simp [hd]
    · simp [hd]

/-- Nothing is taken when no step has anything to take. -/
theorem State.censusTake_eq_nil (s : State) : s.censusTake.1 = [] ↔ s.censusTried = false := by
  have htried : s.censusTried = false ↔
      s.reviewBatch = [] ∧ (s.directedTake s.census.directed).1 = [] ∧ s.cursorBatch = [] := by
    rw [s.directedTake_eq_nil]
    simp [State.censusTried, and_assoc]
  rw [htried]
  unfold State.censusTake
  by_cases hr : s.reviewBatch = []
  · by_cases hd : (s.directedTake s.census.directed).1 = []
    · by_cases hc : s.cursorBatch = [] <;> simp [hr, hd, hc]
    · simp [hr, hd]
  · simp [hr]

/-! ## The directed step and the cursor step, taken (R122, R123) -/

theorem ne_nil_of_getLast? {α : Type} {l : List α} {x : α} (h : l.getLast? = some x) : l ≠ [] := by
  rintro rfl
  cases h

/-- The first directed rack that yields a batch, and what stays of it. -/
theorem State.censusTake_directed {s : State} {pre rest : List DirectedRack} {d : DirectedRack}
    (hreview : s.reviewBatch = []) (hlist : s.census.directed = pre ++ d :: rest)
    (hpre : ∀ e ∈ pre, s.directedBatch e = []) (hd : s.directedBatch d ≠ []) : s.censusTake =
      (s.directedBatch d, ⟨s.census.cursor, (s.directedAfter d (s.directedBatch d)).toList ++ rest⟩) := by
  have htake : s.directedTake s.census.directed =
      (s.directedBatch d, (s.directedAfter d (s.directedBatch d)).toList ++ rest) := by
    rw [hlist, State.directedTake_append _ hpre, State.directedTake_cons rest hd]
  rw [State.censusTake_of_directed hreview (by rw [htake]; exact hd), htake]

theorem State.directedAfter_eq (s : State) (d : DirectedRack) {batch : List Nat} {last : Nat}
    (hlast : batch.getLast? = some last) : s.directedAfter d batch =
      if batch.length < 8 ∨ ((s.rackRecord d.rack).columns - 1) * 8 + ((s.rackRecord d.rack).levels - 1) < last % 256 + 1
      then none else some ⟨d.rack, last % 256 + 1⟩ := by
  unfold State.directedAfter
  rw [hlast]
  rfl

/-- The cursor after a batch that stands in the rack of its first slot. -/
theorem cursorAfter_eq {pass : Nat → Bool} {p last : Nat} {batch : List Nat}
    (hb : batch = ((List.range' p (256 - p % 256)).filter pass).take 8) (hlast : batch.getLast? = some last) :
    cursorAfter batch = if batch.length = 8 then (last + 1) % 4096 else (slotRack p + 1) * 256 % 4096 := by
  have hfew : batch.length ≤ 8 := by
    rw [hb]
    exact List.length_take_le _ _
  have hmem : last ∈ List.range' p (256 - p % 256) := by
    have hin := List.mem_of_getLast? hlast
    rw [hb] at hin
    exact (List.mem_filter.1 (List.mem_of_mem_take hin)).1
  have hrack : slotRack last = slotRack p := by
    obtain ⟨hlow, hhigh⟩ := List.mem_range'_1.1 hmem
    unfold slotRack
    omega
  unfold cursorAfter
  rw [hlast]
  show (if batch.length < 8 then (slotRack last + 1) * 256 % 4096 else (last + 1) % 4096) = _
  rw [hrack]
  by_cases h8 : batch.length = 8
  · rw [if_neg (by omega), if_pos h8]
  · rw [if_pos (by omega), if_neg h8]

theorem State.cursorBatch_of_none {s : State} (h : firstFrom s.scanEligible Config.slotCount s.census.cursor = none) :
    s.cursorBatch = [] := by
  unfold State.cursorBatch
  rw [h]

/-! ## CENSUS_RACK and READ_CENSUS (R124, R125) -/

/-- CENSUS_RACK of a rack on the map: listed once, while the list has room. -/
theorem State.replies_censusRack_mapped {s t : State} {n p : Nat} {a : Reply} (hf : s.free .registry = true)
    (h1 : 1 ≤ n) (h16 : n ≤ 16) (hp : s.rackNumbered? n = some p)
    (h : (if (s.census.directed.any fun d => decide (d.rack = p)) = true then s.refuse .duplicate
      else if 4 ≤ s.census.directed.length then s.refuse .full
      else ({ s with census := ⟨s.census.cursor, s.census.directed ++ [⟨p, 0⟩]⟩ },
        Reply.ok [BitVec.ofNat 8 (s.census.directed.length + 1)])) = (t, a)) :
    s.Replies (.censusRack n) .registry t a := by
  refine State.replies_of_owner rfl hf ((if_neg (by omega)).trans ((if_neg (by omega)).trans ?_))
  rw [hp, ← h, ← be_one]

theorem State.encodeDirected_eq (s : State) (d : DirectedRack) : s.encodeDirected d =
    [BitVec.ofNat 8 d.rack, BitVec.ofNat 8 ((s.rackRecord d.rack).logical.getD 255), BitVec.ofNat 8 (d.walk / 8),
      BitVec.ofNat 8 (d.walk % 8)] := by
  simp [State.encodeDirected, be_one, Config.byteAll]

/-- Settles O49: a census batch is of one rack; each step of the census in closed form; the directed racks and the
census as they are read. -/
theorem theCensusYieldsOneRackAtATime : Obligations.TheCensusYieldsOneRackAtATime := by
  refine ⟨fun s => ?batch, fun s p rest h => ?review, fun s walk hflagged hwalk => ?walks,
    fun s n hf => ⟨?emptied, ?zero, fun h16 => ?badField, fun h1 h16 hn => ?unmapped, fun p h1 h16 hp =>
      ⟨fun hdup => ?duplicate, fun hnew hfull => ?full, fun hnew hroom => ?added⟩⟩, fun s hf => ?read⟩
  case batch =>
    obtain ⟨hfew, heligible, hrack⟩ := s.censusTake_oneRack
    refine ⟨hfew, heligible, hrack, s.scanEligible_iff, s.censusTake_eq_nil, fun hcanonical => ?_⟩
    have hslots := State.slots_ordered hcanonical
    exact ⟨State.flaggedSlots_pairwise hslots, State.mem_flaggedSlots hslots⟩
  case review =>
    have hbatch := State.reviewBatch_cons h
    rw [State.censusTake_of_review (by rw [hbatch]; simp), hbatch]
  case walks =>
    have hreview := State.reviewBatch_nil hflagged
    obtain rfl : walk = s.directedBatch := funext fun d => (hwalk d).trans (s.directedBatch_eq d).symm
    refine ⟨fun pre d rest last hlist hpre hlast r hr => ?_, fun hnone hcursor => ⟨?_, fun hempty => ?_⟩⟩
    · have htake := State.censusTake_directed hreview hlist hpre (ne_nil_of_getLast? hlast)
      rw [s.directedAfter_eq d hlast, ← hr] at htake
      refine ⟨fun hout => ?_, fun h8 hin => ?_⟩
      · rw [htake, if_pos hout]
        rfl
      · rw [htake, if_neg (not_or.2 ⟨by omega, Nat.not_lt.2 hin⟩)]
        rfl
    · intro k p batch last hk hp heligible hfirst hbatch hlast
      have hfound : firstFrom s.scanEligible Config.slotCount s.census.cursor = some p := by
        rw [hp]
        exact firstFrom_eq_some hcursor hk (hp ▸ heligible) hfirst
      have htaken : s.cursorBatch = batch := (State.cursorBatch_eq hfound).trans hbatch.symm
      rw [State.censusTake_of_cursor hreview (State.directedTake_nil hnone), htaken,
        if_pos (ne_nil_of_getLast? hlast), cursorAfter_eq hbatch hlast]
    · have hnothing := State.cursorBatch_of_none (firstFrom_eq_none (fuel := Config.slotCount) hcursor hempty)
      rw [State.censusTake_of_cursor hreview (State.directedTake_nil hnone), hnothing]
      rfl
  case emptied => exact State.replies_of_owner rfl hf rfl
  case zero => exact State.replies_of_owner rfl hf rfl
  case badField => exact State.replies_of_owner rfl hf ((if_neg (by omega)).trans (if_pos h16))
  case unmapped =>
    refine State.replies_of_owner rfl hf ((if_neg (by omega)).trans ((if_neg (by omega)).trans ?_))
    rw [hn]
    rfl
  case duplicate => exact State.replies_censusRack_mapped hf h1 h16 hp (if_pos (by simpa using hdup))
  case full =>
    exact State.replies_censusRack_mapped hf h1 h16 hp ((if_neg (by simpa using hnew)).trans (if_pos hfull))
  case added =>
    exact State.replies_censusRack_mapped hf h1 h16 hp ((if_neg (by simpa using hnew)).trans (if_neg (by omega)))
  case read =>
    have hdirected : s.encodeDirected = fun d => _ := funext s.encodeDirected_eq
    refine State.replies_of_owner rfl hf ?_
    rw [hdirected]
    simp [State.report, Reply.ok, bePhysical, be_one, beBool]

end Sys2Proof.Machine

/-! SUPPORT. Reports judged by the map, and what a comparison confirms or enters; O50 and O51. -/

namespace Sys2Proof.Machine

/-! ## The finding of a report (R129) -/

theorem State.occupantRecord?_of_occupied {s : State} {p i : Nat} {r : WheelRecord}
    (ho : (s.slot p).occupant = some i) (hr : s.record? i = some r) : s.occupantRecord? p = some (i, r) := by
  rw [State.occupantRecord?, ho]
  show (s.record? i).map _ = _
  rw [hr, Option.map_some]

theorem State.occupantRecord?_of_empty {s : State} {p : Nat} (ho : (s.slot p).occupant = none) :
    s.occupantRecord? p = none := by
  rw [State.occupantRecord?, ho]

theorem State.findingAt_noWheel_of_occupied {s : State} {p i : Nat} {r : WheelRecord}
    (h : s.occupantRecord? p = some (i, r)) :
    s.findingAt p .noWheel = some ⟨.missing, some (s.handleOf i), none, none⟩ := by
  unfold State.findingAt
  rw [h]

theorem State.findingAt_tag_of_occupied {s : State} {p i : Nat} {r : WheelRecord}
    (h : s.occupantRecord? p = some (i, r)) (t : Nat) : s.findingAt p (.tag t) =
      if t = r.tag then none
      else if t = 0 then some ⟨.unreadable, some (s.handleOf i), some 0, none⟩
      else some (s.strangerFinding (some (s.handleOf i)) t) := by
  unfold State.findingAt
  rw [h]

theorem State.findingAt_noWheel_of_empty {s : State} {p : Nat} (h : s.occupantRecord? p = none) :
    s.findingAt p .noWheel = none := by
  unfold State.findingAt
  rw [h]

theorem State.findingAt_tag_of_empty {s : State} {p : Nat} (h : s.occupantRecord? p = none) (t : Nat) :
    s.findingAt p (.tag t) = if t = 0 then none else some (s.strangerFinding none t) := by
  unfold State.findingAt
  rw [h]

theorem State.strangerFinding_of_listed {s : State} {t j : Nat} (h : s.registry.tagIndex.read? t = some j)
    (x : Option Nat) : s.strangerFinding x t = ⟨.misplaced, x, some t, some (s.handleOf j)⟩ := by
  rw [State.strangerFinding, h]

theorem State.strangerFinding_of_unlisted {s : State} {t : Nat} (h : s.registry.tagIndex.read? t = none)
    (x : Option Nat) : s.strangerFinding x t = ⟨.foreign, x, some t, none⟩ := by
  rw [State.strangerFinding, h]

/-- Settles O50: what a report says of an occupied and of an empty slot, and what holds a wheel. -/
theorem reportsAreJudgedByTheMap : Obligations.ReportsAreJudgedByTheMap := by
  refine ⟨fun s p => ⟨fun i r ho hr => ?occupied, fun ho => ?empty⟩, fun s i r => ⟨?misplaced, ?held⟩⟩
  case occupied =>
    have hrecord := State.occupantRecord?_of_occupied ho hr
    have hfinding := State.findingAt_tag_of_occupied hrecord
    refine ⟨(hfinding r.tag).trans (if_pos rfl), State.findingAt_noWheel_of_occupied hrecord, fun h0 => ?_,
      fun t j h0 ht hj => ?_, fun t h0 ht hj => ?_⟩
    · rw [hfinding, if_neg (Ne.symm h0), if_pos rfl]
    · rw [hfinding, if_neg ht, if_neg h0, State.strangerFinding_of_listed hj]
    · rw [hfinding, if_neg ht, if_neg h0, State.strangerFinding_of_unlisted hj]
  case empty =>
    have hrecord := State.occupantRecord?_of_empty ho
    have hfinding := State.findingAt_tag_of_empty hrecord
    refine ⟨(hfinding 0).trans (if_pos rfl), State.findingAt_noWheel_of_empty hrecord, fun t j h0 hj => ?_,
      fun t h0 hj => ?_⟩
    · rw [hfinding, if_neg h0, State.strangerFinding_of_listed hj]
    · rw [hfinding, if_neg h0, State.strangerFinding_of_unlisted hj]
  case misplaced => simp only [State.misplaced, List.any_eq_true, decide_eq_true_eq]
  case held => simp only [State.held, Holds.any, Bool.or_eq_true, or_assoc]

/-! ## A comparison that confirms (R131) -/

theorem State.compare_of_confirmed {s : State} {p : Nat} {rep : TagReport} (h : s.findingAt p rep = none) :
    s.compare p rep = ((s.updSlot p fun v => { v with review := false }).confirm p, .confirm) := by
  rw [State.compare, h]

theorem State.compare_of_finding {s : State} {p : Nat} {rep : TagReport} {f : Finding}
    (h : s.findingAt p rep = some f) : s.compare p rep =
      ((s.updSlot p fun v => { v with review := false }).enterFinding p f, f.kind.answer) := by
  rw [State.compare, h]

theorem State.dismissEntry_of_some {s : State} {p k : Nat} {e : Discrepancy} (h : s.entryAt? p = some (k, e)) :
    s.dismissEntry p = (s.clearEntry k).releasePairs e.holds := by
  rw [State.dismissEntry, h]

theorem State.dismissEntry_of_none {s : State} {p : Nat} (h : s.entryAt? p = none) : s.dismissEntry p = s := by
  rw [State.dismissEntry, h]

/-- A confirmation takes the slot's entry out of the table and nothing else. -/
theorem State.discrepancies_confirm (s : State) (p : Nat) :
    (s.confirm p).discrepancies = (s.dismissEntry p).discrepancies := by
  unfold State.confirm
  dsimp only
  split <;> simp

theorem State.shelf_confirm (s : State) (p : Nat) :
    (s.confirm p).shelf.racks = s.shelf.racks ∧ (s.confirm p).shelf.windows = s.shelf.windows := by
  unfold State.confirm
  dsimp only
  split <;> simp

/-- The wheel a confirmation finds in its slot is held as missing or unconfirmed no more. -/
theorem State.holds_confirm {s : State} {p i : Nat} {r : WheelRecord} (ho : (s.slot p).occupant = some i)
    (hr : (s.confirm p).record? i = some r) : r.holds.missing = false ∧ r.holds.unconfirmed = false := by
  have hslot : ((s.dismissEntry p).slot p).occupant = some i := by
    rw [State.slot, (State.dismissEntry_fields s p).1]
    exact ho
  have hconfirm : s.confirm p = (((s.dismissEntry p).removeHold i .missing).removeHold i .unconfirmed).updSlot p
      fun v => { v with verified := some s.clock.minutes } := by
    rw [State.confirm, hslot]
  rw [hconfirm, (State.updSlot_views _ _ _ _).2.2.2.2.1, State.record?_removeHold, if_pos rfl, State.record?_removeHold,
    if_pos rfl, Option.map_map, Option.map_eq_some_iff] at hr
  obtain ⟨r0, -, rfl⟩ := hr
  exact ⟨rfl, rfl⟩

/-! ## A comparison that enters a finding (R130) -/

theorem State.candidates_placePair_subset (s : State) (q : Nat × HoldReason) {c : Candidate}
    (h : c ∈ (s.placePair q).candidates) : c ∈ s.candidates := by
  unfold State.placePair at h
  split at h
  · unfold State.addHold at h
    split at h
    · exact h
    · split at h
      · exact h
      · exact (List.mem_filter.1 h).1
  · exact (List.mem_filter.1 h).1

/-- A misplaced wheel is no candidate once its pair is placed. -/
theorem State.candidates_placePairs_misplaced (l : List (Nat × HoldReason)) (s : State) {h : Nat}
    (hh : (h, HoldReason.misplaced) ∈ l ∨ ∀ c ∈ s.candidates, handleIndex c.handle ≠ handleIndex h) :
    ∀ c ∈ (l.foldl State.placePair s).candidates, handleIndex c.handle ≠ handleIndex h := by
  induction l generalizing s with
  | nil => exact hh.resolve_left (List.not_mem_nil)
  | cons x rest ih =>
    refine ih (s.placePair x) ?_
    rcases hh with hh | hh
    · rcases List.mem_cons.1 hh with he | hrest
      · refine .inr fun c hc => ?_
        rw [← he] at hc
        exact of_decide_eq_true (List.mem_filter.1 hc).2
      · exact .inl hrest
    · exact .inr fun c hc => hh c (s.candidates_placePair_subset x hc)

/-- The state with an entry in its place and the pairs of the entry before it released. -/
def State.replaced (s : State) (k : Nat) (e : Discrepancy) (old : Option Discrepancy) : State :=
  ({ s with discrepancies := s.discrepancies.write k e }).releasePairs ((old.map fun o : Discrepancy => o.holds).getD [])

theorem State.writeEntry_eq (s : State) (k : Nat) (e : Discrepancy) (old : Option Discrepancy) :
    s.writeEntry k e old = State.latch (e.holds.foldl State.placePair (s.replaced k e old)) .discrepancy := by
  cases old <;> rfl

/-- What an entry written does to the records of its wheels and of the wheels of the entry before it. -/
theorem State.holds_writeEntry {s : State} {k : Nat} {e : Discrepancy} {old : Option Discrepancy} :
    (∀ h r, (h, HoldReason.missing) ∈ e.holds → (s.writeEntry k e old).record? (handleIndex h) = some r →
      r.holds.missing = true) ∧
    (∀ h, (h, HoldReason.misplaced) ∈ e.holds →
      ∀ c ∈ (s.writeEntry k e old).candidates, handleIndex c.handle ≠ handleIndex h) ∧
    (∀ o h r, old = some o → (h, HoldReason.missing) ∈ o.holds →
      (∀ x ∈ s.discrepancies.write k e, x.2.listsMissing h = false) →
      (∀ g, (g, HoldReason.missing) ∈ e.holds → handleIndex g ≠ handleIndex h) →
      (s.writeEntry k e old).record? (handleIndex h) = some r → r.holds.missing = false) := by
  rw [State.writeEntry_eq]
  refine ⟨fun h r hh hr => ?_, fun h hh => State.candidates_placePairs_misplaced _ _ (.inl hh),
    fun o h r ho hh hfree hother hr => ?_⟩
  · rw [(State.latch_views _ _ _).2.2.2.2.1, State.record?_foldl_placePair, if_pos ⟨h, hh, rfl⟩,
      Option.map_eq_some_iff] at hr
    obtain ⟨r0, -, rfl⟩ := hr
    rfl
  · subst ho
    rw [(State.latch_views _ _ _).2.2.2.2.1, State.record?_foldl_placePair,
      if_neg fun ⟨g, hg, he⟩ => hother g hg he.symm, State.replaced, State.record?_releasePairs,
      if_pos ⟨h, hh, by simpa [List.any_eq_false] using fun a b hab => hfree (a, b) hab, rfl⟩,
      Option.map_eq_some_iff] at hr
    obtain ⟨r0, -, rfl⟩ := hr
    rfl

/-- A finding that finds no room holds its wheel all the same. -/
theorem State.holds_tableFull {s : State} {p h : Nat} {f : Finding} {r : WheelRecord}
    (hh : (h, HoldReason.missing) ∈ f.missingPairs none) (hr : (s.tableFull p f).record? (handleIndex h) = some r) :
    r.holds.missing = true := by
  rw [State.tableFull, (State.latch_views _ _ _).2.2.2.2.1, (State.updSlot_views _ _ _ _).2.2.2.2.1,
    State.record?_foldl_placePair, if_pos ⟨h, hh, rfl⟩, Option.map_eq_some_iff] at hr
  obtain ⟨r0, -, rfl⟩ := hr
  rfl

theorem Finding.misplacedPairs_eq (f : Finding) :
    f.misplacedPairs = (f.seenRecord.map fun h => (h, HoldReason.misplaced)).toList := by
  unfold Finding.misplacedPairs
  cases f.seenRecord <;> rfl

theorem State.enterFinding_of_entry {s : State} {p k : Nat} {f : Finding} {old : Discrepancy}
    (h : s.entryAt? p = some (k, old)) :
    s.enterFinding p f = s.writeEntry k (f.entry p s.clock.minutes (some old)) (some old) := by
  rw [State.enterFinding, h]

theorem State.enterFinding_of_room {s : State} {p k : Nat} {f : Finding} (h : s.entryAt? p = none)
    (hk : s.freePosition? = some k) : s.enterFinding p f = s.writeEntry k (f.entry p s.clock.minutes none) none := by
  rw [State.enterFinding, h, hk]

theorem State.enterFinding_of_full {s : State} {p : Nat} {f : Finding} (h : s.entryAt? p = none)
    (hk : s.freePosition? = none) : s.enterFinding p f = s.tableFull p f := by
  rw [State.enterFinding, h, hk]

theorem State.pending_enterFinding (s : State) (p : Nat) (f : Finding) :
    (s.enterFinding p f).attention.pending = s.attention.pending ||| 0x10#8 := by
  unfold State.enterFinding
  split
  · rw [(State.writeEntry_effect _ _ _ _).2.1]
  · split
    · rw [(State.writeEntry_effect _ _ _ _).2.1]
    · simp [State.tableFull, State.latch, AttentionKind.bit]

/-- The slot as a comparison leaves it before it confirms or enters: with no review mark. -/
def State.reviewed (s : State) (p : Nat) : State := s.updSlot p fun v => { v with review := false }

theorem State.slot_reviewed (s : State) (p q : Nat) :
    (s.reviewed p).slot q = if q = p then { s.slot p with review := false } else s.slot q := by
  simp [State.reviewed]

/-- A confirmed slot is verified now, and needs no review. -/
theorem State.slotBecomes_confirmed (s : State) (p : Nat) : SlotBecomes s ((s.reviewed p).confirm p) p
    { s.slot p with review := false, verified := some s.clock.minutes } := by
  have hslots : ∀ q, ((s.reviewed p).confirm p).slot q =
      if q = p then { s.slot p with review := false, verified := some s.clock.minutes } else s.slot q := fun q => by
    rw [State.slot_confirm, State.slot_reviewed, State.slot_reviewed, if_pos rfl]
    split <;> rfl
  obtain ⟨hracks, hwindows⟩ := (s.reviewed p).shelf_confirm p
  exact ⟨(hslots p).trans (if_pos rfl), fun q hq => (hslots q).trans (if_neg hq), ShelfMap.eq_of_slots hracks hwindows⟩

theorem Finding.missingPairs_eq (f : Finding) (old : Option Discrepancy) : f.missingPairs old =
    match f.expected, f.kind with
      | none, _ => []
      | some h, .unreadable =>
        if old.any (fun e => e.holds.contains (h, HoldReason.missing)) = true then [(h, .missing)] else []
      | some h, _ => [(h, .missing)] := by
  unfold Finding.missingPairs
  cases f.expected with
  | none => rfl
  | some h => cases f.kind <;> cases old <;> rfl

/-- Settles O51: what a confirmation leaves, what a finding enters and holds, and the entry of a finding. -/
theorem comparisonsConfirmOrEnterAFinding : Obligations.ComparisonsConfirmOrEnterAFinding := by
  refine ⟨fun s p rep hnone => ⟨(s.reviewed p).confirm p, State.compare_of_confirmed hnone, by simp [State.reviewed],
    by simp [State.reviewed], s.slotBecomes_confirmed p, fun k e he => ?cleared, fun he => ?nothing,
    fun i r ho hr => ?confirmed⟩, fun s p rep f hsome => ⟨(s.reviewed p).enterFinding p f,
      State.compare_of_finding hsome, State.pending_enterFinding _ _ _, fun k old hat => ?existing,
      fun k hat hfree => ?fresh, fun hat hfree => ?full, ?verified, ?occupant, fun e hroom he => ?holds⟩,
    fun f p now old missing => ?entry⟩
  case cleared =>
    have hat : (s.reviewed p).entryAt? p = some (k, e) := he
    rw [State.discrepancies_confirm, State.dismissEntry_of_some hat]
    simp [State.clearEntry, State.reviewed]
  case nothing =>
    have hat : (s.reviewed p).entryAt? p = none := he
    rw [State.discrepancies_confirm, State.dismissEntry_of_none hat]
    rfl
  case confirmed =>
    refine State.holds_confirm (s := s.reviewed p) (p := p) ?_ hr
    rw [State.slot_reviewed, if_pos rfl]
    exact ho
  case existing =>
    have hat' : (s.reviewed p).entryAt? p = some (k, old) := hat
    rw [State.slot_enterFinding, hat', if_neg (by simp), State.enterFinding_of_entry hat', State.slot_reviewed,
      if_pos rfl]
    exact ⟨(State.writeEntry_effect _ _ _ _).1, rfl⟩
  case fresh =>
    have hat' : (s.reviewed p).entryAt? p = none := hat
    have hfree' : (s.reviewed p).freePosition? = some k := hfree
    rw [State.slot_enterFinding, hfree', if_neg (by simp), State.enterFinding_of_room hat' hfree', State.slot_reviewed,
      if_pos rfl]
    exact ⟨(State.writeEntry_effect _ _ _ _).1, rfl⟩
  case full =>
    have hat' : (s.reviewed p).entryAt? p = none := hat
    have hfree' : (s.reviewed p).freePosition? = none := hfree
    rw [State.slot_enterFinding, if_pos ⟨rfl, hat', hfree'⟩, State.enterFinding_of_full hat' hfree']
    exact ⟨(State.tableFull_fields _ _ _).2.2.2.2.2.1, rfl, fun h r hh hr => State.holds_tableFull hh hr⟩
  case verified =>
    rw [State.slot_enterFinding, State.slot_reviewed, if_pos rfl]
    split <;> rfl
  case occupant =>
    rw [State.slot_enterFinding, State.slot_reviewed, if_pos rfl]
    split <;> rfl
  case holds =>
    subst he
    cases hat : s.entryAt? p with
    | some x =>
      obtain ⟨k, old⟩ := x
      have hat' : (s.reviewed p).entryAt? p = some (k, old) := hat
      rw [State.enterFinding_of_entry hat']
      obtain ⟨hmissing, hmisplaced, hreleased⟩ := State.holds_writeEntry (s := s.reviewed p) (k := k)
        (e := f.entry p s.clock.minutes (some old)) (old := some old)
      refine ⟨hmissing, hmisplaced, fun k' old' h r he hh hfree hother hr => ?_⟩
      obtain ⟨-, rfl⟩ := Prod.mk.inj (Option.some.inj he)
      exact hreleased old h r rfl hh (fun x hx => hfree x ((State.writeEntry_effect _ _ _ _).1 ▸ hx)) hother hr
    | none =>
      have hat' : (s.reviewed p).entryAt? p = none := hat
      obtain ⟨k, hk⟩ := Option.ne_none_iff_exists'.1 (hroom.resolve_left fun hn => hn hat)
      have hk' : (s.reviewed p).freePosition? = some k := hk
      rw [State.enterFinding_of_room hat' hk']
      obtain ⟨hmissing, hmisplaced, -⟩ := State.holds_writeEntry (s := s.reviewed p) (k := k)
        (e := f.entry p s.clock.minutes none) (old := none)
      exact ⟨hmissing, hmisplaced, fun k' old' h r he => nomatch he⟩
  case entry =>
    rw [Finding.entry, f.misplacedPairs_eq, f.missingPairs_eq]
    simp only [Discrepancy.mk.injEq, true_and, List.append_cancel_right_eq]
    exact eq_comm

end Sys2Proof.Machine

/-! SUPPORT. Discrepancies read, dismissed and flagged again; O52. -/

namespace Sys2Proof.Machine

/-! ## READ_DISCREPANCY (R132) -/

theorem State.length_encodeDiscrepancy (s : State) (k : Nat) (e : Discrepancy) :
    (s.encodeDiscrepancy k e).length = 32 := by
  have hpair : ∀ q, (encodeHoldPair q).length = 3 := fun q => by cases q <;> simp [encodeHoldPair]
  simp [State.encodeDiscrepancy, bePhysical, beLSlot, hpair]

/-- The position a READ_DISCREPANCY_NEXT starts from: after the one given, or from the first. -/
def discrepancyBound (k : Nat) : Nat := if k = 255 then 0 else k + 1

theorem discrepancyBound_eq {k bound : Nat} (h : (k ≤ 15 ∧ bound = k + 1) ∨ (k = 255 ∧ bound = 0)) :
    discrepancyBound k = bound ∧ (k < 16 ∨ k = 255) := by
  unfold discrepancyBound
  split <;> omega

theorem State.replies_readDiscrepancy {s : State} {k : Nat} (hf : s.free .registry = true) (hk : k ≤ 15) {a : Reply}
    (ha : (s.discrepancies.read? k = none ∧ a = ⟨.notFound, []⟩) ∨
      ∃ e, s.discrepancies.read? k = some e ∧ a = ⟨.ok, s.encodeDiscrepancy k e⟩) :
    s.Replies (.readDiscrepancy k) .registry s a := by
  refine State.replies_of_owner rfl hf ((if_pos (Nat.lt_succ_of_le hk)).trans ?_)
  obtain ⟨he, rfl⟩ | ⟨e, he, rfl⟩ := ha
  · rw [he]
    rfl
  · rw [he]
    rfl

theorem State.replies_readDiscrepancyNext {s : State} {k : Nat} (hf : s.free .registry = true)
    (hk : k < 16 ∨ k = 255) {a : Reply}
    (ha : (s.discrepancies.find? (fun e => decide (discrepancyBound k ≤ e.1)) = none ∧ a = ⟨.notFound, []⟩) ∨
      ∃ j e, s.discrepancies.find? (fun e => decide (discrepancyBound k ≤ e.1)) = some (j, e) ∧
        a = ⟨.ok, s.encodeDiscrepancy j e⟩) :
    s.Replies (.readDiscrepancyNext k) .registry s a := by
  refine State.replies_of_owner rfl hf ((if_pos hk).trans ?_)
  unfold discrepancyBound at ha
  obtain ⟨he, rfl⟩ | ⟨j, e, he, rfl⟩ := ha
  · rw [he]
    rfl
  · rw [he]
    rfl

/-! ## RESOLVE (R133) -/

theorem State.withEntry_of_entry {s : State} {l : LSlot} {p k : Nat} {e : Discrepancy} (hl : l.rack ≠ 0)
    (hp : s.physical? l = some p) (he : s.entryAt? p = some (k, e)) (f : Nat → Nat → Discrepancy → State × Reply) :
    s.withEntry l f = f p k e := by
  rw [State.withEntry, State.withSlot_of_physical hl hp, he]

theorem State.withEntry_of_no_entry {s : State} {l : LSlot} {p : Nat} (hl : l.rack ≠ 0)
    (hp : s.physical? l = some p) (he : s.entryAt? p = none) (f : Nat → Nat → Discrepancy → State × Reply) :
    s.withEntry l f = s.refuse .notFound := by
  rw [State.withEntry, State.withSlot_of_physical hl hp, he]

/-- Each RESOLVE looks for the entry of the slot it names. -/
theorem exec_resolve {l : LSlot} {c : Instr} (h : c ∈ [.resolveDismiss l, .resolveRescan l, .resolveAdopt l])
    (s : State) : ∃ f : State → Nat → Nat → Discrepancy → State × Reply,
      exec c s = s.host c fun s => s.withEntry l (f s) := by
  simp only [List.mem_cons, List.not_mem_nil, or_false] at h
  rcases h with rfl | rfl | rfl
  all_goals exact ⟨_, rfl⟩

theorem State.releasePairs_tables (s : State) (l : List (Nat × HoldReason)) :
    (s.releasePairs l).registry.generations = s.registry.generations ∧
    (s.releasePairs l).registry.tagIndex = s.registry.tagIndex ∧
    (s.releasePairs l).registry.overdueCount = s.registry.overdueCount :=
  ⟨foldl_unchanged (fun u : State => u.registry.generations) _ (fun u q => by simp) l s,
    foldl_unchanged (fun u : State => u.registry.tagIndex) _ (fun u q => by simp) l s,
    foldl_unchanged (fun u : State => u.registry.overdueCount) _ (fun u q => by simp) l s⟩

/-- What a dismissed entry leaves of the records: MISSING goes where no entry still lists it, and nothing else. -/
theorem State.dismissEntry_effect {s : State} {p k : Nat} {e : Discrepancy} (he : s.entryAt? p = some (k, e)) :
    (s.dismissEntry p = { s with
      registry := (s.dismissEntry p).registry, discrepancies := s.discrepancies.clear k }) ∧
    ((s.dismissEntry p).registry = { s.registry with records := (s.dismissEntry p).registry.records }) ∧
    (∀ j r', (s.dismissEntry p).record? j = some r' → ∃ r, s.record? j = some r ∧
      ((r' = r ∧ ¬∃ h, (h, HoldReason.missing) ∈ e.holds ∧
          ((s.discrepancies.clear k).any fun x => x.2.listsMissing h) = false ∧ j = handleIndex h) ∨
        r' = { r with holds := { r.holds with missing := false } } ∧ ∃ h, (h, HoldReason.missing) ∈ e.holds ∧
          ((s.discrepancies.clear k).any fun x => x.2.listsMissing h) = false ∧ j = handleIndex h)) ∧
    (∀ j, s.record? j ≠ none → (s.dismissEntry p).record? j ≠ none) := by
  have hrecords := fun j => State.record?_releasePairs e.holds (s.clearEntry k) j
  have hframe : (s.clearEntry k).releasePairs e.holds = { s with
      registry := ((s.clearEntry k).releasePairs e.holds).registry, discrepancies := s.discrepancies.clear k } := by
    apply State.ext <;> simp [State.clearEntry]
  rw [State.dismissEntry_of_some he]
  have hreg : ((s.clearEntry k).releasePairs e.holds).registry =
      { s.registry with records := ((s.clearEntry k).releasePairs e.holds).registry.records } := by
    obtain ⟨hgenerations, htags, hcount⟩ := (s.clearEntry k).releasePairs_tables e.holds
    exact Registry.eq_of_records hgenerations htags hcount
  refine ⟨hframe, hreg, fun j r' hr' => ?_, fun j hj => ?_⟩
  · rw [hrecords] at hr'
    split at hr'
    · next hfree =>
      obtain ⟨r, hr, rfl⟩ := Option.map_eq_some_iff.1 hr'
      exact ⟨r, hr, .inr ⟨rfl, hfree⟩⟩
    · next hkept => exact ⟨r', hr', .inl ⟨rfl, hkept⟩⟩
  · rw [hrecords]
    split
    · exact fun hn => hj (Option.map_eq_none_iff.1 hn)
    · exact hj

/-- Settles O52: discrepancies read by position and in turn, and an entry dismissed or flagged for review again. -/
theorem discrepanciesAreReadAndResolved : Obligations.DiscrepanciesAreReadAndResolved := by
  refine ⟨fun s k hf ho => ⟨fun hk => ?farAway, fun hk h255 => ?farAhead, fun hk he => ?notFound, fun e hk he =>
    ⟨_, s.length_encodeDiscrepancy k e, ?found, rfl⟩, fun j e bound hb hj he hgap => ?next, fun bound hb hn => ?last⟩,
    fun s l c hf hc => ⟨fun hl => ?noSlot, fun hl hp => ?offMap, fun p hl hp he => ?noEntry⟩,
    fun s l p k e hf hl hp he => ⟨⟨s.dismissEntry p, ?dismissed, ?_⟩,
      ⟨s.updSlot p fun v => { v with review := true }, ?rescanned, ?frame, ?slot⟩⟩⟩
  case farAway => exact State.replies_of_owner rfl hf (if_neg (Nat.not_lt.2 hk))
  case farAhead => exact State.replies_of_owner rfl hf (if_neg (not_or.2 ⟨Nat.not_lt.2 hk, h255⟩))
  case notFound => exact State.replies_readDiscrepancy hf hk (.inl ⟨he, rfl⟩)
  case found => exact State.replies_readDiscrepancy hf hk (.inr ⟨e, he, rfl⟩)
  case next =>
    obtain ⟨hbound, hk⟩ := discrepancyBound_eq hb
    refine State.replies_readDiscrepancyNext hf hk (.inr ⟨j, e, ?_, rfl⟩)
    rw [hbound]
    exact Table.find?_from_eq_some ho hj he hgap
  case last =>
    obtain ⟨hbound, hk⟩ := discrepancyBound_eq hb
    refine State.replies_readDiscrepancyNext hf hk (.inl ⟨?_, rfl⟩)
    rw [hbound]
    exact Table.find?_from_eq_none hn
  case noSlot =>
    obtain ⟨f, hexec⟩ := exec_resolve hc s
    exact State.replies_of_owner hexec hf (State.withSlot_of_none hl _)
  case offMap =>
    obtain ⟨f, hexec⟩ := exec_resolve hc s
    exact State.replies_of_owner hexec hf (State.withSlot_of_off_map hl hp _)
  case noEntry =>
    obtain ⟨f, hexec⟩ := exec_resolve hc s
    exact State.replies_of_owner hexec hf (State.withEntry_of_no_entry hl hp he _)
  case dismissed => exact State.replies_of_owner rfl hf (State.withEntry_of_entry hl hp he _)
  case rescanned => exact State.replies_of_owner rfl hf (State.withEntry_of_entry hl hp he _)
  case frame => rfl
  case slot =>
    exact ⟨by simp, fun q hq => by simp [hq], ShelfMap.eq_of_slots (by simp) (by simp)⟩
  · obtain ⟨hframe, hreg, hrecords, hlive⟩ := State.dismissEntry_effect he
    refine ⟨hframe, hreg, fun i r hr => ?_, fun h hh hfree r' hr' => ?_, fun h r r' hlisted honly hr hr' => ?_⟩
    · obtain ⟨r', hr'⟩ := Option.ne_none_iff_exists'.1 (hlive i (by rw [hr]; exact nofun))
      obtain ⟨r0, hr0, hcases⟩ := hrecords i r' hr'
      obtain rfl := Option.some.inj (hr.symm.trans hr0)
      refine ⟨r', hr', ?_⟩
      obtain ⟨rfl, -⟩ | ⟨rfl, -⟩ := hcases
      · exact ⟨rfl, id⟩
      · exact ⟨rfl, nofun⟩
    · obtain ⟨r0, hr0, ⟨rfl, hkept⟩ | ⟨rfl, -⟩⟩ := hrecords _ r' hr'
      · exact absurd ⟨h, hh, by simpa [List.any_eq_false] using fun a b hab => hfree (a, b) hab, rfl⟩ hkept
      · rfl
    · obtain ⟨r0, hr0, ⟨rfl, -⟩ | ⟨rfl, g, hg, hfree, hgh⟩⟩ := hrecords _ r' hr'
      · rw [hr] at hr0
        rw [Option.some.inj hr0]
      · obtain rfl := honly g hg hgh.symm
        obtain ⟨x, hx, hxl⟩ := hlisted
        exact absurd hxl (List.any_eq_false.1 hfree x hx)

end Sys2Proof.Machine

/-! SUPPORT. An adopted report: its checks, and what it moves; O53. -/

namespace Sys2Proof.Machine

/-! ## The checks (R133) -/

/-- Only a misplaced wheel that was seen is moved. -/
theorem Discrepancy.moved?_eq_none {e : Discrepancy} (h : ¬(e.kind = .misplaced ∧ e.seenRecord ≠ none)) :
    e.moved? = none := by
  unfold Discrepancy.moved?
  split
  · next hk => exact not_not.1 fun hs => h ⟨hk, hs⟩
  · rfl

theorem Discrepancy.moved?_of_misplaced {e : Discrepancy} (h : e.kind = .misplaced) : e.moved? = e.seenRecord := by
  rw [Discrepancy.moved?, h]

theorem State.unseats_of_occupied {s : State} {p i : Nat} {e : Discrepancy} (ho : (s.slot p).occupant = some i)
    (he : e.expected ≠ some (s.handleOf i)) : s.unseats p e = true := by
  rw [State.unseats, ho]
  exact decide_eq_true he

/-- The checks of an adopted report that moves no wheel into its slot. -/
theorem State.adoptRefusal_still {s : State} {p : Nat} {e : Discrepancy} (hk : e.kind ≠ .unreadable)
    (hu : s.unseats p e = false) (hm : e.moved? = none) :
    s.adoptRefusal p e = if (s.slot p).engaged = true then some .busy else none := by
  rw [State.adoptRefusal, if_neg hk, if_neg (by simp [hu]), hm]

/-- The checks of an adopted report that moves a wheel into its slot. -/
theorem State.adoptRefusal_moved {s : State} {p h : Nat} {e : Discrepancy} {r : WheelRecord}
    (hk : e.kind ≠ .unreadable) (hu : s.unseats p e = false) (hm : e.moved? = some h)
    (hr : s.record? (handleIndex h) = some r) : s.adoptRefusal p e =
      if r.claim ≠ .none then some .claimed
      else if (s.slot p).engaged = true ∨ (∃ q, r.location = some q ∧ (s.slot q).engaged = true) then some .busy
      else if (s.slot p).reserved = true ∧ (∃ q ∈ s.relocations, q.dest = p ∧ q.wheel ≠ h) then some .slotTaken
      else none := by
  have hclaim : s.claimOf h = r.claim := by
    rw [State.claimOf, hr]
    rfl
  have hstands : ((s.standsIn? h).any fun q => (s.slot q).engaged) = true ↔
      ∃ q, r.location = some q ∧ (s.slot q).engaged = true := by
    rw [State.standsIn?, hr, Option.bind_some]
    cases r.location <;> simp
  have hreserved : (s.relocations.any fun q => decide (q.dest = p) && decide (q.wheel ≠ h)) = true ↔
      ∃ q ∈ s.relocations, q.dest = p ∧ q.wheel ≠ h := by
    simp
  rw [State.adoptRefusal, if_neg hk, if_neg (by simp [hu]), hm]
  dsimp only
  simp only [hclaim, hstands, hreserved]

theorem State.adopt_refused {s : State} {l : LSlot} {p k : Nat} {e : Discrepancy} {st : Status}
    (hf : s.free .registry = true) (hl : l.rack ≠ 0) (hp : s.physical? l = some p) (he : s.entryAt? p = some (k, e))
    (hst : s.adoptRefusal p e = some st) : s.Replies (.resolveAdopt l) .registry s ⟨st, []⟩ := by
  refine State.replies_of_owner rfl hf ((State.withEntry_of_entry hl hp he _).trans ?_)
  rw [hst]
  rfl

theorem State.adopt_passed {s : State} {l : LSlot} {p k : Nat} {e : Discrepancy}
    (hf : s.free .registry = true) (hl : l.rack ≠ 0) (hp : s.physical? l = some p) (he : s.entryAt? p = some (k, e))
    (hpass : s.adoptRefusal p e = none) :
    s.Replies (.resolveAdopt l) .registry (s.adopt p k e) ⟨.ok, []⟩ := by
  refine State.replies_of_owner rfl hf ((State.withEntry_of_entry hl hp he _).trans ?_)
  rw [hpass]
  rfl

/-! ## The expected wheel leaves the slot -/

theorem State.record?_unseatExpected (s : State) (p j : Nat) : (s.unseatExpected p).record? j =
    if (s.slot p).occupant = some j then (s.record? j).map fun r => { r with location := none } else s.record? j := by
  unfold State.unseatExpected
  split
  · next h => rw [h, if_neg nofun]
  · next i h =>
    rw [h, State.record?_moveRecord]
    by_cases hj : j = i
    · subst hj
      rw [if_pos rfl, if_pos rfl]
    · rw [if_neg hj, if_neg fun hi => hj (Option.some.inj hi).symm]

/-- A slot whose wheel stands there by its record is empty when the wheel has left. -/
theorem State.slot_unseatExpected {s : State} {p : Nat}
    (h : ∀ i, (s.slot p).occupant = some i → ∃ x, s.record? i = some x ∧ x.location = some p) (q : Nat) :
    (s.unseatExpected p).slot q = if q = p then { s.slot p with occupant := none } else s.slot q := by
  unfold State.unseatExpected
  split
  · next hnone =>
    split
    · next hq =>
      rw [hq]
      cases hs : s.slot p
      rw [hs] at hnone
      cases hnone
      rfl
    · rfl
  · next i hi =>
    obtain ⟨x, hx, hloc⟩ := h i hi
    rw [State.slot_moveRecord, hx, Option.bind_some, hloc, if_neg nofun]
    by_cases hq : q = p
    · rw [hq, if_pos rfl, if_pos rfl]
    · rw [if_neg fun hp => hq (Option.some.inj hp).symm, if_neg hq]

theorem State.relocations_unseatExpected (s : State) (p : Nat) : (s.unseatExpected p).relocations = s.relocations :=
  (State.unseatExpected_fields s p).2.2.2.1

/-! ## The wheel seen takes the slot -/

/-- The state in which the wheel seen stands in the slot and is held for its place no more. -/
def State.seated (s : State) (p h : Nat) : State :=
  (((s.moveRecord (handleIndex h) (some p)).removeHold (handleIndex h) .missing).removeHold (handleIndex h)
    .unconfirmed).removeHold (handleIndex h) .blockedSlot

theorem State.relocations_seated (s : State) (p h : Nat) : (s.seated p h).relocations = s.relocations := by
  simp [State.seated]

theorem State.record?_seated {s : State} {p h : Nat} {r : WheelRecord} (hr : s.record? (handleIndex h) = some r)
    (j : Nat) : (s.seated p h).record? j = if j = handleIndex h
      then some { r with
        location := some p
        holds := { r.holds with missing := false, unconfirmed := false, blockedSlot := false } }
      else s.record? j := by
  simp only [State.seated, State.record?_removeHold, State.record?_moveRecord]
  by_cases hj : j = handleIndex h
  · simp [hj, hr, Holds.put]
  · simp [hj]

theorem State.slot_seated {s : State} {p h : Nat} {r : WheelRecord} (hr : s.record? (handleIndex h) = some r)
    (q : Nat) : (s.seated p h).slot q = { s.slot q with
      occupant := if p = q then some (handleIndex h) else if r.location = some q then none
        else (s.slot q).occupant } := by
  simp only [State.seated, State.removeHold_views, State.slot_moveRecord, hr, Option.bind_some, Option.some.injEq]

theorem State.seatSeen_of_ended {s : State} {p h : Nat} {q : Relocation} (hq : s.relocationOf? h = some q)
    (hp : q.dest = p) : s.seatSeen p h = (s.seated p h).endRelocation h := by
  have hof : (s.seated p h).relocationOf? h = some q :=
    (State.relocationOf?_congr (s.relocations_seated p h) h).trans hq
  unfold State.seated at hof
  unfold State.seatSeen
  dsimp only
  rw [hof]
  exact if_pos hp

theorem State.seatSeen_of_kept {s : State} {p h : Nat} (hq : ∀ q, s.relocationOf? h = some q → q.dest ≠ p) :
    s.seatSeen p h = s.seated p h := by
  have hof : (s.seated p h).relocationOf? h = s.relocationOf? h :=
    State.relocationOf?_congr (s.relocations_seated p h) h
  unfold State.seated at hof
  unfold State.seatSeen
  dsimp only
  rw [hof]
  cases hr : s.relocationOf? h with
  | none => rfl
  | some q => exact if_neg (hq q hr)

/-- What the wheel seen taking the slot does: its record, the slots, and its relocation when it led there. -/
theorem State.seatSeen_effect {s : State} {p h : Nat} {r : WheelRecord} (hr : s.record? (handleIndex h) = some r) :
    (∃ r', (s.seatSeen p h).record? (handleIndex h) = some r' ∧
      r' = { r with
        location := some p, relocationPending := r'.relocationPending
        holds := { r.holds with missing := false, unconfirmed := false, blockedSlot := false } } ∧
      (∀ q, s.relocationOf? h = some q → q.dest = p → r'.relocationPending = false) ∧
      ((∀ q, s.relocationOf? h = some q → q.dest ≠ p) → r'.relocationPending = r.relocationPending)) ∧
    (∀ j, j ≠ handleIndex h → (s.seatSeen p h).record? j = s.record? j) ∧
    (∀ q, ((s.seatSeen p h).slot q).occupant = if p = q then some (handleIndex h) else if r.location = some q then none
      else (s.slot q).occupant) ∧
    (∀ q, s.relocationOf? h = some q → q.dest = p →
      (s.seatSeen p h).relocations = (s.relocations.filter fun x => decide (x.wheel ≠ h)) ∧
      ((s.seatSeen p h).slot p).reserved = false) ∧
    ((∀ q, s.relocationOf? h = some q → q.dest ≠ p) → (s.seatSeen p h).relocations = s.relocations ∧
      ((s.seatSeen p h).slot p).reserved = (s.slot p).reserved) := by
  have hof : (s.seated p h).relocationOf? h = s.relocationOf? h :=
    State.relocationOf?_congr (s.relocations_seated p h) h
  have hrecord := fun j => State.record?_seated (p := p) hr j
  have hslot := fun q => State.slot_seated (p := p) hr q
  by_cases hends : ∃ q, s.relocationOf? h = some q ∧ q.dest = p
  · obtain ⟨q, hq, hqp⟩ := hends
    have hnot : ¬∀ q, s.relocationOf? h = some q → q.dest ≠ p := fun hall => hall q hq hqp
    have hrecords := fun j => State.record?_endRelocation (s.seated p h) h j
    have hslots := fun x => State.slot_endRelocation (s.seated p h) h x
    simp only [hof, hq, ne_eq, reduceCtorEq, not_false_eq_true, and_true, Option.map_some, Option.some.injEq, hrecord,
      hslot, hqp] at hrecords hslots
    rw [State.seatSeen_of_ended hq hqp]
    refine ⟨⟨_, (hrecords _).trans ((if_pos rfl).trans (by rw [if_pos rfl, Option.map_some])), rfl, fun _ _ _ => rfl,
      fun hall => absurd hall hnot⟩, fun j hj => ?_, fun x => ?_, fun _ _ _ => ⟨?_, ?_⟩, fun hall => absurd hall hnot⟩
    · rw [hrecords, if_neg hj, if_neg hj]
    · rw [hslots]
      split <;> rfl
    · rw [State.relocations_endRelocation, State.relocations_seated]
    · rw [hslots, if_pos rfl]
  · have hkept : ∀ q, s.relocationOf? h = some q → q.dest ≠ p := fun q hq hp => hends ⟨q, hq, hp⟩
    rw [State.seatSeen_of_kept hkept]
    refine ⟨⟨_, (hrecord _).trans (if_pos rfl), rfl, fun q hq hp => absurd hp (hkept q hq), fun _ => rfl⟩,
      fun j hj => (hrecord j).trans (if_neg hj), fun x => by rw [hslot], fun q hq hp => absurd hp (hkept q hq),
      fun _ => ⟨s.relocations_seated p h, by rw [hslot]⟩⟩

/-! ## RESOLVE with ADOPT (R134) -/

theorem State.adopt_of_still {s : State} {p k : Nat} {e : Discrepancy} (hm : e.moved? = none) :
    s.adopt p k e = (s.unseatExpected p).clearEntry k := by
  rw [State.adopt, hm]

theorem State.adopt_of_moved {s : State} {p k h : Nat} {e : Discrepancy} (hm : e.moved? = some h) :
    s.adopt p k e = ((s.unseatExpected p).seatSeen p h).clearEntry k := by
  rw [State.adopt, hm]

theorem State.adopt_frame (s : State) (p k : Nat) (e : Discrepancy) : s.adopt p k e = { s with
    registry := (s.adopt p k e).registry, shelf := (s.adopt p k e).shelf, candidates := (s.adopt p k e).candidates
    relocations := (s.adopt p k e).relocations, discrepancies := s.discrepancies.clear k } := by
  apply State.ext
  case discrepancies =>
    unfold State.adopt State.clearEntry
    dsimp only
    split <;> simp
  all_goals simp

/-- Settles O53: what refuses an adopted report, in order, and what an adopted one makes true. -/
theorem adoptTakesTheReportAsTrue : Obligations.AdoptTakesTheReportAsTrue := by
  refine ⟨fun s l p k e hf hl hp he => ⟨fun hk => ?unreadable, fun i hk hi hexp => ?unseats, fun hk hu =>
      ⟨fun hm heng => ?busy, fun h r hmis hseen hr => ⟨fun hclaim => ?claimed, fun hclaim =>
        ⟨fun heng => ?engaged, fun hfree hstands hres htaken => ?taken⟩⟩⟩, fun hpass =>
        ⟨_, State.adopt_passed hf hl hp he hpass, State.adopt_frame s p k e⟩⟩,
    fun s l p k i e r hf hl hp he hpass hk hi hr hloc => ?emptied,
    fun s l p k h e r hf hl hp he hpass hmis hseen hr hocc => ?seated⟩
  case unreadable => exact State.adopt_refused hf hl hp he (if_pos hk)
  case unseats =>
    exact State.adopt_refused hf hl hp he ((if_neg hk).trans (if_pos (State.unseats_of_occupied hi hexp)))
  case busy =>
    exact State.adopt_refused hf hl hp he
      ((State.adoptRefusal_still hk hu (Discrepancy.moved?_eq_none hm)).trans (if_pos heng))
  case claimed =>
    have hmoved : e.moved? = some h := (Discrepancy.moved?_of_misplaced hmis).trans hseen
    exact State.adopt_refused hf hl hp he ((State.adoptRefusal_moved hk hu hmoved hr).trans (if_pos hclaim))
  case engaged =>
    have hmoved : e.moved? = some h := (Discrepancy.moved?_of_misplaced hmis).trans hseen
    refine State.adopt_refused hf hl hp he ((State.adoptRefusal_moved hk hu hmoved hr).trans ?_)
    rw [if_neg (not_not.2 hclaim), if_pos heng]
  case taken =>
    have hmoved : e.moved? = some h := (Discrepancy.moved?_of_misplaced hmis).trans hseen
    refine State.adopt_refused hf hl hp he ((State.adoptRefusal_moved hk hu hmoved hr).trans ?_)
    have hstill : ¬((s.slot p).engaged = true ∨ ∃ q, r.location = some q ∧ (s.slot q).engaged = true) := by
      rintro (h1 | ⟨q, hq, h1⟩)
      · rw [hfree] at h1
        cases h1
      · rw [hstands q hq] at h1
        cases h1
    rw [if_neg (not_not.2 hclaim), if_neg hstill, if_pos ⟨hres, htaken⟩]
  case emptied =>
    have hmoved : e.moved? = none := Discrepancy.moved?_eq_none fun h => by
      obtain hk | hk := hk <;> cases h.1.symm.trans hk
    have hplaced : ∀ j, (s.slot p).occupant = some j → ∃ x, s.record? j = some x ∧ x.location = some p := fun j hj =>
      ⟨r, (Option.some.inj (hi.symm.trans hj)) ▸ hr, hloc⟩
    have hrecord := fun j => State.record?_unseatExpected s p j
    have hslot := fun q => State.slot_unseatExpected hplaced q
    have hunseated : s.unseatExpected p = s.moveRecord i none := by rw [State.unseatExpected, hi]
    refine ⟨_, State.adopt_passed hf hl hp he hpass, ?_, ?_, ?_⟩
    all_goals rw [State.adopt_of_still hmoved]
    · refine RecordBecomes.of_reads (fun j => ?_) (by simp [hunseated]) (by simp [hunseated]) (by simp [hunseated])
      rw [(State.clearEntry_views _ _ _).2.2.2.2.1, hrecord, hi]
      by_cases hj : j = i
      · rw [hj, if_pos rfl, if_pos rfl, hr, Option.map_some]
      · rw [if_neg fun h => hj (Option.some.inj h).symm, if_neg hj]
    · refine ⟨(hslot p).trans (if_pos rfl), fun q hq => (hslot q).trans (if_neg hq), ?_⟩
      exact ShelfMap.eq_of_slots (by simp [hunseated]) (by simp [hunseated])
    · exact s.relocations_unseatExpected p
  case seated =>
    have hmoved : e.moved? = some h := (Discrepancy.moved?_of_misplaced hmis).trans hseen
    have hrecord := fun j => State.record?_unseatExpected s p j
    have hslot := fun q => State.slot_unseatExpected (fun i hi => (hocc i hi).2) q
    have hqueue : (s.unseatExpected p).relocations = s.relocations := s.relocations_unseatExpected p
    have hof : (s.unseatExpected p).relocationOf? h = s.relocationOf? h := State.relocationOf?_congr hqueue h
    have hother : ¬(s.slot p).occupant = some (handleIndex h) := fun hi => (hocc _ hi).1 rfl
    have hr' : (s.unseatExpected p).record? (handleIndex h) = some r := (hrecord _).trans ((if_neg hother).trans hr)
    obtain ⟨⟨r', hwheel, hshape, hpendEnded, hpendKept⟩, hothers, hoccupants, hended, hkept⟩ :=
      State.seatSeen_effect (p := p) hr'
    have hadopt := State.adopt_of_moved (s := s) (p := p) (k := k) hmoved
    rw [hof] at hpendEnded hpendKept hended hkept
    rw [hqueue, hslot, if_pos rfl] at hkept
    rw [hqueue] at hended
    generalize (s.unseatExpected p).seatSeen p h = u at hadopt hwheel hothers hoccupants hended hkept
    refine ⟨_, r', State.adopt_passed hf hl hp he hpass, ?_, hshape, ?_, fun q hq hne => ?_, fun i x hi hx => ?_,
      fun j hj hjo => ?_, fun q hq hqp => ?_, fun hall => ?_⟩
    all_goals rw [hadopt]
    · exact hwheel
    · exact (hoccupants p).trans (if_pos rfl)
    · exact (hoccupants q).trans ((if_neg (Ne.symm hne)).trans (if_pos hq))
    · refine (hothers i fun hih => hother (hih ▸ hi)).trans ((hrecord i).trans ((if_pos hi).trans ?_))
      rw [hx, Option.map_some]
    · exact (hothers j hj).trans ((hrecord j).trans (if_neg hjo))
    · obtain ⟨hrelocations, hreserved⟩ := hended q hq hqp
      exact ⟨hrelocations, hreserved, hpendEnded q hq hqp⟩
    · obtain ⟨hrelocations, hreserved⟩ := hkept hall
      exact ⟨hrelocations, hreserved, hpendKept hall⟩

end Sys2Proof.Machine

/-! SUPPORT. The rounds of the poller, as they begin and lead to reading; O54. -/

namespace Sys2Proof.Machine

/-! ## The start of a round (R149, R150) -/

theorem exec_roundBoundary {s : State} (h : s.operating = true) : exec .roundBoundary s = .next s.boundary :=
  congrArg Host.Outcome.next (if_pos h)

theorem State.boundary_of_no_timer {s : State} (h : s.poller.roundTimer = none) : s.boundary = s := by
  rw [State.boundary, h]

/-- The state whose round timer is loaded anew. -/
def State.timed (s : State) : State :=
  { s with poller := { s.poller with roundTimer := some s.poller.settings.period } }

theorem State.boundary_of_waiting {s : State} (hst : s.poller.state = .waiting) (ht : s.poller.roundTimer ≠ none) :
    s.boundary = s.timed.beginRound := by
  obtain ⟨n, hn⟩ := Option.ne_none_iff_exists'.1 ht
  rw [State.boundary, hn]
  dsimp only
  rw [hst]
  rfl

/-- A boundary that falls in a round is an overrun. -/
theorem State.boundary_of_running {s : State} (h1 : s.poller.state ≠ .stopped) (h2 : s.poller.state ≠ .waiting)
    (ht : s.poller.roundTimer ≠ none) : s.boundary = { s with poller := { s.poller with
      roundTimer := some s.poller.settings.period, overran := true, boundaryFell := true } } := by
  obtain ⟨n, hn⟩ := Option.ne_none_iff_exists'.1 ht
  rw [State.boundary, hn]
  dsimp only
  split
  · next h => exact absurd h h1
  · next h => exact absurd h h2
  · rfl

theorem State.beginRound_eq (s : State) : s.beginRound = { s with
    zones := s.beginRound.zones
    poller := { s.poller with
      sensors := s.beginRound.poller.sensors, state := .broadcasting, retries := 0, begun := false, discard := false
      boundaryFell := false } } := rfl

theorem State.sensor_beginRound {s : State} (h : s.climateCanonical) (e : Nat) :
    s.beginRound.sensor e = { s.sensor e with fresh := none } :=
  Table.readD_mapD s.poller.sensors (fun _ => SensorEntry.cold) (fun _ e => { e with fresh := none }) e
    (Table.ordered_of_canonical h.1) rfl

theorem State.zone_beginRound {s : State} (h : s.climateCanonical) (z : Nat) : s.beginRound.zone z =
    { s.zone z with active := (s.zone z).staged.getD (s.zone z).active, staged := none } :=
  (State.zone_activateStaged s z h.2).trans (Zone.activate_eq _)

/-! ## The broadcast and the conversion wait (R151, R152) -/

/-- The state whose conversion wait has run out. -/
def State.waited (s : State) : State := { s with poller := { s.poller with waitLeft := 0 } }

theorem exec_measure (a : Bool) (s : State) : exec (.measure a) s = .next
    (if s.operating ∧ s.poller.state = .broadcasting ∧ s.canTransact then s.measured a else s) := rfl

theorem exec_conversionWaitEnd (s : State) : exec .conversionWaitEnd s = .next
    (if s.operating ∧ s.poller.state = .converting then s.waitEnded else s) := rfl

theorem State.measured_eq (s : State) (a : Bool) : s.measured a = { s with poller := { s.poller with
    state := .converting, waitLeft := s.poller.settings.wait, begun := false, discard := false, retries := 0
    bus := .idle, awaitingIdle := false, lossRole := .none
    driven := if a = true then [0x00#8, 0x3D#8] else [0x00#8] } } := by
  cases a <;> rfl

/-- Settles O54: a boundary begins a round or is an overrun; the broadcast and the conversion wait lead to reading. -/
theorem roundsBeginAndLeadToReading : Obligations.RoundsBeginAndLeadToReading := by
  refine ⟨fun s hop hcanonical => ⟨fun ht => ?noTimer, fun hst ht => ⟨s.timed.beginRound, ?begins, ?frame, ?poller,
      fun e => ?sensors, fun z => ?zones⟩, fun h1 h2 ht => ?overrun⟩,
    fun s hop => ⟨fun a hst hcan => ?measured, fun a hno => ?idle, s.canTransact_iff, fun k hst hk hconf hbefore => ?turn,
      fun hst hnone => ?evaluated, fun hst => ?notConverting⟩⟩
  case noTimer => rw [exec_roundBoundary hop, State.boundary_of_no_timer ht]
  case begins => rw [exec_roundBoundary hop, State.boundary_of_waiting hst ht]
  case frame => rfl
  case poller => rfl
  case sensors => exact State.sensor_beginRound (s := s.timed) (State.climateCanonical_of_tables hcanonical) e
  case zones => exact State.zone_beginRound (s := s.timed) (State.climateCanonical_of_tables hcanonical) z
  case overrun => rw [exec_roundBoundary hop, State.boundary_of_running h1 h2 ht]
  case measured => rw [exec_measure, if_pos ⟨hop, hst, hcan⟩, State.measured_eq]
  case idle =>
    rw [exec_measure, if_neg]
    rintro ⟨-, hst, hcan⟩
    rcases hno with h | h
    · exact h hst
    · rw [h] at hcan
      cases hcan
  case turn =>
    rw [exec_conversionWaitEnd, if_pos ⟨hop, hst⟩]
    exact congrArg Host.Outcome.next
      (State.turnFrom_of_configured (s := s.waited) (Nat.zero_le k) hk hconf fun j _ hj => hbefore j hj)
  case evaluated =>
    rw [exec_conversionWaitEnd, if_pos ⟨hop, hst⟩]
    exact congrArg Host.Outcome.next (State.turnFrom_of_none (s := s.waited) fun j _ hj => hnone j hj)
  case notConverting => rw [exec_conversionWaitEnd, if_neg fun h => hst h.2]

end Sys2Proof.Machine

/-! SUPPORT. A sensor read, and what it writes; O55. -/

namespace Sys2Proof.Machine

/-! ## What an answer makes of an entry (R153, R154) -/

theorem SensorEntry.afterRead_none (e : SensorEntry) :
    e.afterRead none = { e with outcome := .noAck, state := e.state.after false, fresh := none } := rfl

theorem SensorEntry.afterRead_badCheck {e : SensorEntry} {b : List Byte} (h : byteSum b ≠ 0#8) :
    e.afterRead (some b) = { e with outcome := .badCheck, state := e.state.after false, fresh := none } := by
  have ho : outcomeOf (some b) = .badCheck := if_pos h
  rw [SensorEntry.afterRead, ho]
  rfl

theorem SensorEntry.afterRead_flagged {e : SensorEntry} {b : List Byte} (h : byteSum b = 0#8)
    (hf : b.getD 4 0#8 ≠ 0#8) : e.afterRead (some b) = { e with
      outcome := .flagged, state := e.state.after false, reading := some (readingOf b), fresh := none } := by
  have ho : outcomeOf (some b) = .flagged := (if_neg (not_not.2 h)).trans (if_pos hf)
  rw [SensorEntry.afterRead, ho]
  rfl

theorem SensorEntry.afterRead_good {e : SensorEntry} {b : List Byte} (h : byteSum b = 0#8)
    (hf : b.getD 4 0#8 = 0#8) : e.afterRead (some b) = { e with
      outcome := .good, state := .ok, reading := some (readingOf b)
      fresh := some ((readingOf b).humidity, (readingOf b).temperature) } := by
  have ho : outcomeOf (some b) = .good := (if_neg (not_not.2 h)).trans (if_neg (not_not.2 hf))
  rw [SensorEntry.afterRead, ho]
  rfl

/-- The two bytes of a temperature are a signed number of sixteen bits. -/
theorem signed16_word16 (high low : Byte) : signed16 (word16 high low) = (high ++ low).toInt := by
  have hnat : (high ++ low).toNat = word16 high low := by
    rw [BitVec.toNat_append, ← Nat.shiftLeft_add_eq_or_of_lt low.isLt, Nat.shiftLeft_eq]
    rfl
  rw [BitVec.toInt_eq_toNat_cond, hnat, signed16]
  split <;> split <;> omega

/-! ## A read that ends (R153, R157) -/

theorem exec_sensorRead (answer : Option (List Byte)) (s : State) : exec (.sensorRead answer) s = .next
    (if s.operating ∧ s.poller.state = .reading ∧ s.canTransact then s.readEnded answer else s) := rfl

/-- The state with the read taken, or passed over when it is to be discarded. -/
def State.readTaken (s : State) (answer : Option (List Byte)) : State :=
  if s.poller.discard then s else s.takeRead s.poller.turn answer

theorem State.readEnded_eq (s : State) (answer : Option (List Byte)) : s.readEnded answer =
    ((s.readTaken answer).endTransaction s.readDriven).turnFrom (s.poller.turn + 1) := rfl

theorem State.readTaken_frame (s : State) (answer : Option (List Byte)) : s.readTaken answer = { s with
    poller := { s.poller with sensors := (s.readTaken answer).poller.sensors }
    attention := (s.readTaken answer).attention } := by
  unfold State.readTaken
  split
  · rfl
  · apply State.ext
    case poller => exact State.poller_takeRead s _ _
    all_goals simp

theorem State.readTaken_of_discard {s : State} (h : s.poller.discard = true) (answer : Option (List Byte)) :
    s.readTaken answer = s := if_pos h

theorem State.readTaken_of_kept {s : State} (h : s.poller.discard = false) (answer : Option (List Byte)) :
    s.readTaken answer = s.takeRead s.poller.turn answer := if_neg (by simp [h])

theorem State.configured_readTaken (s : State) (answer : Option (List Byte)) (j : Nat) :
    (s.readTaken answer).configured j = s.configured j := by
  unfold State.readTaken
  split
  · rfl
  · exact s.configured_takeRead _ j answer

theorem State.sensor_readTaken_ne {s : State} {j : Nat} (h : j ≠ s.poller.turn) (answer : Option (List Byte)) :
    (s.readTaken answer).sensor j = s.sensor j := by
  unfold State.readTaken
  split
  · rfl
  · rw [State.sensor_takeRead, if_neg h]

theorem State.attention_takeRead (s : State) (e : Nat) (a : Option (List Byte)) : (s.takeRead e a).attention =
    ⟨if (s.sensor e).state = .failed ↔ ((s.takeRead e a).sensor e).state = .failed then s.attention.pending
      else s.attention.pending ||| 0x04#8, s.attention.mask⟩ := by
  rw [State.sensor_takeRead, if_pos rfl, State.takeRead]
  generalize (s.sensor e).afterRead (if s.ownAddress (s.sensor e).address = true then none else a) = after
  simp only [decide_eq_decide]
  split <;> rfl

/-- A read that ends with an entry left passes the turn on. -/
theorem State.readEnded_of_configured {s : State} {answer : Option (List Byte)} {k : Nat} (h1 : s.poller.turn < k)
    (h2 : k < 16) (h3 : s.configured k = true) (h4 : ∀ j, s.poller.turn < j → j < k → s.configured j = false) :
    s.readEnded answer = { s with
      attention := (s.readTaken answer).attention
      poller := { s.poller with
        sensors := (s.readTaken answer).poller.sensors, begun := false, discard := false, retries := 0, bus := .idle
        awaitingIdle := false, lossRole := .none, driven := s.readDriven, state := .reading, turn := k } } := by
  have hconf := s.configured_readTaken answer
  rw [State.readEnded_eq, State.turnFrom_of_configured (s := (s.readTaken answer).endTransaction s.readDriven) h1 h2
    ((hconf k).trans h3) fun j hj hk => (hconf j).trans (h4 j hj hk)]
  conv_lhs => rw [State.readTaken_frame]
  rfl

theorem State.readDriven_eq (s : State) : s.readDriven =
    if s.ownAddress s.readAddress = true then [] else [BitVec.ofNat 8 (2 * s.readAddress + 1)] := by
  rw [State.readDriven, be_one]

/-- Settles O55: the entry a read writes, by its answer, and how the turn passes on. -/
theorem aSensorReadWritesItsEntry : Obligations.ASensorReadWritesItsEntry := by
  refine ⟨fun s answer e k hop hst hcan he h1 h2 h3 h4 => ⟨s.readEnded answer, ?exec, ?_⟩,
    fun s hop => ⟨fun hb => if_pos hb, fun hb => if_neg (by simp [hb]), fun answer hno => ?idle⟩,
    rfl, rfl, rfl, rfl, rfl, rfl, fun st => rfl, fun a1 a0 t1 t0 f c => ⟨rfl, ?temperature, rfl⟩⟩
  case exec => rw [exec_sensorRead, if_pos ⟨hop, hst, hcan⟩]
  case idle =>
    rw [exec_sensorRead, if_neg]
    rintro ⟨-, hst, hcan⟩
    rcases hno with h | h
    · exact h hst
    · rw [h] at hcan
      cases hcan
  case temperature => exact congrArg (fun n => max (-400) (min 600 n)) (signed16_word16 t1 t0)
  have hended := State.readEnded_of_configured (answer := answer) h1 h2 h3 h4
  have hsensor : ∀ j, (s.readEnded answer).sensor j = (s.readTaken answer).sensor j := fun j => by
    rw [hended]
    rfl
  have hattention : (s.readEnded answer).attention = (s.readTaken answer).attention := by rw [hended]
  have htaken : s.poller.discard = false → (s.readEnded answer).sensor s.poller.turn =
      e.afterRead (if s.ownAddress e.address = true then none else answer) := fun hd => by
    rw [hsensor, State.readTaken_of_kept hd, State.sensor_takeRead, if_pos rfl, he]
  refine ⟨by rw [hended], by rw [hended], by rw [hended], by rw [hended], by rw [hended], by rw [hended, s.readDriven_eq],
    by rw [hended], by rw [hended], fun j hj => (hsensor j).trans (State.sensor_readTaken_ne hj answer),
    fun hd => ⟨?_, ?_⟩, fun hd hown => ?_, fun hd => ?_, fun hd hown => ⟨fun ha => ?_, fun b ha hsum => ?_,
      fun b ha hsum hflag => ?_, fun b ha hsum hflag => ?_⟩⟩
  · rw [hsensor, State.readTaken_of_discard hd, he]
  · rw [hattention, State.readTaken_of_discard hd]
  · rw [htaken hd, if_pos hown, SensorEntry.afterRead_none]
  · rw [hattention, hsensor, State.readTaken_of_kept hd, State.attention_takeRead, he]
  · rw [htaken hd, if_neg (by simp [hown]), ha, SensorEntry.afterRead_none]
  · rw [htaken hd, if_neg (by simp [hown]), ha, SensorEntry.afterRead_badCheck hsum]
  · rw [htaken hd, if_neg (by simp [hown]), ha, SensorEntry.afterRead_flagged hsum hflag]
  · rw [htaken hd, if_neg (by simp [hown]), ha, SensorEntry.afterRead_good hsum hflag]

end Sys2Proof.Machine

/-! SUPPORT. The end of a round: the zones judged, the entries counted and the poller waiting or stopped; O56. -/

namespace Sys2Proof.Machine

/-! ## The run condition (R147) -/

theorem State.runCondition_congr {s t : State} (hsettings : t.poller.settings = s.poller.settings)
    (hconf : ∀ e, t.configured e = s.configured e) : t.runCondition = s.runCondition := by
  rw [State.runCondition, State.runCondition, hsettings]
  simp only [hconf]

/-! ## The end of a round (R156, R157) -/

/-- The state whose round is over, before its poller waits or stops. -/
def State.rounded (s : State) : State :=
  { s with poller := { s.poller with
    overran := s.poller.overran && s.poller.boundaryFell, retries := 0, begun := false, discard := false } }

theorem State.endRound_of_run {s : State} (h : s.runCondition = true) :
    s.endRound = { s with poller := { s.rounded.poller with state := .waiting } } :=
  if_pos (show s.rounded.runCondition = true from h)

theorem State.endRound_of_no_run {s : State} (h : s.runCondition = false) : s.endRound = s.rounded.stopPoller :=
  if_neg (show ¬s.rounded.runCondition = true by rw [show s.rounded.runCondition = false from h]; exact nofun)

theorem State.zone_stopPoller_eq {s : State} (h : s.climateCanonical) (z : Nat) : s.stopPoller.zone z =
    { s.zone z with active := (s.zone z).staged.getD (s.zone z).active, staged := none } :=
  (State.zone_stopPoller h z).trans (Zone.activate_eq _)

/-- What the end of a round leaves: the poller waits while the run condition holds and stops when it does not. -/
theorem State.endRound_effect (u : State) :
    (u.endRound.poller.retries = 0 ∧ u.endRound.poller.overran = (u.poller.overran && u.poller.boundaryFell) ∧
      u.endRound.poller.settings = u.poller.settings ∧ u.endRound.attention = u.attention ∧
      ∀ e, u.endRound.sensor e = u.sensor e) ∧
    (u.runCondition = true → u.endRound.poller.state = .waiting ∧
      u.endRound.poller.roundTimer = u.poller.roundTimer ∧ ∀ z, u.endRound.zone z = u.zone z) ∧
    (u.runCondition = false → u.climateCanonical → u.endRound.poller.state = .stopped ∧
      u.endRound.poller.roundTimer = none ∧ ∀ z, u.endRound.zone z =
        { u.zone z with active := (u.zone z).staged.getD (u.zone z).active, staged := none }) := by
  refine ⟨?_, fun hr => ?_, fun hr hc => ?_⟩
  · cases hr : u.runCondition with
    | true =>
      rw [State.endRound_of_run hr]
      exact ⟨rfl, rfl, rfl, rfl, fun e => rfl⟩
    | false =>
      rw [State.endRound_of_no_run hr]
      exact ⟨rfl, rfl, rfl, rfl, fun e => rfl⟩
  · rw [State.endRound_of_run hr]
    exact ⟨rfl, rfl, fun z => rfl⟩
  · rw [State.endRound_of_no_run hr]
    exact ⟨rfl, rfl, State.zone_stopPoller_eq (s := u.rounded) hc⟩

/-- The state whose poller evaluates. -/
def State.evaluating (s : State) : State := { s with poller := { s.poller with state := .evaluating } }

/-- The state whose zones are judged and whose entries have counted the round. -/
def State.judged (s : State) : State := s.evaluating.handover.countRounds

theorem State.evaluateRound_eq (s : State) : s.evaluateRound = s.judged.endRound := by
  rw [State.evaluateRound, State.judged, State.evaluating]

/-- The judgement of the zones leaves the poller's settings and its overrun marks. -/
theorem State.poller_judged (s : State) :
    s.judged.poller.overran = s.poller.overran ∧ s.judged.poller.boundaryFell = s.poller.boundaryFell ∧
    s.judged.poller.settings = s.poller.settings ∧ s.judged.poller.roundTimer = s.poller.roundTimer := by
  have hpoller : s.evaluating.handover.poller = s.evaluating.poller := by simp
  rw [State.judged]
  generalize s.evaluating.handover = u at hpoller
  show u.poller.overran = _ ∧ u.poller.boundaryFell = _ ∧ u.poller.settings = _ ∧ u.poller.roundTimer = _
  rw [hpoller]
  exact ⟨rfl, rfl, rfl, rfl⟩

theorem State.zone_judged (s : State) (z : Nat) : s.judged.zone z =
    if 1 ≤ z ∧ z ≤ 8 then (s.zone z).judge (s.zoneInputs z) else s.zone z := by
  rw [State.judged, (State.countRounds_views _ _).2.2.2.2.2.2.1, State.zone_handover]
  rfl

theorem State.attention_judged (s : State) : s.judged.attention = ⟨s.attention.pending |||
      (if ∃ z ∈ zoneNumbers, (s.zone z).blind ≠ ((s.zone z).judge (s.zoneInputs z)).blind
        then 0x04#8 else 0x00#8) |||
      (if ∃ z ∈ zoneNumbers, alarmLatches (s.zone z).alarm ((s.zone z).judge (s.zoneInputs z)).alarm = true
        then 0x02#8 else 0x00#8), s.attention.mask⟩ := by
  have hcounted := (State.countRounds_fields s.evaluating.handover).2.2.2.2.2.2.2.2.2.2.2.1
  rw [State.judged, hcounted, State.attention_handover]
  rfl

theorem State.sensor_judged {s : State} (h : s.climateCanonical) (e : Nat) : s.judged.sensor e =
    if (s.sensor e).address = 0 then s.sensor e else (s.sensor e).afterRound := by
  have hhanded := State.climateCanonical_handover (s := s.evaluating) h
  have hpoller : s.evaluating.handover.poller = s.evaluating.poller := by simp
  have hsensor : s.evaluating.handover.sensor e = s.sensor e := by
    rw [State.sensor, hpoller]
    rfl
  rw [State.judged, State.sensor_countRounds hhanded, hsensor]

theorem State.climateCanonical_judged {s : State} (h : s.climateCanonical) : s.judged.climateCanonical :=
  State.climateCanonical_countRounds (State.climateCanonical_handover (s := s.evaluating) h)

theorem State.runCondition_judged {s : State} (h : s.climateCanonical) : s.judged.runCondition = s.runCondition := by
  refine State.runCondition_congr s.poller_judged.2.2.1 fun e => ?_
  rw [State.configured, State.configured, State.sensor_judged h]
  split <;> rfl

theorem SensorEntry.afterRound_eq (e : SensorEntry) : e.afterRound = { e with
    rounds := if e.fresh ≠ none then some 0 else e.rounds.map fun n => min 255 (n + 1), fresh := none } := by
  unfold SensorEntry.afterRound
  cases e.fresh <;> rfl

/-! ## A zone judged (R166 to R168) -/

theorem Zone.judge_fresh {z : Zone} {l : List ZoneInput} (h : (l.filterMap fun e => e.fresh) ≠ []) : z.judge l =
    Zone.evaluate { z with assigned := l.length, failed := (l.filter fun e : ZoneInput => e.failed).length }
      (l.filterMap fun e => e.fresh) := by
  unfold Zone.judge
  dsimp only
  split
  · next r rest hl => rw [hl]
  · next hl => exact absurd hl h

theorem Zone.judge_stale {z : Zone} {l : List ZoneInput} (h : (l.filterMap fun e => e.fresh) = []) : z.judge l =
    if (l.any fun e => !e.failed) = true then
      { z with assigned := l.length, failed := (l.filter fun e : ZoneInput => e.failed).length, blind := false }
    else { z with
      assigned := l.length, failed := (l.filter fun e : ZoneInput => e.failed).length, blind := true
      band := .unknown } := by
  unfold Zone.judge
  dsimp only
  rw [h]

/-- Some entry has not failed when fewer have failed than are assigned. -/
theorem any_not_failed_iff (l : List ZoneInput) : (l.any fun e => !e.failed) = true ↔
    (l.filter fun e : ZoneInput => e.failed).length < l.length := by
  rw [List.length_filter_lt_length_iff_exists]
  simp

/-- Rounding to the nearest, a half up. -/
theorem roundedMean_bounds (sum : Int) {n : Nat} (h : 0 < n) :
    2 * (n : Int) * roundedMean sum n ≤ 2 * sum + n ∧ 2 * sum + n < 2 * (n : Int) * (roundedMean sum n + 1) := by
  have hpos : 0 < 2 * (n : Int) := by omega
  refine ⟨Int.mul_ediv_self_le (Int.ne_of_gt hpos), ?_⟩
  rw [Int.mul_add, Int.mul_one]
  exact Int.lt_mul_ediv_self_add hpos

/-- Settles O56: the last read ends the round; what the end of a round judges, counts and leaves. -/
theorem theLastReadJudgesEveryZone : Obligations.TheLastReadJudgesEveryZone := by
  refine ⟨fun s u answer hop hst hcan hlast hu => ⟨s.readDriven, ?ended⟩, fun s t hcanonical ht => ?round,
    fun z l a f fresh ha hf hfresh => ?judged, fun sum n hn => roundedMean_bounds sum hn⟩
  case ended =>
    have hconf := s.configured_readTaken answer
    rw [exec_sensorRead, if_pos ⟨hop, hst, hcan⟩, State.readEnded_eq,
      State.turnFrom_of_none (s := (s.readTaken answer).endTransaction s.readDriven) fun j hj hk =>
        (hconf j).trans (hlast j hj hk), hu]
    rfl
  case round =>
    have hclimate := State.climateCanonical_of_tables hcanonical
    have hrun := State.runCondition_judged hclimate
    have hsensors := fun e => State.sensor_judged hclimate e
    obtain ⟨hov, hfell, hset, htimer⟩ := s.poller_judged
    obtain ⟨⟨hretries, hoverran, hsettings, hattention, hcounted⟩, hwaits, hstops⟩ := State.endRound_effect s.judged
    rw [← State.evaluateRound_eq, ← ht] at hretries hoverran hsettings hattention hcounted hwaits hstops
    refine ⟨by rw [ht]; apply State.ext <;> simp, hretries, by rw [hoverran, hov, hfell], hsettings.trans hset,
      fun hr => ?run, fun hr => ?stop, hattention.trans s.attention_judged, fun e he => ?unused, fun e he => ?used⟩
    case run =>
      obtain ⟨hstate, hround, hzone⟩ := hwaits (hrun.trans hr)
      exact ⟨hstate, hround.trans htimer, fun z h1 h8 => (hzone z).trans ((s.zone_judged z).trans (if_pos ⟨h1, h8⟩)),
        fun z hz => (hzone z).trans ((s.zone_judged z).trans (if_neg (by omega)))⟩
    case stop =>
      obtain ⟨hstate, hround, hzone⟩ := hstops (hrun.trans hr) (State.climateCanonical_judged hclimate)
      refine ⟨hstate, hround, fun z y h1 h8 hy => ?_, fun z hz => ?_⟩
      · rw [hzone, s.zone_judged, if_pos ⟨h1, h8⟩, ← hy]
      · rw [hzone, s.zone_judged, if_neg (by omega)]
    case unused => rw [hcounted, hsensors, if_pos (by simpa [State.configured] using he)]
    case used =>
      rw [hcounted, hsensors, if_neg (by simpa [State.configured] using he), SensorEntry.afterRound_eq]
  case judged =>
    subst ha hf hfresh
    refine ⟨fun hsome => ⟨_, rfl, Zone.judge_fresh hsome⟩, fun hnone hlt => ?_, fun hnone heq => ?_⟩
    · rw [Zone.judge_stale hnone, if_pos ((any_not_failed_iff l).2 hlt)]
    · rw [Zone.judge_stale hnone, if_neg (mt (any_not_failed_iff l).1 (by omega))]

end Sys2Proof.Machine

/-! SUPPORT. Arbitration lost and retried, and the bus followed; O57. -/

namespace Sys2Proof.Machine

/-! ## Whether an arbitration can be lost (R157, R179) -/

theorem exec_arbitrationLoss (f : Bool) (w : Byte) (s : State) : exec (.arbitrationLoss f w) s = .next
    (if s.operating ∧ s.transacting ∧ s.canTransact ∧ s.canLose f w then s.arbitrationLost f w else s) := rfl

theorem State.canLose_of_none {s : State} (h : s.firstByte? = none) (f : Bool) (w : Byte) : s.canLose f w = false := by
  rw [State.canLose, h]

theorem State.canLose_of_some {s : State} {b : Nat} (h : s.firstByte? = some b) (f : Bool) (w : Byte) :
    s.canLose f w = (!f || decide (w.toNat < b)) := by
  rw [State.canLose, h]

theorem State.firstByte?_of_broadcasting {s : State} (h : s.poller.state = .broadcasting) : s.firstByte? = some 0 :=
  if_pos h

theorem State.firstByte?_of_reading {s : State} (h : s.poller.state = .reading) : s.firstByte? =
    if s.ownAddress s.readAddress = true then none else some (2 * s.readAddress + 1) :=
  if_neg (by rw [h]; exact nofun)

theorem State.roleAfterLoss_of_port {s : State} {w : Byte} {q : PortId} (h : s.portAt? (w.toNat / 2) = some q) :
    s.roleAfterLoss true w = .serving q := by
  rw [State.roleAfterLoss, if_pos rfl, h]

theorem State.roleAfterLoss_of_no_port {s : State} {w : Byte} (h : s.portAt? (w.toNat / 2) = none) :
    s.roleAfterLoss true w = .offBus := by
  rw [State.roleAfterLoss, if_pos rfl, h]

/-! ## The turn after a loss -/

theorem State.passUnused_of_used {s : State}
    (h : ¬(s.poller.state = .reading ∧ s.poller.begun = false ∧ s.configured s.poller.turn = false)) :
    s.passUnused = s := if_neg h

theorem State.passUnused_of_unused {s : State} (h1 : s.poller.state = .reading) (h2 : s.poller.begun = false)
    (h3 : s.configured s.poller.turn = false) :
    s.passUnused = State.turnFrom { s with poller := { s.poller with retries := 0 } } s.poller.turn :=
  if_pos ⟨h1, h2, h3⟩

/-- The state in which the part has lost, with its retry count. -/
def State.lost (s : State) (f : Bool) (w : Byte) (n : Nat) : State :=
  { s with poller := { s.poller with
    begun := false, discard := false, bus := .busy, lossRole := s.roleAfterLoss f w, retries := n } }

theorem State.arbitrationLost_retried {s : State} (h : s.poller.retries < 8) (f : Bool) (w : Byte) :
    s.arbitrationLost f w = (s.lost f w (s.poller.retries + 1)).passUnused := if_pos h

theorem State.arbitrationLost_exhausted {s : State} (h : 8 ≤ s.poller.retries) (f : Bool) (w : Byte) :
    s.arbitrationLost f w = (s.lost f w s.poller.retries).exhausted := if_neg (Nat.not_lt.2 h)

theorem State.exhausted_of_broadcasting {s : State} (h : s.poller.state = .broadcasting) :
    s.exhausted = s.endRound := by
  rw [State.exhausted, h]

theorem State.exhausted_of_reading {s : State} (h : s.poller.state = .reading) :
    s.exhausted = State.turnFrom { s with poller := { s.poller with retries := 0 } } (s.poller.turn + 1) := by
  rw [State.exhausted, h]

/-- The turn passed on after a loss: to the next configured entry, or to the end of the round. -/
theorem State.turnFrom_lost {s : State} {f : Bool} {w : Byte} {e : Nat} (hst : s.poller.state = .reading) :
    (∀ k, e ≤ k → k < 16 → s.configured k = true → (∀ j, e ≤ j → j < k → s.configured j = false) →
      (s.lost f w 0).turnFrom e = { s with poller := { (s.lost f w 0).poller with turn := k } }) ∧
    ((∀ j, e ≤ j → j < 16 → s.configured j = false) → (s.lost f w 0).turnFrom e = (s.lost f w 0).evaluateRound) := by
  refine ⟨fun k h1 h2 h3 h4 => ?_, fun h => State.turnFrom_of_none (s := s.lost f w 0) h⟩
  rw [State.turnFrom_of_configured (s := s.lost f w 0) h1 h2 h3 h4, ← hst]
  rfl

/-! ## The bus (R158, R159) -/

theorem exec_busStartCondition {s : State} (h : s.operating = true) (own : Bool) :
    exec (.busStartCondition own) s = .next (s.startSeen own) := congrArg Host.Outcome.next (if_pos h)

theorem exec_busStopCondition {s : State} (h : s.operating = true) :
    exec .busStopCondition s = .next s.busIdle := congrArg Host.Outcome.next (if_pos h)

theorem exec_busIdleTimeout (s : State) : exec .busIdleTimeout s = .next
    (if s.operating ∧ s.poller.awaitingIdle then s.busIdle else s) := rfl

theorem State.startSeen_own (s : State) : s.startSeen true =
    if s.transacting = true ∧ s.poller.begun = false ∧ s.canTransact = true ∧ s.firstByte? ≠ none
    then { s with poller := { s.poller with bus := .busy, begun := true, target := s.beginAddress } } else s := by
  have hcond : (s.transacting && !s.poller.begun && s.canTransact && s.firstByte?.isSome) = true ↔
      s.transacting = true ∧ s.poller.begun = false ∧ s.canTransact = true ∧ s.firstByte? ≠ none := by
    simp [and_assoc, Option.isSome_iff_ne_none]
  rw [State.startSeen, if_pos rfl]
  exact if_congr hcond rfl rfl

/-- Settles O57: when an arbitration can be lost, what a loss leaves while retries are left and when none is, and how
the part follows the bus. -/
theorem lossesAreRetriedAndTheBusFollowed : Obligations.LossesAreRetriedAndTheBusFollowed := by
  refine ⟨fun s f w p hop htr hcan hp => ⟨⟨rfl, fun q hq => State.roleAfterLoss_of_port hq,
      fun hq => State.roleAfterLoss_of_no_port hq⟩, fun hst => ?broadcastLoss, fun hst hown => ?ownLoss,
      fun hst hown => ?readLoss, fun hno => ?kept, fun hlose => ?lost⟩,
    fun s hop => ⟨?seen, fun htr hb hcan hbyte => ?begun, fun hno => ?notBegun, ?stop, fun hidle => ?idle,
      fun hidle => ?notIdle⟩⟩
  case broadcastLoss =>
    have hbyte := State.firstByte?_of_broadcasting hst
    exact ⟨(State.canLose_of_some hbyte true w).trans (by simp), State.canLose_of_some hbyte false w⟩
  case ownLoss => exact State.canLose_of_none ((State.firstByte?_of_reading hst).trans (if_pos hown)) f w
  case readLoss =>
    have hbyte := (State.firstByte?_of_reading hst).trans (if_neg (by simp [hown]))
    exact ⟨State.canLose_of_some hbyte false w, by rw [State.canLose_of_some hbyte true w]; simp⟩
  case kept => rw [exec_arbitrationLoss, if_neg (by simp [hno])]
  case lost =>
    subst hp
    rw [exec_arbitrationLoss, if_pos ⟨hop, htr, hcan, hlose⟩]
    refine ⟨fun h8 hused => ?retried, fun h8 hst hunused => ⟨fun k h1 h2 h3 h4 => ?skipped, fun hnone => ?skippedAll⟩,
      fun h8 hst hrun => ?waits, fun h8 hst hrun hcanonical => ?stops, fun k h8 hst h1 h2 h3 h4 => ?next,
      fun h8 hst hnone => ?last⟩
    case retried =>
      rw [State.arbitrationLost_retried h8, State.passUnused_of_used]
      · rfl
      · rintro ⟨hst, -, hconf⟩
        rcases hused with h | h
        · exact absurd (h.symm.trans hst) nofun
        · exact absurd (h.symm.trans hconf) nofun
    case skipped =>
      have hpass := (State.turnFrom_lost (f := f) (w := w) (e := s.poller.turn) hst).1 k (Nat.le_of_lt h1) h2 h3
        fun j hj hk => (Nat.lt_or_eq_of_le hj).elim (fun hlt => h4 j hlt hk) (fun heq => heq ▸ hunused)
      rw [State.arbitrationLost_retried h8, State.passUnused_of_unused (s := s.lost f w (s.poller.retries + 1)) hst rfl
        hunused]
      exact congrArg Host.Outcome.next hpass
    case skippedAll =>
      have hpass := (State.turnFrom_lost (f := f) (w := w) (e := s.poller.turn) hst).2
        fun j hj hk => (Nat.lt_or_eq_of_le hj).elim (fun hlt => hnone j hlt hk) (fun heq => heq ▸ hunused)
      rw [State.arbitrationLost_retried h8, State.passUnused_of_unused (s := s.lost f w (s.poller.retries + 1)) hst rfl
        hunused]
      exact congrArg Host.Outcome.next hpass
    case waits =>
      rw [State.arbitrationLost_exhausted h8, State.exhausted_of_broadcasting (s := s.lost f w s.poller.retries) hst,
        State.endRound_of_run (s := s.lost f w s.poller.retries) hrun]
      rfl
    case stops =>
      have hclimate := State.climateCanonical_of_tables hcanonical
      refine ⟨(s.lost f w s.poller.retries).rounded.stopPoller, ?_, rfl,
        State.zone_stopPoller_eq (s := (s.lost f w s.poller.retries).rounded) hclimate⟩
      rw [State.arbitrationLost_exhausted h8, State.exhausted_of_broadcasting (s := s.lost f w s.poller.retries) hst,
        State.endRound_of_no_run (s := s.lost f w s.poller.retries) hrun]
    case next =>
      rw [State.arbitrationLost_exhausted h8, State.exhausted_of_reading (s := s.lost f w s.poller.retries) hst]
      exact congrArg Host.Outcome.next ((State.turnFrom_lost (f := f) (w := w) hst).1 k h1 h2 h3 h4)
    case last =>
      rw [State.arbitrationLost_exhausted h8, State.exhausted_of_reading (s := s.lost f w s.poller.retries) hst]
      exact congrArg Host.Outcome.next ((State.turnFrom_lost (f := f) (w := w) hst).2 hnone)
  case seen => rw [exec_busStartCondition hop]; rfl
  case begun =>
    rw [exec_busStartCondition hop, State.startSeen_own, if_pos ⟨htr, hb, hcan, hbyte⟩]
    rfl
  case notBegun =>
    rw [exec_busStartCondition hop, State.startSeen_own, if_neg]
    rintro ⟨htr, hb, hcan, hbyte⟩
    rcases hno with h | h | h | h
    · exact absurd (htr.symm.trans h) nofun
    · exact absurd (hb.symm.trans h) nofun
    · exact absurd (hcan.symm.trans h) nofun
    · exact hbyte h
  case stop => rw [exec_busStopCondition hop]; rfl
  case idle => rw [exec_busIdleTimeout, if_pos ⟨hop, hidle⟩]; rfl
  case notIdle => rw [exec_busIdleTimeout, if_neg (by simp [hidle])]

end Sys2Proof.Machine

/-! SUPPORT. The sensor table and the poll settings, written and read; O58. -/

namespace Sys2Proof.Machine

/-! ## The poller follows the run condition (R147) -/

theorem State.followRunCondition_start {u : State} (hst : u.poller.state = .stopped) (hr : u.runCondition = true) :
    u.followRunCondition = u.startPoller := by
  rw [State.followRunCondition, hst]
  exact if_pos hr

theorem State.followRunCondition_stop {u : State} (hst : u.poller.state = .waiting) (hr : u.runCondition = false) :
    u.followRunCondition = u.stopPoller := by
  rw [State.followRunCondition, hst]
  exact if_neg (by simp [hr])

theorem State.followRunCondition_same {u : State} (h : (u.poller.state = .stopped ∧ u.runCondition = false) ∨
    (u.poller.state = .waiting ∧ u.runCondition = true) ∨
    (u.poller.state ≠ .stopped ∧ u.poller.state ≠ .waiting)) : u.followRunCondition = u := by
  obtain ⟨hst, hr⟩ | ⟨hst, hr⟩ | ⟨h1, h2⟩ := h
  · rw [State.followRunCondition, hst]
    exact if_neg (by simp [hr])
  · rw [State.followRunCondition, hst]
    exact if_pos hr
  · unfold State.followRunCondition
    split
    · next h => exact absurd h h1
    · next h => exact absurd h h2
    · rfl

/-- The poller starts, stops or goes on. -/
theorem State.followRunCondition_cases (u : State) :
    (u.poller.state = .stopped ∧ u.runCondition = true ∧ u.followRunCondition = u.startPoller) ∨
    (u.poller.state = .waiting ∧ u.runCondition = false ∧ u.followRunCondition = u.stopPoller) ∨
    u.followRunCondition = u := by
  by_cases h1 : u.poller.state = .stopped
  · cases hr : u.runCondition with
    | true => exact .inl ⟨h1, rfl, State.followRunCondition_start h1 hr⟩
    | false => exact .inr (.inr (State.followRunCondition_same (.inl ⟨h1, hr⟩)))
  · by_cases h2 : u.poller.state = .waiting
    · cases hr : u.runCondition with
      | true => exact .inr (.inr (State.followRunCondition_same (.inr (.inl ⟨h2, hr⟩))))
      | false => exact .inr (.inl ⟨h2, rfl, State.followRunCondition_stop h2 hr⟩)
    · exact .inr (.inr (State.followRunCondition_same (.inr (.inr ⟨h1, h2⟩))))

/-- Following the run condition changes neither the condition nor an entry. -/
theorem State.followRunCondition_keeps (u : State) : u.followRunCondition.runCondition = u.runCondition ∧
    u.followRunCondition.poller.settings = u.poller.settings ∧
    ∀ e, u.followRunCondition.sensor e = u.sensor e := by
  obtain ⟨-, -, h⟩ | ⟨-, -, h⟩ | h := u.followRunCondition_cases
  all_goals
    rw [h]
    exact ⟨rfl, rfl, fun e => rfl⟩

/-- The turn is left alone by a poller that is not reading, or whose entry is in use. -/
theorem State.passUnused_followed {u : State} (h : ¬(u.poller.state = .reading ∧ u.poller.begun = false ∧
    u.configured u.poller.turn = false)) : u.followRunCondition.passUnused = u.followRunCondition := by
  obtain ⟨-, -, hf⟩ | ⟨-, -, hf⟩ | hf := u.followRunCondition_cases
  · rw [hf]
    exact State.passUnused_of_used fun hread => nomatch hread.1
  · rw [hf]
    exact State.passUnused_of_used fun hread => nomatch hread.1
  · rw [hf]
    exact State.passUnused_of_used h

/-! ## SET_SENSOR (R145, R146) -/

theorem State.sensorRefusal_badField {s : State} {n a z : Nat}
    (h : 16 ≤ n ∨ (a ≠ 0 ∧ (a < 8 ∨ 119 < a ∨ s.ownAddress a = true ∨ z = 0 ∨ 8 < z))) :
    s.sensorRefusal n a z = some .badField := by
  unfold State.sensorRefusal
  split
  · rfl
  · next hn =>
    obtain ⟨h0, hbad⟩ := h.resolve_left hn
    rw [if_neg h0]
    split
    · rfl
    · next hrange =>
      split
      · rfl
      · next hown =>
        refine if_pos ?_
        obtain hlow | hhigh | hmine | hz | hz := hbad
        · exact absurd (.inl hlow) hrange
        · exact absurd (.inr hhigh) hrange
        · exact absurd hmine hown
        · omega
        · omega

theorem State.sensorRefusal_duplicate {s : State} {n a z : Nat} (hn : n < 16) (h8 : 8 ≤ a) (h119 : a ≤ 119)
    (hown : s.ownAddress a = false) (h1 : 1 ≤ z) (hz : z ≤ 8)
    (htaken : ∃ e, e < 16 ∧ e ≠ n ∧ (s.sensor e).address = a) : s.sensorRefusal n a z = some .duplicate := by
  have hany : s.addressTaken n a = true := by
    obtain ⟨e, he, hne, haddr⟩ := htaken
    exact List.any_eq_true.2 ⟨e, List.mem_range.2 he, by simp [hne, haddr]⟩
  rw [State.sensorRefusal, if_neg (Nat.not_le.2 hn), if_neg (by omega), if_neg (by omega), if_neg (by simp [hown]),
    if_neg (by omega), if_pos hany]

theorem State.setSensor_refused {s : State} {n a z : Nat} {st : Status} (hf : s.free .registry = true)
    (h : s.sensorRefusal n a z = some st) : s.Replies (.setSensor n a z) .registry s ⟨st, []⟩ := by
  refine State.replies_of_owner rfl hf ?_
  rw [h]
  rfl

/-- The state with the entry written, before the poller follows it: a read of the entry under way is discarded. -/
def State.sensorSet (s : State) (n a z : Nat) : State :=
  { s.setSensorEntry n (SensorEntry.unpolled a (if a = 0 then 0 else z)) with poller :=
    { (s.setSensorEntry n (SensorEntry.unpolled a (if a = 0 then 0 else z))).poller with
      discard := s.poller.discard ||
        (s.poller.begun && decide (s.poller.state = .reading) && decide (s.poller.turn = n)) } }

theorem State.writeSensor_eq (s : State) (n a z : Nat) :
    s.writeSensor n a z = (s.sensorSet n a z).followRunCondition.passUnused := rfl

theorem State.sensor_sensorSet (s : State) (n a z e : Nat) : (s.sensorSet n a z).sensor e =
    if e = n then SensorEntry.unpolled a (if a = 0 then 0 else z) else s.sensor e :=
  State.sensor_setSensorEntry s n e _

theorem State.configured_sensorSet (s : State) (n a z e : Nat) : (s.sensorSet n a z).configured e =
    if e = n then decide (a ≠ 0) else s.configured e := by
  rw [State.configured, State.sensor_sensorSet]
  split <;> rfl

/-- An entry in use, or none whose turn it is: the poller follows the run condition and nothing more. -/
theorem State.writeSensor_followed {s : State} {n a z : Nat}
    (h1 : s.poller.state ≠ .reading ∨ s.poller.begun = true ∨ s.poller.turn ≠ n ∨ a ≠ 0)
    (h2 : s.poller.state ≠ .reading ∨ s.poller.begun = true ∨ s.configured s.poller.turn = true) :
    s.writeSensor n a z = (s.sensorSet n a z).followRunCondition := by
  refine State.passUnused_followed ?_
  rintro ⟨hst, hb, hconf⟩
  have hread : s.poller.state = .reading := hst
  have hbegun : s.poller.begun ≠ true := by
    rw [show s.poller.begun = false from hb]
    exact nofun
  have hconf' := (s.configured_sensorSet n a z s.poller.turn).symm.trans hconf
  have hturn := (h1.resolve_left fun h => h hread).resolve_left hbegun
  have hused := (h2.resolve_left fun h => h hread).resolve_left hbegun
  by_cases ht : s.poller.turn = n
  · rw [if_pos ht] at hconf'
    exact of_decide_eq_false hconf' (hturn.resolve_left fun h => h ht)
  · rw [if_neg ht, hused] at hconf'
    cases hconf'

/-- The state with an entry taken out of use between reads. -/
def State.vacated (s : State) (n : Nat) : State :=
  { s.setSensorEntry n (SensorEntry.unpolled 0 0) with
    poller := { (s.setSensorEntry n (SensorEntry.unpolled 0 0)).poller with retries := 0 } }

theorem State.sensor_vacated (s : State) (n e : Nat) :
    (s.vacated n).sensor e = if e = n then SensorEntry.unpolled 0 0 else s.sensor e :=
  State.sensor_setSensorEntry s n e (SensorEntry.unpolled 0 0)

/-- From an entry taken out of use on, the entries in use are those behind it. -/
theorem State.configured_vacated {s : State} {n k : Nat} (h : ∀ j, n < j → j < k → s.configured j = false) (j : Nat)
    (hj : n ≤ j) (hk : j < k) : (s.vacated n).configured j = false := by
  rw [State.configured, State.sensor_vacated]
  split
  · rfl
  · next hne => exact h j (Nat.lt_of_le_of_ne hj (Ne.symm hne)) hk

/-- The entry whose turn it is, taken out of use between reads: the turn passes on. -/
theorem State.writeSensor_passed {s : State} {n : Nat} (hst : s.poller.state = .reading)
    (hb : s.poller.begun = false) (hturn : s.poller.turn = n) (z : Nat) : s.writeSensor n 0 z = (s.vacated n).turnFrom n := by
  have hset : s.sensorSet n 0 z = s.setSensorEntry n (SensorEntry.unpolled 0 0) := by
    rw [State.sensorSet, hb, Bool.false_and, Bool.false_and, Bool.or_false]
    rfl
  have hfollow : (s.sensorSet n 0 z).followRunCondition = s.sensorSet n 0 z :=
    State.followRunCondition_same (.inr (.inr ⟨fun h => absurd (hst.symm.trans h) nofun,
      fun h => absurd (hst.symm.trans h) nofun⟩))
  have hunused : (s.sensorSet n 0 z).configured s.poller.turn = false := by
    rw [State.configured_sensorSet, if_pos hturn]
    rfl
  rw [State.writeSensor_eq, hfollow, State.passUnused_of_unused (s := s.sensorSet n 0 z) hst hb hunused, hset]
  exact congrArg _ hturn

/-- Passing the turn on leaves the poll settings. -/
theorem State.settings_turnFrom (s : State) (e : Nat) : (s.turnFrom e).poller.settings = s.poller.settings := by
  unfold State.turnFrom
  split
  · rfl
  · obtain ⟨⟨-, -, hsettings, -⟩, -⟩ := State.endRound_effect s.judged
    rw [State.evaluateRound_eq, hsettings, s.poller_judged.2.2.1]

theorem State.settings_writeSensor (s : State) (n a z : Nat) :
    (s.writeSensor n a z).poller.settings = s.poller.settings := by
  have hfollow : (s.sensorSet n a z).followRunCondition.poller.settings = s.poller.settings :=
    (s.sensorSet n a z).followRunCondition_keeps.2.1
  rw [State.writeSensor_eq, State.passUnused]
  split
  · rw [State.settings_turnFrom]
    exact hfollow
  · exact hfollow

/-! ## SET_POLL (R148) -/

theorem PollSettings.clamped_eq (p : PollSettings) :
    p.clamped = ⟨p.run, max 10 (min 600 p.period), max 20 (min 2000 p.wait)⟩ := rfl

/-- The state with the poll settings written, before the poller follows them. -/
def State.polled (s : State) (c : PollSettings) : State := { s with poller := { s.poller with settings := c } }

theorem State.runCondition_polled (s : State) (c : PollSettings) :
    (s.polled c).runCondition = (decide (c.run = .run) && decide (s.configuredCount ≠ 0)) := by
  have hcount : decide (s.configuredCount ≠ 0) = (List.range Config.sensorCount).any fun e => s.configured e := by
    rw [Bool.eq_iff_iff, decide_eq_true_iff, State.configuredCount, ne_eq, List.length_eq_zero_iff,
      List.filter_eq_nil_iff]
    simp
  rw [hcount]
  rfl

theorem runSetting?_of_le {r : Nat} (h : r ≤ 1) : runSetting? r = some (if r = 0 then .run else .stop) := by
  unfold runSetting?
  split
  · rfl
  · exact if_pos (by omega)

theorem State.setPoll_replies {s : State} {r per w : Nat} {c : PollSettings} (hf : s.free .registry = true)
    (hr : r ≤ 1) (hc : c = ⟨if r = 0 then .run else .stop, max 10 (min 600 per), max 20 (min 2000 w)⟩) :
    s.Replies (.setPoll r per w) .registry (s.polled c).followRunCondition
      ⟨if c.period = per ∧ c.wait = w then .ok else .clamped, encodePollSettings c⟩ := by
  have hsame : (c = ⟨if r = 0 then .run else .stop, per, w⟩) ↔ c.period = per ∧ c.wait = w := by
    subst hc
    simp
  refine State.replies_of_owner rfl hf ?_
  rw [runSetting?_of_le hr]
  dsimp only
  rw [PollSettings.clamped_eq, ← hc, storedStatus_eq_ite]
  simp only [hsame]
  rfl

/-- The poller, as it follows new poll settings. -/
theorem State.followRunCondition_polled {s : State} (hcanonical : s.tablesCanonical = true) {c : PollSettings} {b : Bool}
    (hrun : (s.polled c).runCondition = b) :
    (s.poller.state = .stopped → b = true → (s.polled c).followRunCondition.zones = s.zones ∧
      (s.polled c).followRunCondition.poller =
        { s.poller with settings := c, state := .waiting, roundTimer := some 0 }) ∧
    (s.poller.state = .waiting → b = false →
      (s.polled c).followRunCondition.poller =
        { s.poller with settings := c, state := .stopped, roundTimer := none } ∧
      ∀ z, (s.polled c).followRunCondition.zone z =
        { s.zone z with active := (s.zone z).staged.getD (s.zone z).active, staged := none }) ∧
    ((s.poller.state = .stopped ∧ b = false) ∨ (s.poller.state = .waiting ∧ b = true) ∨
        (s.poller.state ≠ .stopped ∧ s.poller.state ≠ .waiting) →
      (s.polled c).followRunCondition.zones = s.zones ∧
      (s.polled c).followRunCondition.poller = { s.poller with settings := c }) := by
  refine ⟨fun hst hbt => ?_, fun hst hbf => ?_, fun hsame => ?_⟩
  · rw [State.followRunCondition_start (u := s.polled c) hst (hrun.trans hbt)]
    exact ⟨rfl, rfl⟩
  · rw [State.followRunCondition_stop (u := s.polled c) hst (hrun.trans hbf)]
    exact ⟨rfl, State.zone_stopPoller_eq (s := s.polled c) (State.climateCanonical_of_tables hcanonical)⟩
  · rw [← hrun] at hsame
    rw [State.followRunCondition_same (u := s.polled c) hsame]
    exact ⟨rfl, rfl⟩

/-- Settles O58: what refuses a sensor entry, what an accepted one writes and where it leaves the poller; the poll
settings. -/
theorem sensorsAndPollAreSetAndRead : Obligations.SensorsAndPollAreSetAndRead := by
  refine ⟨fun s n a z hf => ⟨fun h => State.setSensor_refused hf (State.sensorRefusal_badField h),
      fun hn h8 h119 hown h1 hz htaken =>
        State.setSensor_refused hf (State.sensorRefusal_duplicate hn h8 h119 hown h1 hz htaken),
      fun hn => State.replies_of_owner rfl hf (if_pos hn),
      fun hn => State.replies_of_owner rfl hf (if_neg (Nat.not_lt.2 hn)), ?poll⟩,
    fun s n a z hf hpass => ⟨s.writeSensor n a z, ?written, by apply State.ext <;> simp, ?settings,
      fun h1 h2 => ?followed, fun hst hb hturn ha => ?passed⟩,
    fun s r per w hf hcanonical => ⟨fun hr => ?badRun, fun hr => ⟨_, _, rfl, State.setPoll_replies hf hr rfl,
      by apply State.ext <;> simp [State.polled], fun b hb => ?polled⟩⟩⟩
  case poll =>
    refine State.replies_of_owner rfl hf ?_
    simp [State.report, Reply.ok, be_one, beFlag]
  case written =>
    refine State.replies_of_owner rfl hf ?_
    rw [hpass]
    rfl
  case settings => exact s.settings_writeSensor n a z
  case followed =>
    rw [State.writeSensor_followed h1 h2]
    obtain ⟨hrun, -, hsensor⟩ := (s.sensorSet n a z).followRunCondition_keeps
    refine ⟨(hsensor n).trans ((s.sensor_sensorSet n a z n).trans (if_pos rfl)),
      fun e he => (hsensor e).trans ((s.sensor_sensorSet n a z e).trans (if_neg he)), ?_, fun d hd =>
      ⟨fun hst hr => ?_, fun hst hr => ?_, fun hsame => ?_⟩⟩
    · exact (State.followRunCondition_fields _).2.2.2.2.2.2.2.2.2.2.1
    · rw [State.followRunCondition_start (u := s.sensorSet n a z) hst (hrun.symm.trans hr), hd]
      exact ⟨rfl, rfl⟩
    · rw [State.followRunCondition_stop (u := s.sensorSet n a z) hst (hrun.symm.trans hr), hd]
      refine ⟨rfl, fun hcanonical => State.zone_stopPoller_eq (s := s.sensorSet n a z) ?_⟩
      exact State.climateCanonical_setSensorEntry (State.climateCanonical_of_tables hcanonical) n _
    · rw [hrun] at hsame
      rw [State.followRunCondition_same (u := s.sensorSet n a z) hsame, hd]
      exact ⟨rfl, rfl⟩
  case passed =>
    subst ha
    have hsensor := s.sensor_vacated n
    rw [State.writeSensor_passed hst hb hturn]
    refine ⟨fun k h1 h2 h3 h4 => ?_, fun hnone => State.turnFrom_of_none (State.configured_vacated hnone)⟩
    have hused : (s.vacated n).configured k = true := by
      rw [State.configured, hsensor, if_neg (Nat.ne_of_gt h1)]
      exact h3
    rw [State.turnFrom_of_configured (Nat.le_of_lt h1) h2 hused (State.configured_vacated h4), ← hst]
    exact ⟨rfl, (hsensor n).trans (if_pos rfl), fun e he => (hsensor e).trans (if_neg he)⟩
  case badRun =>
    refine State.replies_of_owner rfl hf ?_
    rw [runSetting?, if_neg (by omega), if_neg (by omega)]
    rfl
  case polled =>
    refine State.followRunCondition_polled hcanonical ?_
    rw [State.runCondition_polled, hb]
    by_cases h0 : r = 0 <;> simp [h0]

end Sys2Proof.Machine

/-! SUPPORT. Zones set, read and acknowledged, and the tables of the band and the alarm; O59 and O60. -/

namespace Sys2Proof.Machine

/-! ## SET_ZONE, READ_ZONE and ACK_ALARM (R160 to R163, R172) -/

theorem monitored_iff (z : Nat) : monitored z = true ↔ 1 ≤ z ∧ z ≤ 8 := by
  simp [monitored]

theorem ZoneSettings.inOrder_iff (c : ZoneSettings) :
    c.inOrder = true ↔ c.alarmLo ≤ c.bandLo ∧ c.bandLo ≤ c.bandHi ∧ c.bandHi ≤ c.alarmHi := by
  simp [ZoneSettings.inOrder, and_assoc]

theorem ZoneSettings.clamped_eq (c : ZoneSettings) : c.clamped = ⟨min 1000 c.bandLo, min 1000 c.bandHi,
    min 100 c.hysteresis, min 1000 c.alarmLo, min 1000 c.alarmHi, max 1 (min 15 c.dwellRaise),
    max 1 (min 15 c.dwellClear), min 3 c.gang⟩ := by
  simp [ZoneSettings.clamped, clampTo]

/-- SET_ZONE, with the settings it asks for brought into their ranges. -/
theorem State.replies_setZone {s t : State} {z bl bh hy al ah dr dc g : Nat} {c : ZoneSettings} {a : Reply}
    (hf : s.free .registry = true)
    (hc : c = ⟨min 1000 bl, min 1000 bh, min 100 hy, min 1000 al, min 1000 ah, max 1 (min 15 dr), max 1 (min 15 dc),
      min 3 g⟩)
    (h : (if (monitored z && c.inOrder) = true then s.storeSettings z c else s.refuse .badField) = (t, a)) :
    s.Replies (.setZone z bl bh hy al ah dr dc g) .registry t a := by
  refine State.replies_of_owner rfl hf ?_
  dsimp only
  rw [ZoneSettings.clamped_eq, ← hc]
  exact h

theorem State.storeSettings_of_stopped {s : State} (h : s.poller.state = .stopped) (z : Nat) (c : ZoneSettings) :
    s.storeSettings z c = (s.setZone z { s.zone z with active := c }, ⟨.ok, encodeZoneSettings c⟩) := if_pos h

theorem State.storeSettings_of_running {s : State} (h : s.poller.state ≠ .stopped) (z : Nat) (c : ZoneSettings) :
    s.storeSettings z c = (s.setZone z { s.zone z with staged := some c }, ⟨.staged, encodeZoneSettings c⟩) := if_neg h

theorem length_encodeZone (s : State) (z : Nat) : (s.encodeZone z).length = 43 := by
  have hsettings : ∀ c, (encodeZoneSettings c).length = 13 := fun c => by simp [encodeZoneSettings]
  have hstaged : ∀ c, (encodeStaged c).length = 14 := fun c => by cases c <;> simp [encodeStaged, hsettings]
  have hvalue : ∀ v, (beOption 2 v).length = 3 := fun v => by cases v <;> simp [beOption]
  have htemperature : ∀ t, (encodeTemperature t).length = 3 := fun t => by
    cases t <;> simp [encodeTemperature, beInt]
  have halarm : ∀ a, (encodeAlarm a).length = 4 := fun a => by cases a <;> simp [encodeAlarm]
  simp [State.encodeZone, hsettings, hstaged, hvalue, htemperature, halarm, beFlag, beBool]

theorem State.ackAlarm_some {s : State} {z : Nat} {a : Alarm} (hf : s.free .registry = true)
    (hz : monitored z = true) (h : (s.zone z).alarm.acknowledge = some a) :
    s.Replies (.ackAlarm z) .registry (s.setZone z { s.zone z with alarm := a }) ⟨.ok, []⟩ := by
  refine State.replies_of_owner rfl hf ((if_pos hz).trans ?_)
  rw [h]
  rfl

theorem State.ackAlarm_none {s : State} {z : Nat} (hf : s.free .registry = true) (hz : monitored z = true)
    (h : (s.zone z).alarm.acknowledge = none) : s.Replies (.ackAlarm z) .registry s ⟨.nothingToAck, []⟩ := by
  refine State.replies_of_owner rfl hf ((if_pos hz).trans ?_)
  rw [h]
  rfl

/-- Settles O59: zone settings stored or staged, a zone read, and its alarm acknowledged. -/
theorem zonesAreSetReadAndAcknowledged : Obligations.ZonesAreSetReadAndAcknowledged := by
  refine ⟨fun s z bl bh hy al ah dr dc g c hf hc => ⟨fun h => ?refused, fun h1 h8 hal hb hah =>
      ⟨(s.storeSettings z c).1, ?frame, fun y hy => ?others, fun hst => ?stored, fun hst => ?staged⟩⟩,
    fun s z hf => ⟨fun h => ?unmonitored, fun h1 h8 => ⟨?read, fun a b hab ha => ?acknowledged, fun h => ?nothing⟩⟩⟩
  case refused =>
    refine State.replies_setZone hf hc (if_neg ?_)
    rw [Bool.and_eq_true, monitored_iff, ZoneSettings.inOrder_iff]
    omega
  case frame =>
    unfold State.storeSettings
    split <;> rfl
  case others =>
    unfold State.storeSettings
    split <;> exact (State.zone_setZone s z y _).trans (if_neg hy)
  case stored =>
    have hpass : (monitored z && c.inOrder) = true := by
      rw [Bool.and_eq_true, monitored_iff, ZoneSettings.inOrder_iff]
      exact ⟨⟨h1, h8⟩, hal, hb, hah⟩
    have hstore := State.storeSettings_of_stopped hst z c
    rw [hstore]
    exact ⟨(State.zone_setZone s z z _).trans (if_pos rfl), State.replies_setZone hf hc ((if_pos hpass).trans hstore)⟩
  case staged =>
    have hpass : (monitored z && c.inOrder) = true := by
      rw [Bool.and_eq_true, monitored_iff, ZoneSettings.inOrder_iff]
      exact ⟨⟨h1, h8⟩, hal, hb, hah⟩
    have hstore := State.storeSettings_of_running hst z c
    rw [hstore]
    exact ⟨(State.zone_setZone s z z _).trans (if_pos rfl), State.replies_setZone hf hc ((if_pos hpass).trans hstore)⟩
  case unmonitored =>
    have hz : ¬monitored z = true := by
      rw [monitored_iff]
      omega
    exact ⟨State.replies_of_owner rfl hf (if_neg hz), State.replies_of_owner rfl hf (if_neg hz)⟩
  case read =>
    exact ⟨State.replies_of_owner rfl hf (if_pos ((monitored_iff z).2 ⟨h1, h8⟩)), length_encodeZone s z⟩
  case acknowledged =>
    have hack : (s.zone z).alarm.acknowledge = some b := by
      rw [ha]
      obtain ⟨d, rfl, rfl⟩ | ⟨d, n, rfl, rfl⟩ := hab
      · rfl
      · rfl
    exact ⟨_, State.ackAlarm_some hf ((monitored_iff z).2 ⟨h1, h8⟩) hack, rfl,
      (State.zone_setZone s z z _).trans (if_pos rfl), fun y hy => (State.zone_setZone s z y _).trans (if_neg hy)⟩
  case nothing =>
    refine State.ackAlarm_none hf ((monitored_iff z).2 ⟨h1, h8⟩) ?_
    obtain h | ⟨d, n, h⟩ | ⟨d, h⟩ | ⟨d, n, h⟩ := h
    all_goals
      rw [h]
      rfl

/-! ## The band (R169) -/

/-- A band that was not HIGH or LOW is judged by the two thresholds. -/
theorem judgeBand_of_level {c : ZoneSettings} {b : Band} (h : b = .unknown ∨ b = .inBand) (v : Nat) :
    judgeBand c b v = if c.bandHi < v then .high else if v < c.bandLo then .low else .inBand := by
  obtain rfl | rfl := h
  · rfl
  · rfl

theorem judgeBand_of_high (c : ZoneSettings) (v : Nat) : judgeBand c .high v =
    if v < c.bandLo then .low else if v + c.hysteresis ≤ c.bandHi then .inBand else .high := rfl

theorem judgeBand_of_low (c : ZoneSettings) (v : Nat) : judgeBand c .low v =
    if c.bandHi < v then .high else if c.bandLo + c.hysteresis ≤ v then .inBand else .low := rfl

theorem Band.cases_level (b : Band) : b = .high ∨ b = .low ∨ b = .unknown ∨ b = .inBand := by
  cases b <;> simp

/-- The table of the band. -/
theorem judgeBand_table {c : ZoneSettings} (v : Nat) (b : Band) (h : c.inOrder = true) :
    (b ≠ .high → c.bandHi < v → judgeBand c b v = .high) ∧
    (b ≠ .low → v < c.bandLo → judgeBand c b v = .low) ∧
    (b = .unknown ∨ b = .inBand → c.bandLo ≤ v → v ≤ c.bandHi → judgeBand c b v = .inBand) ∧
    (b = .high → c.bandLo ≤ v → v + c.hysteresis ≤ c.bandHi → judgeBand c b v = .inBand) ∧
    (b = .high → c.bandLo ≤ v → c.bandHi < v + c.hysteresis → judgeBand c b v = .high) ∧
    (b = .low → v ≤ c.bandHi → c.bandLo + c.hysteresis ≤ v → judgeBand c b v = .inBand) ∧
    (b = .low → v ≤ c.bandHi → v < c.bandLo + c.hysteresis → judgeBand c b v = .low) := by
  obtain ⟨-, hband, -⟩ := c.inOrder_iff.1 h
  refine ⟨fun hb hv => ?_, fun hb hv => ?_, fun hb h1 h2 => ?_, fun hb h1 h2 => ?_, fun hb h1 h2 => ?_,
    fun hb h1 h2 => ?_, fun hb h1 h2 => ?_⟩
  · obtain rfl | rfl | hl := b.cases_level
    · exact absurd rfl hb
    · exact if_pos hv
    · rw [judgeBand_of_level hl, if_pos hv]
  · obtain rfl | rfl | hl := b.cases_level
    · exact if_pos hv
    · exact absurd rfl hb
    · rw [judgeBand_of_level hl, if_neg (by omega), if_pos hv]
  · rw [judgeBand_of_level hb, if_neg (by omega), if_neg (by omega)]
  · rw [hb, judgeBand_of_high, if_neg (by omega), if_pos h2]
  · rw [hb, judgeBand_of_high, if_neg (by omega), if_neg (by omega)]
  · rw [hb, judgeBand_of_low, if_neg (by omega), if_pos h2]
  · rw [hb, judgeBand_of_low, if_neg (by omega), if_neg (by omega)]

/-! ## The alarm (R170, R171) -/

/-- A value beyond the alarm threshold of a direction is present there, not gone from it, and not present opposite. -/
def ZoneSettings.beyond (c : ZoneSettings) (v : Nat) (d : Direction) : Prop :=
  c.present v d = true ∧ c.present v d.opposite = false ∧ c.gone v d = false

theorem Direction.opposite_opposite (d : Direction) : d.opposite.opposite = d := by
  cases d <;> rfl

/-- What an alarm becomes beyond the threshold of a direction. -/
theorem judgeAlarm_of_beyond {c : ZoneSettings} {v : Nat} {d : Direction} (h : c.beyond v d) (n : Nat) (k : Bool) :
    judgeAlarm c .clear v = (if c.dwellRaise ≤ 1 then .raised d else .pending d 1) ∧
    judgeAlarm c (.pending d n) v = (if c.dwellRaise ≤ n + 1 then .raised d else .pending d (n + 1)) ∧
    judgeAlarm c (.raised d) v = .raised d ∧ judgeAlarm c (.acknowledged d) v = .acknowledged d ∧
    judgeAlarm c (.settling d n k) v = (if k = true then .acknowledged d else .raised d) ∧
    judgeAlarm c (.pending d.opposite n) v = .raised d ∧ judgeAlarm c (.raised d.opposite) v = .raised d ∧
    judgeAlarm c (.acknowledged d.opposite) v = .raised d ∧
    judgeAlarm c (.settling d.opposite n k) v = .raised d := by
  obtain ⟨hpresent, hopposite, hgone⟩ := h
  have hclear : judgeAlarm c .clear v = Alarm.appear c d := by
    cases d with
    | high => exact if_pos hpresent
    | low => exact (if_neg (by rw [show c.present v .high = false from hopposite]; exact nofun)).trans (if_pos hpresent)
  refine ⟨hclear, ?_⟩
  simp only [judgeAlarm, hpresent, hopposite, hgone, Direction.opposite_opposite, if_true, if_false, Bool.false_eq_true,
    and_self]

/-- What an alarm of a direction becomes between the thresholds, as the value is gone from it or lingers. -/
theorem judgeAlarm_between {c : ZoneSettings} {v : Nat} {d : Direction} (hp : c.present v d = false)
    (ho : c.present v d.opposite = false) (n : Nat) (k : Bool) :
    judgeAlarm c .clear v = .clear ∧
    (c.gone v d = true →
      judgeAlarm c (.pending d n) v = .clear ∧
      judgeAlarm c (.raised d) v = (if c.dwellClear ≤ 1 then .clear else .settling d 1 false) ∧
      judgeAlarm c (.acknowledged d) v = (if c.dwellClear ≤ 1 then .clear else .settling d 1 true) ∧
      judgeAlarm c (.settling d n k) v = (if c.dwellClear ≤ n + 1 then .clear else .settling d (n + 1) k)) ∧
    (c.gone v d = false →
      judgeAlarm c (.pending d n) v = (if c.dwellRaise ≤ n + 1 then .raised d else .pending d (n + 1)) ∧
      judgeAlarm c (.raised d) v = .raised d ∧ judgeAlarm c (.acknowledged d) v = .acknowledged d ∧
      judgeAlarm c (.settling d n k) v = .settling d n k) := by
  have hclear : judgeAlarm c .clear v = .clear := by
    cases d with
    | high =>
      have hlow : c.present v .low = false := ho
      simp only [judgeAlarm, hp, hlow, Bool.false_eq_true, if_false]
    | low =>
      have hhigh : c.present v .high = false := ho
      simp only [judgeAlarm, hp, hhigh, Bool.false_eq_true, if_false]
  refine ⟨hclear, fun hg => ?_, fun hg => ?_⟩
  all_goals
    simp only [judgeAlarm, hp, ho, hg, Alarm.settle, if_true, if_false, Bool.false_eq_true, and_self]

/-! ## What a judgement latches and what an alarm suspends (R168, R173 to R175) -/

theorem alarmLatches_iff (x y : Alarm) : alarmLatches x y = true ↔ (∃ d, y = .raised d ∧ x ≠ .raised d) ∨
    (y = .clear ∧ x ≠ .clear ∧ ∀ d n, x ≠ .pending d n) := by
  cases y with
  | raised d => simp [alarmLatches]
  | clear => cases x <;> simp [alarmLatches]
  | pending d n => simp [alarmLatches]
  | acknowledged d => simp [alarmLatches]
  | settling d n k => simp [alarmLatches]

theorem Alarm.suspends_iff (a : Alarm) : a.suspends = true ↔
    a = .raised .high ∨ a = .acknowledged .high ∨ ∃ n k, a = .settling .high n k := by
  cases a with
  | clear => simp [Alarm.suspends]
  | pending d n => simp [Alarm.suspends]
  | raised d => cases d <;> simp [Alarm.suspends]
  | acknowledged d => cases d <;> simp [Alarm.suspends]
  | settling d n k => cases d <;> simp [Alarm.suspends]

theorem Alarm.isRaised_iff (a : Alarm) : a.isRaised = true ↔ ∃ d, a = .raised d := by
  cases a <;> simp [Alarm.isRaised]

theorem mem_zoneNumbers (z : Nat) : z ∈ zoneNumbers ↔ 1 ≤ z ∧ z ≤ 8 := by
  simp only [zoneNumbers, List.mem_cons, List.not_mem_nil, or_false]
  omega

theorem State.alarmAsserted_iff (s : State) : s.alarmAsserted = true ↔
    s.operating = true ∧ ∃ y d, 1 ≤ y ∧ y ≤ 8 ∧ (s.zone y).alarm = .raised d := by
  simp only [State.alarmAsserted, Bool.and_eq_true, List.any_eq_true, mem_zoneNumbers, Alarm.isRaised_iff]
  refine and_congr_right fun _ => ⟨?_, ?_⟩
  · rintro ⟨y, ⟨h1, h8⟩, d, hd⟩
    exact ⟨y, d, h1, h8, hd⟩
  · rintro ⟨y, d, h1, h8, hd⟩
    exact ⟨y, ⟨h1, h8⟩, d, hd⟩

theorem State.brushSuspended_iff (s : State) {z : Nat} (h1 : 1 ≤ z) (h8 : z ≤ 8) : s.brushSuspended z = true ↔
    (s.zone z).alarm.suspends = true ∨
    ((s.zone z).active.gang ≠ 0 ∧ ∃ y, 1 ≤ y ∧ y ≤ 8 ∧ y ≠ z ∧ (s.zone y).active.gang = (s.zone z).active.gang ∧
      (s.zone y).alarm.suspends = true) := by
  simp only [State.brushSuspended, h1, h8, decide_true, Bool.true_and, Bool.or_eq_true, Bool.and_eq_true,
    decide_eq_true_eq, List.any_eq_true, mem_zoneNumbers, Nat.one_le_iff_ne_zero (n := (s.zone z).active.gang),
    and_assoc]

/-- Settles O60: the tables of the band and of the alarm, what a judgement latches, and what an alarm suspends. -/
theorem bandsAndAlarmsFollowTheirTables : Obligations.BandsAndAlarmsFollowTheirTables := by
  refine ⟨fun c v b h => judgeBand_table v b h, fun c v n k h hv => ?alarm,
    fun s z b t hb ht => ⟨?zone, ?latched, alarmLatches_iff, s.alarmAsserted_iff⟩,
    fun s z => ⟨rfl, fun h1 h8 => s.brushSuspended_iff h1 h8, Alarm.suspends_iff⟩⟩
  case alarm =>
    obtain ⟨hlow, hband, hhigh⟩ := c.inOrder_iff.1 h
    have hpresent : ∀ {p : Prop} [Decidable p], ¬p → decide p = false := fun hp => decide_eq_false hp
    refine ⟨fun h1 => judgeAlarm_of_beyond (d := .high) ⟨decide_eq_true h1, hpresent (by omega), hpresent (by omega)⟩ n k,
      fun h1 h2 => ?_, fun h1 h2 => ?_, fun h1 h2 h3 => ?_,
      fun h1 => judgeAlarm_of_beyond (d := .low) ⟨decide_eq_true h1, hpresent (by omega), hpresent (by omega)⟩ n k,
      fun h1 h2 => ?_, fun h1 h2 h3 => ?_⟩
    · exact (judgeAlarm_between (d := .high) (hpresent (by omega)) (hpresent (by omega)) n k).1
    · exact (judgeAlarm_between (d := .high) (hpresent (by omega)) (hpresent (by omega)) n k).2.1 (decide_eq_true h2)
    · exact (judgeAlarm_between (d := .high) (hpresent (by omega)) (hpresent (by omega)) n k).2.2 (hpresent (by omega))
    · exact (judgeAlarm_between (d := .low) (hpresent (by omega)) (hpresent (by omega)) n k).2.1 (decide_eq_true h2)
    · exact (judgeAlarm_between (d := .low) (hpresent (by omega)) (hpresent (by omega)) n k).2.2 (hpresent (by omega))
  case zone =>
    rw [State.zone_judgeZone, if_pos rfl, ht, hb]
  case latched =>
    rw [State.attention_judgeZone, ht, hb]
    simp only [ne_eq, ite_not]

end Sys2Proof.Machine
